-- ==== Sys2Proof/Word.lean ====
section
/-! DEFINITION. The words of the part: bytes, station codes, raw codes, line levels and signalling rates
(spec 00 sections 3 and 5, 01 section 1.1). -/

namespace Sys2Proof

/-- One byte of the command link or of the DRAM. -/
abbrev Byte := BitVec 8

/-- A station code, 0x00..0x7F (R1). -/
abbrev StationCode := BitVec 7

/-- A raw 5-unit line code; unit 1 is bit 0 (00 section 5.3). -/
abbrev RawCode := BitVec 5

/-- The two line conditions; the idle line is mark (00 section 6). -/
inductive Level where
  | mark
  | space
  deriving DecidableEq, Repr

/-- The six signalling rates, in units/s (00 section 3). -/
inductive Rate where
  | r50
  | r75
  | r100
  | r150
  | r200
  | r300
  deriving DecidableEq, Repr

namespace Rate

/-- The rate index used in offers and in records (00 section 3). -/
def index : Rate → Nat
  | r50 => 0
  | r75 => 1
  | r100 => 2
  | r150 => 3
  | r200 => 4
  | r300 => 5

/-- Units per second. -/
def value : Rate → Nat
  | r50 => 50
  | r75 => 75
  | r100 => 100
  | r150 => 150
  | r200 => 200
  | r300 => 300

/-- The rate of an index; indices above 5 name none. -/
def ofIndex? : Nat → Option Rate
  | 0 => some r50
  | 1 => some r75
  | 2 => some r100
  | 3 => some r150
  | 4 => some r200
  | 5 => some r300
  | _ => none

/-- The next rate up the list 50, 75, 100, 150, 200, 300; 300 stays. -/
def up : Rate → Rate
  | r50 => r75
  | r75 => r100
  | r100 => r150
  | r150 => r200
  | r200 => r300
  | r300 => r300

/-- The next rate down the list; 50 stays. -/
def down : Rate → Rate
  | r50 => r50
  | r75 => r50
  | r100 => r75
  | r150 => r100
  | r200 => r150
  | r300 => r200

/-- The lower of two rates. -/
def lower (a b : Rate) : Rate := if a.index ≤ b.index then a else b

end Rate

/-- The level opposite to a level. -/
def Level.flip : Level → Level
  | .mark => .space
  | .space => .mark

end Sys2Proof
end

