-- ==== Sys2Proof/Syntax.lean ====
section
/-! DEFINITION. The commands of the part: one constructor for each row of spec/opcode_table.json, in the table's order. -/

namespace Sys2Proof

/-- The two holding sources of the router (R63). -/
inductive HoldingSource where
  | keyboard
  | linkText
  deriving DecidableEq, Repr

/-- What begins a wake (R158): a RING tick, the assertion of WAKE, or a change of the sense lines to the levels given. -/
inductive WakeCause where
  | ring
  | wakeInput
  | keyboard (sense : BitVec 8)
  deriving DecidableEq, Repr

/-- The number of a key, 0..63, and in how many successive scans it reads the level that the command names: its stable level
changes at the third differing reading in a row (R81). -/
structure KeyReadings where
  key : Nat
  readings : Nat
  deriving DecidableEq, Repr

/-- One command. A request carries its body as the bytes of its frame (10 section 10.4). -/
inductive Instr where
  | powerOn
  | setStation (body : List Byte)
  | setLine (body : List Byte)
  | loadCodeTable (body : List Byte)
  | loadKeymap (body : List Byte)
  | setAnswerback (body : List Byte)
  | setEom (body : List Byte)
  | setRoutes (body : List Byte)
  | setPrinter (body : List Byte)
  | setPunch (body : List Byte)
  | answer (body : List Byte)
  | call (body : List Byte)
  | clear (body : List Byte)
  | sendBreak (body : List Byte)
  | sendAnswerback (body : List Byte)
  | standby (body : List Byte)
  | linkText (body : List Byte)
  | playback (body : List Byte)
  | playbackResume (body : List Byte)
  | playbackCancel (body : List Byte)
  | storeOpen (body : List Byte)
  | storeAppend (body : List Byte)
  | storeClose (body : List Byte)
  | readMessage (body : List Byte)
  | release (body : List Byte)
  | listDirectory (body : List Byte)
  | printMessage (body : List Byte)
  | printerRestart (body : List Byte)
  | punchMessage (body : List Byte)
  | punchControlContinue (body : List Byte)
  | punchControlCancel (body : List Byte)
  | punchControlFeed (body : List Byte)
  | status (body : List Byte)
  | fetchReport (body : List Byte)
  | resetStation (body : List Byte)
  /-- The CHECK byte of the frame being received. -/
  | frameReceived (check : Byte)
  | frameAbandoned
  | linkFrameSent
  | characterReceived
  | breakThreshold
  | clearThreshold
  | loopCurrentLost
  | ringAsserted
  | ringAbsent
  | ringQualified
  | ringLockoutClear
  | answerWaitExpiry
  | loopCurrentPresent
  | loopTimerExpiry
  | agreementTimer3s
  | agreementTimer7s
  | idleClearExpiry
  | standbyAfterExpiry
  | breakSignalEnd
  | clearSignalComplete
  | clearingLossCount
  | sentPoint
  | frontStopEnd
  | arbiterFill
  | holdingSourceTake (source : HoldingSource)
  | lostMarkJoin
  /-- The key reads down. -/
  | keyDown (keys : KeyReadings)
  /-- The key reads up. -/
  | keyUp (keys : KeyReadings)
  | repeatTimerExpiry
  /-- Bit k tells whether key k reads down in the scan. -/
  | freshStartScan (down : BitVec 64)
  | wakeEvent (cause : WakeCause)
  | wakeComplete
  | motorStart
  | motorReady
  | motorStartTimeout
  | motorReadyDrop
  | motorOffTimerExpiry
  | printerTake
  | printCycleEnd
  | encoderPulse
  | stepTimeout
  | returnComplete
  | returnTimeout
  | lineFeedComplete
  | bellPulseEnd
  | paperOut
  | paperBack
  | punchTakeEntry
  | punchCycleEnd
  | punchJobStart
  | tapeLowAsserted
  | tapeLowClear
  | refreshTimer
  | memoryInitComplete
  | dramGrant
  | dramAccessComplete
  | writeQueueClaim
  | writeThrough
  /-- The sample index of the third sample, counted from the start transition of the character in progress, and the three
  samples of RXD as the line interface presents them. -/
  | filteredTransition (date : Nat) (s1 s2 s3 : Level)
  | startUnitCheck
  /-- The byte that arrives. -/
  | linkByteReceived (byte : Byte)
  | rightwardStep
  deriving DecidableEq, Repr

end Sys2Proof
end

