-- ==== Sys2Proof/Decode.lean ====
section
/-! DEFINITION. The command that a word of bits spells by spec/opcode_table.json: no row of that table gives bits, so no
word spells a command. -/

namespace Sys2Proof

/-- The table gives no row any bits. -/
def decodeTableWord (_nbits _w : Nat) : Option Instr := none

end Sys2Proof
end

