-- ==== Sys2Proof/Config.lean ====
section
/-! DEFINITION. What is fixed for the part: capacities, counts of ticks and the codes with a meaning of their own, and the
free values of the model (log 7, log 57, log 61). -/

namespace Sys2Proof.Config

/-- A byte whose value the spec does not state; nothing is known of it (log 7). -/
opaque freeByte : Nat → Byte

/-- A reading of an input that no command carries; nothing is known of it (log 57, log 61). -/
opaque freeReading : Nat → Bool

/-- ASK-ID (R1). -/
def askId : StationCode := 0x01#7
/-- BELL (R1). -/
def bell : StationCode := 0x02#7
/-- CR (R1). -/
def cr : StationCode := 0x03#7
/-- LF (R1). -/
def lf : StationCode := 0x04#7
/-- SPACE (R1). -/
def space : StationCode := 0x20#7
/-- The ERROR mark (R1). -/
def errorMark : StationCode := 0x7F#7

/-- SYNC of a frame (10 section 10.1). -/
def sync : Byte := 0xA5#8

/-- Cells of the DRAM (R161). -/
def cells : Nat := 524288
/-- Entries of the directory (R170). -/
def dirCapacity : Nat := 64
/-- Places of the write queue (R169). -/
def writeQueueCapacity : Nat := 4
/-- Free cells asked for by the store check (R142). -/
def storeCheckCells : Nat := 1024
/-- Printer queue (R107). -/
def printerQueueCapacity : Nat := 64
/-- Print-job list (R111). -/
def printJobCapacity : Nat := 4
/-- Punch queue (R122). -/
def punchQueueCapacity : Nat := 32
/-- Punch-job chain (R125). -/
def punchChainCapacity : Nat := 8
/-- Keyboard buffer (R89). -/
def keyBufferCapacity : Nat := 32
/-- Key-down list (R82). -/
def keyListCapacity : Nat := 4
/-- Repeats of one REPT hold (R91). -/
def repeatLimit : Nat := 72
/-- Link-text holding (R69). -/
def linkTextCapacity : Nat := 64
/-- Report queue (R186). -/
def reportCapacity : Nat := 24
/-- MESSAGE and PUNCH-JOB-DONE reports queued at most (R186). -/
def eventCapacity : Nat := 12
/-- Codes of a TEXT report (R78). -/
def textCapacity : Nat := 16
/-- Input holding (R182). -/
def holdingCapacity : Nat := 2
/-- Refresh debt at which a refresh is forced (R163). -/
def debtLimit : Nat := 8

/-- Ring ticks in a row that qualify a ring (R142). -/
def ringTicks : Nat := 16
/-- Ticks of absence that clear the ring lockout (R141). -/
def lockoutTicks : Nat := 128
/-- Answer-wait timer (R143). -/
def answerWaitTicks : Nat := 1920
/-- Loop timer (R145). -/
def loopTicks : Nat := 320
/-- Ticks without loop current that lose the line (R35, R154). -/
def lossTicks : Nat := 4
/-- Agreement timer, no complete partner offer (R60). -/
def agreementShortTicks : Nat := 192
/-- Agreement timer, no receive switch (R60). -/
def agreementLongTicks : Nat := 448
/-- Motor-off timer: 10 s (R98; log 68). -/
def motorOffTicks : Nat := 640
/-- Break signal (R48). -/
def breakTicks : Nat := 20
/-- Clear signal (R51). -/
def clearTicks : Nat := 128
/-- The fast oscillator, in Hz (00 section 3). -/
def fastHz : Nat := 3686400
/-- Cycles of the fast oscillator in one supervision tick of 1/64 s (00 section 3). -/
def tickCycles : Nat := 57600
/-- Readings in a row that change a stable level (R81). -/
def agreeLimit : Nat := 3

end Sys2Proof.Config
end

