-- ==== Sys2Proof/Machine/State.lean ====
section
/-! DEFINITION. The state of the part as plain data, block by block, and the state after power-on. -/

namespace Sys2Proof.Machine

/-! ### Faults and refusals -/

/-- Why the machine stops. -/
inductive Fault where
  /-- Raised by the grant and the end of a DRAM access to a cell at or above 524,288, which the device of R161 does not
  have. Safe: the ring arithmetic of R167 never names such a cell, and a stop proves nothing about the part. -/
  | noSuchCell
  deriving DecidableEq, Repr

/-- Why a command has no meaning. -/
inductive Refusal where
  /-- Raised by an arm of exec whose command has no meaning yet; no arm does. Safe: nothing is proved of such a command. -/
  | notModelled (mnemonic : String)
  deriving DecidableEq, Repr

/-! ### Code converter (01) -/

/-- The two planes of the code table (R2). -/
inductive Plane where
  | letters
  | figures
  deriving DecidableEq, Repr

/-- A transmit plane or punch shift state (R7). -/
inductive Shift where
  | letters
  | figures
  | unknown
  deriving DecidableEq, Repr

/-- One plane of the code table: 32 entries, none for UNASSIGNED, and its loaded mark (R2). -/
structure PlaneTable where
  entries : Vector (Option StationCode) 32
  loaded : Bool
  deriving DecidableEq, Repr

/-- Who supplied a transmit slot's entry (R40). -/
inductive SlotSource where
  | offer
  | answerback
  | playback
  | keyboard
  | linkText
  deriving DecidableEq, Repr

/-- What a transmit slot's entry is (R40): a shift code, an offer code with its place in the offer and whether its offer is
acknowledged, or the raw code of a character. -/
inductive SlotKind where
  | shift
  | offerCode (index : Nat) (ack : Bool)
  | char
  deriving DecidableEq, Repr

/-- An entry of a transmit slot (R40): `index` tells which character of a PLAYBACK or ANSWERBACK source it carries, `run`
which playback gave it (log 33). -/
structure Slot where
  code : RawCode
  source : SlotSource
  kind : SlotKind
  index : Nat
  run : Nat
  deriving DecidableEq, Repr

/-- The code converter (R2, R5, R7, R10, R11, R13, R14). -/
structure Converter where
  letters : PlaneTable
  figures : PlaneTable
  ltrsShift : Option RawCode
  figsShift : Option RawCode
  valid : Bool
  rxPlane : Plane
  txPlane : Shift
  unshift : Bool
  answerback : List StationCode
  eom : List StationCode
  m : Nat
  held : Option Slot
  deriving DecidableEq, Repr

/-! ### Line receiver (02) -/

/-- How RXD is read (R17). -/
inductive Sense where
  | normal
  | inverted
  deriving DecidableEq, Repr

/-- The receiver's states (02 section 2.2). -/
inductive RxState where
  | hunt
  | startCheck
  | assemble
  | waitMark
  deriving DecidableEq, Repr

/-- The line receiver (R16 to R36). -/
structure Receiver where
  rate : Rate
  sense : Sense
  cfgSense : Sense
  loopCurrent : Bool
  level : Level
  state : RxState
  sc : Int
  /-- Filtered transitions of the character in progress, in order of date: the date and the level from then on. -/
  edges : List (Nat × Level)
  /-- The measured transitions of the character: nearest boundary and displacement d. -/
  measured : List (Nat × Int)
  q : Nat
  n : Nat
  a : Int
  s : Int
  goodSeen : Bool
  inversionMade : Bool
  spaceCount : Nat
  lossCount : Nat
  breakReady : Bool
  clearReady : Bool
  brk : Nat
  clr : Nat
  autoPolarity : Bool
  orientation : Bool
  s0 : Int
  qt : Nat
  deriving DecidableEq, Repr

/-- The latches that STATUS reports and clears (R37, R79, R186). -/
structure Latches where
  breakSeen : Bool
  polarityReversed : Bool
  lineLost : Bool
  agreementFault : Bool
  linkTextLost : Bool
  eventLost : Bool
  deriving DecidableEq, Repr

/-! ### Line transmitter (03) -/

/-- The stop length (R39). -/
inductive StopLength where
  | one
  | oneAndHalf
  | two
  deriving DecidableEq, Repr

/-- The slot FRONT: its entry, whether it has passed its sent point, the rate and stop length it started with, and the cycles
of the fast oscillator since its start unit began (R39; log 21). -/
structure Front where
  slot : Slot
  sent : Bool
  rate : Rate
  stop : StopLength
  cycles : Nat
  deriving DecidableEq, Repr

/-- The long signal in progress, with the ticks since it began (R48, R51). -/
inductive Signal where
  | none
  | brk (ticks : Nat)
  | clr (ticks : Nat)
  deriving DecidableEq, Repr

/-- The answerback duty (R45). -/
inductive Duty where
  | none
  | pending
  | sending
  deriving DecidableEq, Repr

/-- The line transmitter (R39 to R53). -/
structure Transmitter where
  rate : Rate
  front : Option Front
  next : Option Slot
  txd : Level
  signal : Signal
  duty : Duty
  /-- The count g of answerback characters given (R46). -/
  given : Nat
  /-- The count t of answerback characters sent or passed (R46). -/
  counted : Nat
  /-- The unsendable answerback characters given and not yet counted (R46). -/
  passed : List Nat
  stopLength : StopLength
  answerbackOnConnect : Bool
  deriving DecidableEq, Repr

/-! ### Rate agreement unit (03) -/

/-- The offer parser (R56); `m2` keeps the M1 read. -/
inductive Parser where
  | first
  | second
  | m1
  | m2 (m1 : RawCode)
  deriving DecidableEq, Repr

/-- The rate agreement unit (R54 to R62). -/
structure Agreement where
  active : Bool
  /-- The local mask holds every rate up to this one (R54). -/
  localTop : Rate
  localQuality : Bool
  keptM1 : Option RawCode
  partnerMask : Option RawCode
  parser : Parser
  offerSeen : Bool
  nextCode : Nat
  formed : Nat
  sent : Nat
  rcvd : Nat
  txSwitched : Bool
  rxSwitched : Bool
  partnerQuality : Option Bool
  timer : Nat
  ceiling : Rate
  cfgMax : Rate
  deriving DecidableEq, Repr

/-! ### Router (04) -/

/-- The sources of the router (R63). -/
inductive Source where
  | lineIn
  | keyboard
  | linkText
  | playback
  | answerback
  deriving DecidableEq, Repr

/-- A row of a route set: the sinks it holds (R64). -/
structure Row where
  printer : Bool
  punch : Bool
  lineOut : Bool
  store : Bool
  link : Bool
  deriving DecidableEq, Repr

/-- A route set: a row for each source (R64). -/
structure RouteSet where
  lineIn : Row
  keyboard : Row
  linkText : Row
  playback : Row
  answerback : Row
  deriving DecidableEq, Repr

/-- The router (R64, R69). -/
structure Router where
  localSet : RouteSet
  attended : RouteSet
  unattended : RouteSet
  linkText : List StationCode
  deriving DecidableEq, Repr

/-! ### Keyboard unit (05) -/

/-- The kinds of a keymap entry (R86). -/
inductive KeyKind where
  | char
  | shift
  | rept
  | brk
  | hereIs
  | localLine
  | none
  deriving DecidableEq, Repr

/-- A keymap entry; only a CHAR entry holds codes (R86). -/
inductive KeymapEntry where
  | char (unshifted shifted : StationCode)
  | shift
  | rept
  | brk
  | hereIs
  | localLine
  | none
  deriving DecidableEq, Repr

/-- The state of a key (R82); the stable level is DOWN in every state but `up`. -/
inductive KeyState where
  | up
  | recognised
  | heldFull
  | heldGhost
  | spent
  deriving DecidableEq, Repr

/-- A place of the key-down list: the key, the kind recorded at recognition and the code a CHAR key produced (R87). -/
structure DownKey where
  key : Nat
  kind : KeyKind
  code : Option StationCode
  deriving DecidableEq, Repr

/-- The REPT hold (R90). -/
inductive Hold where
  | absent
  | active
  | exhausted
  deriving DecidableEq, Repr

/-- The keyboard unit (R80 to R95): `pos` is the key that the scan reads next, so that drive line `pos / 8` is driven. -/
structure Keyboard where
  keymap : Vector KeymapEntry 64
  keys : Vector KeyState 64
  agree : Vector Nat 64
  pos : Nat
  list : List DownKey
  heldFull : List Nat
  buffer : List StationCode
  hold : Hold
  count : Nat
  target : Option (Nat × StationCode)
  timer : Option Nat
  fresh : Bool
  running : Bool
  noted : BitVec 8
  deriving DecidableEq, Repr

/-! ### Printer unit (06) -/

/-- The mechanism states (R96). -/
inductive PrState where
  | off
  | starting
  | ready
  | printing
  | returning
  | feeding
  | paperOut
  | jammed
  deriving DecidableEq, Repr

/-- The printer's mode (R96). -/
inductive PrMode where
  | direct
  | catchUp
  deriving DecidableEq, Repr

/-- The line-end policy (R102). -/
inductive Policy where
  | overprint
  | autoNewline
  deriving DecidableEq, Repr

/-- A tag: a message number and a position in that message (R107). -/
structure Tag where
  number : Nat
  pos : Nat
  deriving DecidableEq, Repr

/-- A printer queue entry (R107). -/
structure PrEntry where
  code : StationCode
  tag : Option Tag
  deriving DecidableEq, Repr

/-- Where a character being printed came from (R106). -/
inductive Origin where
  | queue (tag : Option Tag)
  | catchUp (tag : Tag)
  | job (tag : Tag)
  deriving DecidableEq, Repr

/-- A character the printer has taken. -/
structure PrChar where
  code : StationCode
  origin : Origin
  deriving DecidableEq, Repr

/-- A print job (R111). -/
structure PrintJob where
  number : Nat
  start : Nat
  cursor : Nat
  deriving DecidableEq, Repr

/-- How far the head print job has run (R112, R113): `suspendDue` is suspended with its new line still to be made. -/
inductive JobRun where
  | notStarted
  | body
  | closing
  | suspendDue
  | suspended
  deriving DecidableEq, Repr

/-- A print cycle in progress (R100): `stepped` once its 12 ms have passed, `awaiting` while its encoder pulse is expected;
`lineLength` is the line length in force when its character was taken (R118), `cycles` the cycles of the fast oscillator that
have passed since its start (R101; log 21). -/
structure PrCycle where
  char : PrChar
  stepped : Bool
  awaiting : Bool
  lineLength : Nat
  cycles : Nat
  deriving DecidableEq, Repr

/-- A carriage return in progress (R103): the CR it carries, none for the printer's own, the overlapping line feeds of text that
have ended and wait for it (R104), and whether HOME has been read asserted within it (R99; log 57). -/
structure Carriage where
  char : Option PrChar
  feeds : List PrChar
  homed : Bool
  deriving DecidableEq, Repr

/-- A line feed in progress (R104): the LF it carries, none for the printer's own. -/
structure Feed where
  char : Option PrChar
  deriving DecidableEq, Repr

/-- The printer unit (R96 to R119, R75). -/
structure Printer where
  state : PrState
  motorOn : Bool
  mode : PrMode
  catchUp : Option Nat
  tracked : Option Nat
  unavailable : Bool
  startPending : Bool
  queue : List PrEntry
  lostPending : Bool
  lostCode : StationCode
  jobs : List PrintJob
  jobRun : JobRun
  column : Nat
  columnKnown : Bool
  lineEnd : Bool
  intensityReq : Nat
  intensity : Nat
  cycle : Option PrCycle
  ret : Option Carriage
  feed : Option Feed
  /-- A character taken that waits for the printer's own newline (R102). -/
  waiting : Option PrChar
  /-- Characters read from the store and not yet taken for printing, and the position of the first (R109, R112). -/
  buf : List StationCode
  bufPos : Nat
  /-- The hammer pulse train runs (R100). -/
  hammer : Bool
  bell : Bool
  paper : Bool
  motorFailed : Bool
  /-- The motor-off timer: the ticks it has counted since it was set to 10 s, 0 while it stands (R96, R98; log 68). -/
  offTicks : Nat
  /-- Messages of the tagged characters that a jam left incomplete (log 17). -/
  jamTags : List Nat
  lineLength : Nat
  margin : Nat
  policy : Policy
  deriving DecidableEq, Repr

/-! ### Punch unit (07) -/

/-- The punch states (R120). -/
inductive PuState where
  | off
  | ready
  | punching
  | leader
  | held
  | tapeLowHold
  deriving DecidableEq, Repr

/-- A punch queue entry (R122): TEXT, RAW BLANK with its run, or RAW LETTERS-SHIFT. -/
inductive PunchEntry where
  | text (code : StationCode) (tag : Option Tag)
  | blank (run : Nat)
  | ltrs
  deriving DecidableEq, Repr

/-- A punch job (R125). -/
structure PunchJob where
  number : Nat
  start : Nat
  leader : Nat
  trailer : Nat
  follow : Bool
  cursor : Nat
  readPos : Nat
  deriving DecidableEq, Repr

/-- The phase of the running job (R126 to R128). -/
inductive Stage where
  | none
  | body
  | trailer
  deriving DecidableEq, Repr

/-- A punch cycle in progress (R121): the row's raw code, and the character its end completes, with that character's tag.
`cancelled` once a CANCEL has ended the job it was begun for (R134), `cycles` of the fast oscillator since it began (log 21). -/
structure PunchCycle where
  code : RawCode
  completes : Option (Option Tag)
  cancelled : Bool
  cycles : Nat
  deriving DecidableEq, Repr

/-- Codes of a character still to be punched, held between cycles (R123). -/
structure PunchHeld where
  codes : List RawCode
  tag : Option Tag
  deriving DecidableEq, Repr

/-- The punch unit (R120 to R137). -/
structure Punch where
  state : PuState
  queue : List PunchEntry
  chain : List PunchJob
  stage : Stage
  shift : Shift
  held : Option PunchHeld
  cycle : Option PunchCycle
  holdPending : Bool
  tapeLow : Bool
  onTimeReq : Nat
  onTime : Nat
  defLeader : Nat
  defTrailer : Nat
  deriving DecidableEq, Repr

/-! ### Call controller (08) -/

/-- The call states (08 section 8.2), in the order of that table. -/
inductive CallState where
  | standby
  | idle
  | ringCheck
  | starting
  | answering
  | originating
  | agreeing
  | connected
  | clearing
  deriving DecidableEq, Repr

/-- Station mode and call mode (R138). -/
inductive Mode where
  | attended
  | unattended
  deriving DecidableEq, Repr

/-- The outcome of rate agreement (R147). -/
inductive AgreeOutcome where
  | agreed
  | plain
  | fault
  deriving DecidableEq, Repr

/-- The line verdict (R28). -/
inductive Verdict where
  | poor
  | good
  | neutral
  deriving DecidableEq, Repr

/-- The causes of clearing, in the order of R152. -/
inductive Cause where
  | clearRequest
  | remoteClear
  | lineLost
  | idleTimeout
  | storeFull
  | noLoop
  deriving DecidableEq, Repr

/-- The playback states (R156). -/
inductive PlayState where
  | idle
  | running
  | paused
  | done
  | cancelled
  deriving DecidableEq, Repr

/-- The playback (R50, R155, R156): `buf` holds the characters read ahead from `readPos`, `skipped` the unsendable
positions the sent cursor has still to pass, `run` counts playbacks (log 33). -/
structure Play where
  state : PlayState
  number : Nat
  readPos : Nat
  buf : List StationCode
  skipped : List Nat
  run : Nat
  deriving DecidableEq, Repr

/-- The call controller (R138 to R160). -/
structure CallCtl where
  state : CallState
  loopClose : Bool
  mode : Mode
  callMode : Option Mode
  configured : Bool
  ringCount : Nat
  lockout : Bool
  quiet : Nat
  attendedWait : Bool
  answerWait : Option Nat
  loopTimer : Option Nat
  idleTimer : Option Nat
  standbyTimer : Option Nat
  idleClear : Nat
  standbyAfter : Nat
  autoRelease : Bool
  rate : Option Rate
  outcome : Option AgreeOutcome
  partnerQuality : Option Bool
  reached : Bool
  cause : Cause
  verdict : Verdict
  ceilingLeft : Rate
  lossCount : Nat
  waking : Bool
  standbyPending : Bool
  play : Play
  deriving DecidableEq, Repr

/-! ### Message store (09) -/

/-- A bank's state (R161). -/
inductive Bank where
  | undetermined
  | closed
  | open (row : Nat)
  deriving DecidableEq, Repr

/-- The direction of a message (R170). -/
inductive Dir where
  | in
  | out
  deriving DecidableEq, Repr

/-- The state of a directory entry (R170). -/
inductive MsgState where
  | open
  | closed
  | released
  deriving DecidableEq, Repr

/-- The flags of a directory entry (R170). -/
structure MsgFlags where
  complete : Bool
  endedByClear : Bool
  truncated : Bool
  poorLine : Bool
  printIncomplete : Bool
  punchSkipped : Bool
  deriving DecidableEq, Repr

/-- A directory entry (R170), with its header rewrite mark (R174). -/
structure Entry where
  number : Nat
  dir : Dir
  state : MsgState
  header : Nat
  length : Nat
  flags : MsgFlags
  errors : Nat
  rate : Option Rate
  peakQ : Nat
  print : Nat
  punch : Nat
  sent : Nat
  delivered : Nat
  trackedMark : Bool
  punchNamed : Bool
  headerDue : Bool
  deriving DecidableEq, Repr

/-- The states of an assembly cell (R168). -/
inductive AsmState where
  | empty
  | filling
  | waiting
  deriving DecidableEq, Repr

/-- An assembly cell (R168). -/
structure Asm where
  state : AsmState
  number : Nat
  target : Nat
  chars : List StationCode
  changed : Bool
  deriving DecidableEq, Repr

/-- A write-queue entry (R169): the bytes from byte 0 of the cell upward; the bytes beyond them are masked (R162). -/
structure CellWrite where
  target : Nat
  bytes : List Byte
  deriving DecidableEq, Repr

/-- The readers of stored text (R176). -/
inductive Reader where
  | playback
  | printer
  | punch
  | host
  deriving DecidableEq, Repr

/-- What a granted access does (R162); `live` is false once the reader has abandoned the read (R176). -/
inductive Work where
  | refresh
  | write (entry : CellWrite)
  | read (reader : Reader) (cell : Nat) (live : Bool)
  deriving DecidableEq, Repr

/-- The access in progress, with its duration in fast-oscillator cycles (R162). -/
structure Access where
  work : Work
  cycles : Nat
  deriving DecidableEq, Repr

/-- An outstanding read: from a position of a message to the end of its cell (R176). -/
structure Read where
  number : Nat
  pos : Nat
  deriving DecidableEq, Repr

/-- A READ-MESSAGE being served: the clamped offset and count, and the characters read so far (R177). -/
structure HostRead where
  number : Nat
  offset : Nat
  count : Nat
  got : List StationCode
  deriving DecidableEq, Repr

/-- The message store (R161 to R181). -/
structure Store where
  memInit : Bool
  selfRefresh : Bool
  banks : Vector Bank 4
  debt : Nat
  access : Option Access
  head : Nat
  tail : Nat
  free : Nat
  inCell : Asm
  outCell : Asm
  queue : List CellWrite
  dir : List Entry
  nextNumber : Nat
  playRead : Option Read
  printRead : Option Read
  punchRead : Option Read
  hostRead : Option HostRead
  deriving DecidableEq, Repr

/-! ### Command link (10) -/

/-- The link receiver (R182): in a frame it keeps the bytes after SYNC. -/
inductive LinkRx where
  | hunt
  | inFrame (bytes : List Byte)
  | stopped
  deriving DecidableEq, Repr

/-- A received frame in the input holding. -/
structure Frame where
  kind : Byte
  body : List Byte
  deriving DecidableEq, Repr

/-- The results of requests (R184). -/
inductive Result where
  | ok
  | part (n : Nat)
  | busy
  | wrongState
  | badValue (position : Byte)
  | tableConflict
  | noSuchMessage
  | inUse
  | full
  deriving DecidableEq, Repr

/-- What a request is answered: the result and the data that follow it (R184). -/
structure Answer where
  result : Result
  data : List Byte
  deriving DecidableEq, Repr

/-- The reasons of a rejection (R183). -/
inductive RejectReason where
  | format
  | check
  | overrun
  deriving DecidableEq, Repr

/-- The reasons of RING-REFUSED (10 section 10.4). -/
inductive RingReason where
  | notConfigured
  | storeFull
  | notAnswered
  | declined
  deriving DecidableEq, Repr

/-- The causes of JAMMED (R115). -/
inductive JamCause where
  | step
  | ret
  | motor
  deriving DecidableEq, Repr

/-- The outcomes of PLAYBACK-DONE (R156). -/
inductive PlayOutcome where
  | done
  | cancelled
  deriving DecidableEq, Repr

/-- A report with the content of its kind (10 section 10.4). -/
inductive Report where
  | jammed (cause : JamCause)
  | agreementFault
  | ring
  | ringRefused (reason : RingReason)
  | callConnected (rate : Rate) (outcome : AgreeOutcome) (quality : Option Bool)
  | callEnded (cause : Cause) (rate : Option Rate) (outcome : Option AgreeOutcome) (verdict : Verdict) (ceiling : Rate)
  | breakReceived
  | messageOpened (number : Nat) (rate : Option Rate)
  | messageClosed (number : Nat) (flags : MsgFlags)
  | playbackDone (number : Nat) (outcome : PlayOutcome) (sent : Nat)
  | paperOut
  | paperBack
  | tapeLow
  | punchJobDone (number : Nat) (follow : Bool) (cursor : Nat)
  | unsendable (code : StationCode)
  | noAnswerback
  | keyRefused (key : Nat) (code : StationCode) (isRepeat : Bool)
  | localLine (key : Nat)
  | text (source : Source) (codes : List StationCode)
  deriving DecidableEq, Repr

/-- A frame that leaves the part (R183, R184, R187). -/
inductive OutFrame where
  | reply (kind : Byte) (answer : Answer)
  | rejected (reason : RejectReason) (kind : Byte) (count : Nat)
  | report (report : Report)
  deriving DecidableEq, Repr

/-- The OVERRUN mark kept in the link until its place in the reply queue comes (R183): `behind` replies are still to join. -/
structure Overrun where
  kind : Byte
  count : Nat
  behind : Nat
  deriving DecidableEq, Repr

/-- The report mode (R187). -/
inductive ReportMode where
  | push
  | pull
  deriving DecidableEq, Repr

/-- The command link (R182 to R191). -/
structure Link where
  rx : LinkRx
  holding : List Frame
  replies : List OutFrame
  overrun : Option Overrun
  reports : List Report
  mode : ReportMode
  sending : Option OutFrame
  deriving DecidableEq, Repr

/-- The input pins (00 section 2), as the outside drives them (log 14). -/
structure Pins where
  rxd : Level
  loopSense : Bool
  ring : Bool
  wake : Bool
  /-- The level that each of S0 to S7 shows with every drive line driven. -/
  sense : BitVec 8
  /-- What each key read at its last reading. -/
  keys : Vector Bool 64
  motorReady : Bool
  home : Bool
  paperOk : Bool
  tapeLow : Bool
  deriving DecidableEq, Repr

/-! ### The whole part -/

/-- The state of the part. `mem` is the content of the DRAM: addresses rising, no entry equal to what an unlisted address
reads as. `freeCount` numbers the free values taken (log 7, log 57, log 61). `pending` is the queue of commands. -/
structure State where
  conv : Converter
  rx : Receiver
  latches : Latches
  tx : Transmitter
  agr : Agreement
  router : Router
  kb : Keyboard
  pr : Printer
  pu : Punch
  call : CallCtl
  store : Store
  link : Link
  mem : List Host.Cell
  pins : Pins
  freeCount : Nat
  pending : List Instr
  deriving DecidableEq, Repr

/-! ### The state after power-on -/

/-- The code converter at power-on (01 section 1.8). -/
def Converter.reset : Converter :=
  { letters := ⟨Vector.replicate 32 none, false⟩, figures := ⟨Vector.replicate 32 none, false⟩
    ltrsShift := none, figsShift := none, valid := false
    rxPlane := .letters, txPlane := .unknown, unshift := false
    answerback := [], eom := [], m := 0, held := none }

/-- The line receiver at power-on (02 section 2.9, R36). -/
def Receiver.reset : Receiver :=
  { rate := .r50, sense := .normal, cfgSense := .normal, loopCurrent := false, level := .mark
    state := .hunt, sc := 0, edges := [], measured := []
    q := 0, n := 0, a := 0, s := 0, goodSeen := false, inversionMade := false
    spaceCount := 0, lossCount := 0, breakReady := true, clearReady := true
    brk := 10, clr := 96, autoPolarity := true, orientation := true, s0 := 0, qt := 1536 }

/-- The latches at power-on (R37, R79, R191). -/
def Latches.reset : Latches := ⟨false, false, false, false, false, false⟩

/-- The line transmitter at power-on (R52, R53). -/
def Transmitter.reset : Transmitter :=
  { rate := .r50, front := none, next := none, txd := .mark, signal := .none
    duty := .none, given := 0, counted := 0, passed := []
    stopLength := .oneAndHalf, answerbackOnConnect := true }

/-- The rate agreement unit at power-on (R54, R62). -/
def Agreement.reset : Agreement :=
  { active := false, localTop := .r50, localQuality := false, keptM1 := none, partnerMask := none
    parser := .first, offerSeen := false, nextCode := 0, formed := 0, sent := 0, rcvd := 0
    txSwitched := false, rxSwitched := false, partnerQuality := none, timer := 0
    ceiling := .r300, cfgMax := .r300 }

/-- A row from its sinks in the order PRINTER, PUNCH, LINE-OUT, STORE, LINK. -/
def Row.none : Row := ⟨false, false, false, false, false⟩

/-- The routing table at power-on (R64), the link-text holding empty (R69). -/
def Router.reset : Router :=
  let print : Row := { Row.none with printer := true }
  let printStore : Row := { Row.none with printer := true, store := true }
  let line : Row := { Row.none with lineOut := true }
  let linePrint : Row := { Row.none with lineOut := true, printer := true }
  { localSet := ⟨Row.none, print, print, Row.none, print⟩
    attended := ⟨printStore, linePrint, linePrint, linePrint, linePrint⟩
    unattended := ⟨printStore, linePrint, line, line, { Row.none with lineOut := true, printer := true, store := true }⟩
    linkText := [] }

/-- The keyboard unit at power-on (05 section 5.10): scanning starts afresh. -/
def Keyboard.reset : Keyboard :=
  { keymap := Vector.replicate 64 .none, keys := Vector.replicate 64 .up, agree := Vector.replicate 64 0
    pos := 0, list := [], heldFull := [], buffer := [], hold := .absent, count := 0, target := none, timer := none
    fresh := true, running := true, noted := 0 }

/-- The printer unit at power-on (06 section 6.9, R118). -/
def Printer.reset : Printer :=
  { state := .off, motorOn := false, mode := .direct, catchUp := none, tracked := none
    unavailable := false, startPending := false, queue := [], lostPending := false, lostCode := 0x7F#7
    jobs := [], jobRun := .notStarted, column := 1, columnKnown := false, lineEnd := false
    intensityReq := 8, intensity := 8, cycle := none, ret := none, feed := none, waiting := none
    buf := [], bufPos := 0, hammer := false, bell := false, paper := true, motorFailed := false, offTicks := 0, jamTags := []
    lineLength := 72, margin := 64, policy := .autoNewline }

/-- The punch unit at power-on (R136, R137). -/
def Punch.reset : Punch :=
  { state := .off, queue := [], chain := [], stage := .none, shift := .unknown, held := none, cycle := none
    holdPending := false, tapeLow := false, onTimeReq := 8, onTime := 8, defLeader := 16, defTrailer := 16 }

/-- No playback (R156). -/
def Play.reset : Play := ⟨.idle, 0, 0, [], [], 0⟩

/-- The call controller at power-on (R139, R160). -/
def CallCtl.reset : CallCtl :=
  { state := .idle, loopClose := false, mode := .attended, callMode := none, configured := false
    ringCount := 0, lockout := false, quiet := 0, attendedWait := false
    answerWait := none, loopTimer := none, idleTimer := none, standbyTimer := some 19200
    idleClear := 3840, standbyAfter := 19200, autoRelease := false
    rate := none, outcome := none, partnerQuality := none, reached := false
    cause := .clearRequest, verdict := .neutral, ceilingLeft := .r300, lossCount := 0
    waking := false, standbyPending := false, play := Play.reset }

/-- An EMPTY assembly cell (R168). -/
def Asm.empty : Asm := ⟨.empty, 0, 0, [], false⟩

/-- The message store at power-on: in MEMORY-INIT (R164, R181). -/
def Store.reset : Store :=
  { memInit := true, selfRefresh := false, banks := Vector.replicate 4 .undetermined, debt := 0, access := none
    head := 0, tail := 0, free := Config.cells, inCell := Asm.empty, outCell := Asm.empty
    queue := [], dir := [], nextNumber := 1
    playRead := none, printRead := none, punchRead := none, hostRead := none }

/-- The command link at power-on (R191). -/
def Link.reset : Link :=
  { rx := .hunt, holding := [], replies := [], overrun := none, reports := [], mode := .push, sending := none }

/-- The input pins that the model names for the first moment (log 14). -/
def Pins.reset : Pins :=
  { rxd := .mark, loopSense := false, ring := false, wake := false, sense := 0, keys := Vector.replicate 64 false
    motorReady := false, home := false, paperOk := true, tapeLow := false }

/-- The part right after power-on. -/
def State.reset : State :=
  { conv := Converter.reset, rx := Receiver.reset, latches := Latches.reset, tx := Transmitter.reset
    agr := Agreement.reset, router := Router.reset, kb := Keyboard.reset, pr := Printer.reset, pu := Punch.reset
    call := CallCtl.reset, store := Store.reset, link := Link.reset, mem := [], pins := Pins.reset
    freeCount := 0, pending := [] }

end Sys2Proof.Machine
end

