-- ==== Sys2Proof/Machine/Operands.lean ====
section
/-! DEFINITION. The operand forms: fields of request bodies and of reply data as R185 encodes them, clamping, and the
position of the first field at fault (R184). -/

namespace Sys2Proof.Machine

/-! ### Reading fields -/

/-- The one-byte field at position `i` of a body. -/
def field1 (body : List Byte) (i : Nat) : Nat := (body.getD i 0).toNat

/-- The two-byte field at position `i`, most significant byte first (R185). -/
def field2 (body : List Byte) (i : Nat) : Nat := field1 body i * 256 + field1 body (i + 1)

/-- The three-byte field at position `i`, most significant byte first (R185). -/
def field3 (body : List Byte) (i : Nat) : Nat := field2 body i * 256 + field1 body (i + 2)

/-- The signed byte at position `i` (R185). -/
def fieldS (body : List Byte) (i : Nat) : Int := (body.getD i 0).toInt

/-- On and off as 0 and 1, in that order (R185; log 8). -/
def onOff? : Nat → Option Bool
  | 0 => some true
  | 1 => some false
  | _ => none

/-- The byte of on or off (R185; log 8). -/
def onOffByte (b : Bool) : Nat := if b then 0 else 1

/-- ATTENDED, UNATTENDED (R138). -/
def mode? : Nat → Option Mode
  | 0 => some .attended
  | 1 => some .unattended
  | _ => none

/-- PUSH, PULL (R187). -/
def reportMode? : Nat → Option ReportMode
  | 0 => some .push
  | 1 => some .pull
  | _ => none

/-- NORMAL, INVERTED (R36). -/
def sense? : Nat → Option Sense
  | 0 => some .normal
  | 1 => some .inverted
  | _ => none

/-- 1, 1.5, 2 units (R53). -/
def stopLength? : Nat → Option StopLength
  | 0 => some .one
  | 1 => some .oneAndHalf
  | 2 => some .two
  | _ => none

/-- LETTERS, FIGURES (R2). -/
def plane? : Nat → Option Plane
  | 0 => some .letters
  | 1 => some .figures
  | _ => none

/-- OVERPRINT, AUTO-NEWLINE (R118). -/
def policy? : Nat → Option Policy
  | 0 => some .overprint
  | 1 => some .autoNewline
  | _ => none

/-- A station code 0x00..0x7F (R1). -/
def stationCode? (b : Byte) : Option StationCode :=
  if b.toNat < 128 then some (b.setWidth 7) else none

/-- A raw code 0..31 (R2). -/
def rawCode? (b : Byte) : Option RawCode :=
  if b.toNat < 32 then some (b.setWidth 5) else none

/-- A code table entry: a station code, or 0xFF for UNASSIGNED (R3, 10 section 10.4). -/
def tableEntry? (b : Byte) : Option (Option StationCode) :=
  if b = 0xFF#8 then some none else (stationCode? b).map some

/-- A row of a route set from its byte; bits 5 to 7 name no sink (10 section 10.4). -/
def row? (b : Byte) : Option Row :=
  if b.toNat < 32 then
    some { printer := b.getLsbD 0, punch := b.getLsbD 1, lineOut := b.getLsbD 2, store := b.getLsbD 3, link := b.getLsbD 4 }
  else none

/-- A keymap entry from its three bytes (R86, 10 section 10.4); only CHAR reads its codes (log 39). -/
def keymapEntry? (kind unshifted shifted : Byte) : Option KeymapEntry :=
  match kind.toNat with
  | 0 => match stationCode? unshifted, stationCode? shifted with
    | some u, some f => some (.char u f)
    | _, _ => none
  | 1 => some .shift
  | 2 => some .rept
  | 3 => some .brk
  | 4 => some .hereIs
  | 5 => some .localLine
  | 6 => some .none
  | _ => none

/-- The station codes of a body, none when one lies outside 0x00..0x7F. -/
def stationCodes? : List Byte → Option (List StationCode)
  | [] => some []
  | b :: rest => match stationCode? b, stationCodes? rest with
    | some c, some cs => some (c :: cs)
    | _, _ => none

/-- The position of the first byte of a body, from position `i` on, that is no station code. -/
def badCodeAt (i : Nat) : List Byte → Nat
  | [] => i
  | b :: rest => if (stationCode? b).isSome then badCodeAt (i + 1) rest else i

/-! ### Clamping and checking -/

/-- A numeric field outside its range is clamped to the nearer end (R36). -/
def clampNat (lo hi n : Nat) : Nat := if n < lo then lo else if hi < n then hi else n

/-- The same for signed fields. -/
def clampInt (lo hi n : Int) : Int := if n < lo then lo else if hi < n then hi else n

/-- A timer setting: 0 is off, 1 to 63 become 64 (R139). -/
def clampTimer (n : Nat) : Nat := if n = 0 then 0 else clampNat 64 65535 n

/-- The position of the first field at fault, from the fields' positions and whether each is good (R184). -/
def firstFault : List (Nat × Bool) → Option Nat
  | [] => none
  | (p, good) :: rest => if good then firstFault rest else some p

/-! ### Writing fields -/

/-- A value for each of the 64 keys. -/
def perKey {α : Type} (f : Nat → α) : Vector α 64 := ⟨((List.range 64).map f).toArray, by simp⟩

/-- Ten times the cycles of the fast oscillator in a number of milliseconds (00 section 3). -/
def msCycles (ms : Nat) : Nat := ms * (Config.fastHz / 100)

/-- One byte. -/
def put1 (n : Nat) : List Byte := [BitVec.ofNat 8 n]

/-- Two bytes, most significant first (R185). -/
def put2 (n : Nat) : List Byte := [BitVec.ofNat 8 (n / 256), BitVec.ofNat 8 n]

/-- Three bytes, most significant first (R185). -/
def put3 (n : Nat) : List Byte := [BitVec.ofNat 8 (n / 65536), BitVec.ofNat 8 (n / 256), BitVec.ofNat 8 n]

/-- A station code as a byte. -/
def codeByte (c : StationCode) : Byte := c.setWidth 8

/-- A byte of the DRAM as a station code. -/
def byteCode (b : Byte) : StationCode := b.setWidth 7

/-- OK with the data of the kind (R184). -/
def ok (data : List Byte) : Answer := ⟨.ok, data⟩

/-- A result that carries no data. -/
def plainAnswer (r : Result) : Answer := ⟨r, []⟩

/-- BAD-VALUE with the position of the first field at fault (R184). -/
def badValue (position : Nat) : Answer := ⟨.badValue (BitVec.ofNat 8 position), []⟩

end Sys2Proof.Machine
end

