-- ==== Sys2Proof/Machine/Flags.lean ====
section
/-! DEFINITION. Flag and status bytes: the numbers of states, modes, results and causes, the flag byte, the latch byte, the
directory listing, the header cell, the frames that leave the part (10 sections 10.2 to 10.6; numbering in log 9). -/

namespace Sys2Proof.Machine

/-- A mark, set or clear, as 1 or 0 (log 51). -/
def bit (b : Bool) : Nat := if b then 1 else 0

/-! ### Numbers of enumerations (R185, log 9) -/

/-- Call states in the order of the table of 08 section 8.2. -/
def CallState.number : CallState → Nat
  | .standby => 0
  | .idle => 1
  | .ringCheck => 2
  | .starting => 3
  | .answering => 4
  | .originating => 5
  | .agreeing => 6
  | .connected => 7
  | .clearing => 8

/-- ATTENDED, UNATTENDED. -/
def Mode.number : Mode → Nat
  | .attended => 0
  | .unattended => 1

/-- AGREED, PLAIN, FAULT (R147). -/
def AgreeOutcome.number : AgreeOutcome → Nat
  | .agreed => 0
  | .plain => 1
  | .fault => 2

/-- POOR, GOOD, NEUTRAL (R28). -/
def Verdict.number : Verdict → Nat
  | .poor => 0
  | .good => 1
  | .neutral => 2

/-- The causes in the order of R152. -/
def Cause.number : Cause → Nat
  | .clearRequest => 0
  | .remoteClear => 1
  | .lineLost => 2
  | .idleTimeout => 3
  | .storeFull => 4
  | .noLoop => 5

/-- Printer states in the order of R96. -/
def PrState.number : PrState → Nat
  | .off => 0
  | .starting => 1
  | .ready => 2
  | .printing => 3
  | .returning => 4
  | .feeding => 5
  | .paperOut => 6
  | .jammed => 7

/-- DIRECT, CATCH-UP (R96). -/
def PrMode.number : PrMode → Nat
  | .direct => 0
  | .catchUp => 1

/-- Punch states in the order of R120. -/
def PuState.number : PuState → Nat
  | .off => 0
  | .ready => 1
  | .punching => 2
  | .leader => 3
  | .held => 4
  | .tapeLowHold => 5

/-- PUSH, PULL (R187). -/
def ReportMode.number : ReportMode → Nat
  | .push => 0
  | .pull => 1

/-- NORMAL, INVERTED. -/
def Sense.number : Sense → Nat
  | .normal => 0
  | .inverted => 1

/-- 1, 1.5, 2. -/
def StopLength.number : StopLength → Nat
  | .one => 0
  | .oneAndHalf => 1
  | .two => 2

/-- OVERPRINT, AUTO-NEWLINE. -/
def Policy.number : Policy → Nat
  | .overprint => 0
  | .autoNewline => 1

/-- LINE-IN, KEYBOARD, LINK-TEXT, PLAYBACK, ANSWERBACK (R63). -/
def Source.number : Source → Nat
  | .lineIn => 0
  | .keyboard => 1
  | .linkText => 2
  | .playback => 3
  | .answerback => 4

/-- FORMAT, CHECK, OVERRUN (R183). -/
def RejectReason.number : RejectReason → Nat
  | .format => 0
  | .check => 1
  | .overrun => 2

/-- The reasons of RING-REFUSED in the order of 10 section 10.4. -/
def RingReason.number : RingReason → Nat
  | .notConfigured => 0
  | .storeFull => 1
  | .notAnswered => 2
  | .declined => 3

/-- STEP, RETURN, MOTOR (R115). -/
def JamCause.number : JamCause → Nat
  | .step => 0
  | .ret => 1
  | .motor => 2

/-- DONE, CANCELLED (R156). -/
def PlayOutcome.number : PlayOutcome → Nat
  | .done => 0
  | .cancelled => 1

/-- IN, OUT (10 section 10.6). -/
def Dir.number : Dir → Nat
  | .in => 0
  | .out => 1

/-- OPEN, CLOSED, RELEASED (10 section 10.6). -/
def MsgState.number : MsgState → Nat
  | .open => 0
  | .closed => 1
  | .released => 2

/-- 0xFF when none is recorded (10 section 10.6). -/
def orNone (n : Option Nat) : Nat := n.getD 255

/-- The partner quality: 1 QUALITY-OK, 0 clear, 0xFF when none (10 section 10.4). -/
def qualityNumber (q : Option Bool) : Nat := orNone (q.map bit)

/-! ### Flags of a message, latches, listing, header cell -/

/-- No flag set. -/
def MsgFlags.none : MsgFlags := ⟨false, false, false, false, false, false⟩

/-- The flag byte of the listing and of the header cell (10 section 10.6). -/
def MsgFlags.byte (f : MsgFlags) : Nat :=
  bit f.complete + 2 * bit f.endedByClear + 4 * bit f.truncated + 8 * bit f.poorLine + 16 * bit f.printIncomplete
    + 32 * bit f.punchSkipped

/-- The flags of either. -/
def MsgFlags.or (f g : MsgFlags) : MsgFlags :=
  { complete := f.complete || g.complete, endedByClear := f.endedByClear || g.endedByClear
    truncated := f.truncated || g.truncated, poorLine := f.poorLine || g.poorLine
    printIncomplete := f.printIncomplete || g.printIncomplete, punchSkipped := f.punchSkipped || g.punchSkipped }

/-- The latch byte of the STATUS record (10 section 10.6). -/
def Latches.byte (l : Latches) : Nat :=
  bit l.breakSeen + 2 * bit l.polarityReversed + 4 * bit l.lineLost + 8 * bit l.agreementFault + 16 * bit l.linkTextLost
    + 32 * bit l.eventLost

/-- Direction, state and agreed rate as one byte; an OUT entry holds no rate and its rate bits are 0 (log 23). -/
def Entry.stateByte (e : Entry) : Nat :=
  e.dir.number + 2 * e.state.number + 8 * ((e.rate.map Rate.index).getD 0)

/-- The 26 bytes of a directory listing (10 section 10.6). -/
def Entry.listing (e : Entry) : List Byte :=
  put2 e.number ++ put1 e.stateByte ++ put1 e.flags.byte ++ put3 e.header ++ put3 e.length ++ put1 e.errors ++ put2 e.peakQ
    ++ put3 e.print ++ put3 e.punch ++ put3 e.sent ++ put3 e.delivered ++ put1 0

/-- The 8 bytes of the header cell (10 section 10.6). -/
def Entry.headerBytes (e : Entry) : List Byte :=
  put2 e.number ++ put1 e.stateByte ++ put1 e.flags.byte ++ put3 e.length ++ put1 e.errors

/-! ### Reports -/

/-- The KIND of a report (10 section 10.4). -/
def Report.kind : Report → Byte
  | .jammed _ => 0x80#8
  | .agreementFault => 0x81#8
  | .ring => 0x88#8
  | .ringRefused _ => 0x89#8
  | .callConnected _ _ _ => 0x8A#8
  | .callEnded _ _ _ _ _ => 0x8B#8
  | .breakReceived => 0x8C#8
  | .messageOpened _ _ => 0x90#8
  | .messageClosed _ _ => 0x91#8
  | .playbackDone _ _ _ => 0x92#8
  | .paperOut => 0x98#8
  | .paperBack => 0x99#8
  | .tapeLow => 0x9A#8
  | .punchJobDone _ _ _ => 0x9B#8
  | .unsendable _ => 0x9C#8
  | .noAnswerback => 0x9D#8
  | .keyRefused _ _ _ => 0xA0#8
  | .localLine _ => 0xA1#8
  | .text _ _ => 0xA2#8

/-- The class of a report (10 section 10.4). -/
def Report.cls : Report → Nat
  | .jammed _ => 0
  | .agreementFault => 0
  | .ring => 1
  | .ringRefused _ => 1
  | .callConnected _ _ _ => 1
  | .callEnded _ _ _ _ _ => 1
  | .breakReceived => 1
  | .messageOpened _ _ => 2
  | .messageClosed _ _ => 2
  | .playbackDone _ _ _ => 2
  | .paperOut => 3
  | .paperBack => 3
  | .tapeLow => 3
  | .punchJobDone _ _ _ => 3
  | .unsendable _ => 3
  | .noAnswerback => 3
  | .keyRefused _ _ _ => 4
  | .localLine _ => 4
  | .text _ _ => 4

/-- TEXT reports (R186). -/
def Report.isText : Report → Bool
  | .text _ _ => true
  | _ => false

/-- The event reports that hold at most 12 entries: MESSAGE-OPENED, MESSAGE-CLOSED, PUNCH-JOB-DONE (R186). -/
def Report.isCounted : Report → Bool
  | .messageOpened _ _ => true
  | .messageClosed _ _ => true
  | .punchJobDone _ _ _ => true
  | _ => false

/-- Status reports: every other kind (R186). -/
def Report.isStatus (r : Report) : Bool := !r.isText && !r.isCounted

/-- The content of a report as bytes (10 section 10.4, R185); a cursor is sent in 3 bytes (log 56). -/
def Report.content : Report → List Byte
  | .jammed cause => put1 cause.number
  | .agreementFault => []
  | .ring => []
  | .ringRefused reason => put1 reason.number
  | .callConnected rate outcome quality => put1 rate.index ++ put1 outcome.number ++ put1 (qualityNumber quality)
  | .callEnded cause rate outcome verdict ceiling =>
    put1 cause.number ++ put1 (orNone (rate.map Rate.index)) ++ put1 (orNone (outcome.map AgreeOutcome.number))
      ++ put1 verdict.number ++ put1 ceiling.index
  | .breakReceived => []
  | .messageOpened number rate => put2 number ++ put1 (orNone (rate.map Rate.index))
  | .messageClosed number flags => put2 number ++ put1 flags.byte
  | .playbackDone number outcome sent => put2 number ++ put1 outcome.number ++ put3 sent
  | .paperOut => []
  | .paperBack => []
  | .tapeLow => []
  | .punchJobDone number follow cursor => put2 number ++ put1 (bit follow) ++ put3 cursor
  | .unsendable code => [codeByte code]
  | .noAnswerback => []
  | .keyRefused key code isRepeat => put1 key ++ [codeByte code] ++ put1 (bit isRepeat)
  | .localLine key => put1 key
  | .text source codes => put1 source.number ++ codes.map codeByte

/-! ### Frames that leave the part -/

/-- The result byte and the bytes some results carry (R184). -/
def Result.bytes : Result → List Byte
  | .ok => put1 0
  | .part n => put1 1 ++ put1 n
  | .busy => put1 2
  | .wrongState => put1 3
  | .badValue position => put1 4 ++ [position]
  | .tableConflict => put1 5
  | .noSuchMessage => put1 6
  | .inUse => put1 7
  | .full => put1 8

/-- KIND and body of a frame that leaves the part (R183, R184, R187). -/
def OutFrame.contents : OutFrame → Byte × List Byte
  | .reply kind answer => (kind, answer.result.bytes ++ answer.data)
  | .rejected reason kind count => (0x7F#8, put1 reason.number ++ [kind] ++ put1 count)
  | .report r => (r.kind, r.content)

/-- The sum of bytes modulo 256. -/
def sumBytes : List Byte → Byte
  | [] => 0
  | b :: rest => b + sumBytes rest

/-- The bytes of a frame: SYNC, LEN, KIND, body, CHECK (10 sections 10.1 and 10.6). -/
def frameBytes (kind : Byte) (body : List Byte) : List Byte :=
  let inner := BitVec.ofNat 8 (body.length + 1) :: kind :: body
  Config.sync :: inner ++ [0 - sumBytes inner]

/-- The bytes of a frame that leaves the part. -/
def OutFrame.bytes (f : OutFrame) : List Byte := frameBytes f.contents.1 f.contents.2

/-- The request kinds of the catalogue (10 section 10.4). -/
def requestKinds : List Byte :=
  [0x01#8, 0x02#8, 0x03#8, 0x04#8, 0x05#8, 0x06#8, 0x07#8, 0x08#8, 0x09#8, 0x10#8, 0x11#8, 0x12#8, 0x13#8, 0x14#8, 0x15#8]
    ++ [0x20#8, 0x21#8, 0x22#8, 0x23#8, 0x30#8, 0x31#8, 0x32#8, 0x33#8, 0x34#8, 0x35#8, 0x40#8, 0x41#8, 0x42#8, 0x43#8]
    ++ [0x50#8, 0x51#8, 0x52#8]

end Sys2Proof.Machine
end

