-- ==== Sys2Proof/Machine/Ops.lean ====
section
/-! DEFINITION. The named operations that several blocks share: the DRAM's bytes, the report and reply queues, the timers, the
entry to ANSWERING, and the answer to a body of the wrong length. -/

namespace Sys2Proof.Machine

/-! ### The DRAM as bytes (R161) -/

namespace Memory

/-- Bytes of the device. -/
def size : Nat := Config.cells * 8

/-- What a byte that nothing has written reads as (log 13). -/
def blank : Byte := 0

/-- The byte at an address. -/
def read : List Host.Cell → Nat → Byte
  | [], _ => blank
  | (b, v) :: rest, a => if b = a then v else read rest a

/-- Writes one byte, keeping the addresses rising and no entry equal to a blank. -/
def write : List Host.Cell → Nat → Byte → List Host.Cell
  | [], a, v => if v = blank then [] else [(a, v)]
  | (b, w) :: rest, a, v =>
    if a < b then (if v = blank then (b, w) :: rest else (a, v) :: (b, w) :: rest)
    else if a = b then (if v = blank then rest else (a, v) :: rest)
    else (b, w) :: write rest a v

/-- Writes bytes from an address upward. -/
def writeBytes : List Host.Cell → Nat → List Byte → List Host.Cell
  | m, _, [] => m
  | m, a, v :: rest => writeBytes (write m a v) (a + 1) rest

/-- The canonical form from an address on: rising addresses inside the device, no entry that reads as a blank. -/
def wfFrom : Nat → List Host.Cell → Bool
  | _, [] => true
  | lo, (a, v) :: rest => decide (lo ≤ a) && decide (a < size) && decide (v ≠ blank) && wfFrom (a + 1) rest

/-- The canonical form. -/
def wf (m : List Host.Cell) : Bool := wfFrom 0 m

end Memory

/-! ### The report queue (R186, R187) -/

/-- The list without its first entry of a kind. -/
def dropFirst (p : Report → Bool) : List Report → List Report
  | [] => []
  | r :: rest => if p r then rest else r :: dropFirst p rest

/-- The list without its last entry of a kind. -/
def dropNewest (p : Report → Bool) (rs : List Report) : List Report := (dropFirst p rs.reverse).reverse

/-- The head report: the oldest of the lowest-numbered class held (R187). -/
def headReport? (rs : List Report) : Option Report :=
  [0, 1, 2, 3, 4].findSome? fun c => rs.find? fun r => r.cls == c

/-- The queue without its head report. -/
def dropHead (r : Report) (rs : List Report) : List Report := dropFirst (fun x => x.cls == r.cls) rs

/-- ATTN is asserted while the report queue holds a report (R187). -/
def Link.attn (l : Link) : Bool := !l.reports.isEmpty

/-- The transmitter's choice when no frame is being sent: the reply queue first, else in PUSH the head report (R184, R187). -/
def Link.kick (l : Link) : Link :=
  match l.sending, l.replies with
  | some _, _ => l
  | none, f :: rest => { l with sending := some f, replies := rest }
  | none, [] =>
    match l.mode with
    | .pull => l
    | .push =>
      match headReport? l.reports with
      | none => l
      | some r => { l with sending := some (.report r), reports := dropHead r l.reports }

/-- How many MESSAGE and PUNCH-JOB-DONE reports are queued (R186). -/
def countedReports (rs : List Report) : Nat := rs.countP Report.isCounted

/-- A report joins the queue (R186): what the queue is then, and the LINK-TEXT-LOST and EVENT-LOST marks the joining sets.
A TEXT report that finds 24 entries does not join (R78). -/
def joinReports (r : Report) (rs : List Report) : List Report × Bool × Bool :=
  if r.isStatus && rs.any (fun x => x.kind == r.kind) then
    (rs.map (fun x => if x.kind == r.kind then r else x), false, false)
  else if r.isCounted && decide (Config.eventCapacity ≤ countedReports rs) then
    (dropFirst Report.isCounted rs ++ [r], false, true)
  else if rs.length < Config.reportCapacity then (rs ++ [r], false, false)
  else if r.isText then (rs, false, false)
  else if rs.any Report.isText then (dropNewest Report.isText rs ++ [r], true, false)
  else if rs.any Report.isCounted then (dropFirst Report.isCounted rs ++ [r], false, true)
  else (rs, false, false)

/-- A block raises a report: it joins, and an idle transmitter in PUSH chooses at once (R184, R186). -/
def raise (r : Report) (s : State) : State :=
  let j := joinReports r s.link.reports
  { s with
    link := { s.link with reports := j.1 }.kick
    latches := { s.latches with linkTextLost := s.latches.linkTextLost || j.2.1, eventLost := s.latches.eventLost || j.2.2 } }

/-! ### The reply queue (R183, R184) -/

/-- Whether a frame is the answer to a request. -/
def OutFrame.isReply : OutFrame → Bool
  | .reply _ _ => true
  | _ => false

/-- Whether a frame is a FRAME-REJECTED of a reason. -/
def OutFrame.isRejected (reason : RejectReason) : OutFrame → Bool
  | .rejected r _ _ => decide (r = reason)
  | _ => false

/-- A FRAME-REJECTED of the reason counts one more of `n`, with the newer KIND (R183). -/
def OutFrame.bump (reason : RejectReason) (kind : Byte) (n : Nat) : OutFrame → OutFrame
  | .rejected r k c => if r = reason then .rejected r kind (min 255 (c + n)) else .rejected r k c
  | f => f

/-- A rejection joins the reply queue, or counts into the one of its reason that waits there (R183). -/
def Link.reject (reason : RejectReason) (kind : Byte) (n : Nat) (l : Link) : Link :=
  if l.replies.any (OutFrame.isRejected reason) then { l with replies := l.replies.map (OutFrame.bump reason kind n) }
  else { l with replies := l.replies ++ [.rejected reason kind (min 255 n)] }

/-- One more of the replies that a kept OVERRUN mark waits for has joined; with the last of them the rejection joins (R183). -/
def Link.overrunStep (l : Link) : Link :=
  match l.overrun with
  | none => l
  | some o =>
    if o.behind ≤ 1 then { l with overrun := none }.reject .overrun o.kind o.count
    else { l with overrun := some { o with behind := o.behind - 1 } }

/-- A request's reply joins the reply queue and its place in the input holding is freed (R184). -/
def Link.answer (kind : Byte) (a : Answer) (l : Link) : Link :=
  (Link.overrunStep { l with replies := l.replies ++ [.reply kind a], holding := l.holding.tail }).kick

/-- The reply of a request joins. -/
def reply (kind : Byte) (a : Answer) (s : State) : State := { s with link := s.link.answer kind a }

/-- BAD-VALUE for a body whose length does not fit its kind; the spec does not state the position it carries (R185, log 7). -/
def badLength (s : State) : Answer := ⟨.badValue (Config.freeByte s.freeCount), []⟩

/-- The free value of `badLength` is used up. -/
def useFree (s : State) : State := { s with freeCount := s.freeCount + 1 }

/-! ### Timers, LOOPSENSE and the call state -/

/-- A reading of LOOPSENSE that a command tells of; the pin holds it until the next one (R17, R38; log 65). -/
def readLoop (present : Bool) (s : State) : State :=
  { s with rx := { s.rx with loopCurrent := present }, pins := { s.pins with loopSense := present } }

/-- A timer setting as a timer: 0 turns it off (R139). -/
def timerOf (n : Nat) : Option Nat := if n = 0 then none else some n

/-- The standby-after timer is set afresh, while in IDLE (R157). -/
def touchStandby (s : State) : State :=
  if s.call.state = .idle then { s with call := { s.call with standbyTimer := timerOf s.call.standbyAfter } } else s

/-- The idle-clear timer is set afresh, while in CONNECTED (R151). -/
def touchIdleClear (s : State) : State :=
  if s.call.state = .connected then { s with call := { s.call with idleTimer := timerOf s.call.idleClear } } else s

/-- Entry to ANSWERING: LOOP-CLOSE is asserted and the loop timer started (R140, R144, R145). -/
def enterAnswering (s : State) : State :=
  { s with call := { s.call with
      state := .answering, loopClose := true, loopTimer := some Config.loopTicks
      attendedWait := false, answerWait := none } }

/-- The printer answers a pending start request, whatever the answer (R97, R144). -/
def answerStart (s : State) : State :=
  if s.pr.startPending then
    let s1 := { s with pr := { s.pr with startPending := false } }
    if s1.call.state = .starting then enterAnswering s1 else s1
  else s

end Sys2Proof.Machine
end

