-- ==== Sys2Proof/Machine/Store.lean ====
section
/-! DEFINITION. The message store's own operations: the directory, the ring of cells, staging, cursors, release and reclaim,
and reading stored text (09). -/

namespace Sys2Proof.Machine

/-! ### The directory (R170) -/

/-- The entry of a number. -/
def Store.entry? (st : Store) (number : Nat) : Option Entry := st.dir.find? fun e => e.number == number

/-- The entry of a number that is not RELEASED. -/
def Store.live? (st : Store) (number : Nat) : Option Entry :=
  (st.entry? number).filter fun e => decide (e.state ≠ .released)

/-- The OPEN entry of a direction (R172). -/
def Store.open? (d : Dir) (st : Store) : Option Entry :=
  st.dir.find? fun e => decide (e.dir = d) && decide (e.state = .open)

/-- An entry changed. -/
def Store.modify (number : Nat) (f : Entry → Entry) (st : Store) : Store :=
  { st with dir := st.dir.map fun e => if e.number = number then f e else e }

/-- The length of a message; 0 when no entry holds the number. -/
def Store.lengthOf (st : Store) (number : Nat) : Nat := ((st.entry? number).map Entry.length).getD 0

/-- The print cursor of a message; 0 when no entry holds the number. -/
def Store.printOf (st : Store) (number : Nat) : Nat := ((st.entry? number).map Entry.print).getD 0

/-- The number after one; after 65535 comes 1 (R170). -/
def succNumber (n : Nat) : Nat := if 65535 ≤ n then 1 else n + 1

/-- The first number from `n` on that no entry holds; 65 tries suffice (R170). -/
def Store.freshNumber (st : Store) : Nat → Nat → Nat
  | 0, n => n
  | fuel + 1, n => if (st.entry? n).isSome then st.freshNumber fuel (succNumber n) else n

/-! ### The ring of cells (R167) -/

/-- Body cells of a message of a length. -/
def bodyCells (length : Nat) : Nat := (length + 7) / 8

/-- Cells of an entry: its header cell and its body cells. -/
def Entry.cells (e : Entry) : Nat := 1 + bodyCells e.length

/-- The body cell of a position of a message whose header cell is `header`. -/
def bodyCell (header pos : Nat) : Nat := (header + 1 + pos / 8) % Config.cells

/-- A cell is allocated at the tail. -/
def Store.allocate (st : Store) : Store := { st with tail := (st.tail + 1) % Config.cells, free := st.free - 1 }

/-- Whether an opening passes the tests of R172. -/
def Store.canOpen (d : Dir) (st : Store) : Bool :=
  decide (st.dir.length < Config.dirCapacity) &&
    (match d with
      | .in => decide (2 ≤ st.free)
      | .out => decide (1 ≤ st.free))

/-- The store check of a ring (R142); it fails in MEMORY-INIT (R164). -/
def Store.check (st : Store) : Bool :=
  !st.memInit && decide (Config.storeCheckCells ≤ st.free) && decide (st.dir.length < Config.dirCapacity)

/-- An opening makes the entry at the tail, with the header cell allocated and its rewrite asked for (R172). -/
def Store.openEntry (d : Dir) (rate : Option Rate) (q : Nat) (st : Store) : Store × Nat :=
  let n := st.freshNumber 65 st.nextNumber
  let e : Entry :=
    { number := n, dir := d, state := .open, header := st.tail, length := 0, flags := MsgFlags.none, errors := 0, rate := rate
      peakQ := q, print := 0, punch := 0, sent := 0, delivered := 0, trackedMark := false, punchNamed := false
      headerDue := true }
  ({ st.allocate with dir := st.dir ++ [e], nextNumber := succNumber n }, n)

/-! ### Staging (R168, R169) -/

/-- The assembly cell of a direction. -/
def Store.asm (st : Store) : Dir → Asm
  | .in => st.inCell
  | .out => st.outCell

/-- The store with an assembly cell replaced. -/
def Store.setAsm (d : Dir) (a : Asm) (st : Store) : Store :=
  match d with
  | .in => { st with inCell := a }
  | .out => { st with outCell := a }

/-- Whether an assembly cell that asks now gets a place: the OUT cell's claim stands behind a WAITING IN cell's (R169). -/
def Store.placeFree (d : Dir) (st : Store) : Bool :=
  match d with
  | .in => decide (st.queue.length < Config.writeQueueCapacity)
  | .out => decide (st.queue.length + bit (decide (st.inCell.state = .waiting)) < Config.writeQueueCapacity)

/-- A cell write joins the write queue. -/
def Store.push (w : CellWrite) (st : Store) : Store := { st with queue := st.queue ++ [w] }

/-- The cell write of an assembly cell. -/
def Asm.write (a : Asm) : CellWrite := ⟨a.target, a.chars.map codeByte⟩

/-- An assembly cell asks for a place: it joins and becomes EMPTY, or becomes WAITING (R168). -/
def Store.leave (d : Dir) (st : Store) : Store :=
  if st.placeFree d then (st.push (st.asm d).write).setAsm d Asm.empty
  else st.setAsm d { st.asm d with state := .waiting }

/-- What comes of a character to be stored (R173). -/
inductive Stored where
  | at (pos : Nat)
  | blocked
  | ringOut
  deriving DecidableEq, Repr

/-- A character takes the next byte of the FILLING cell `a`; the eighth asks for a place (R168, R173). -/
def Store.place (d : Dir) (a : Asm) (e : Entry) (c : StationCode) (st : Store) : Store :=
  let a1 : Asm := { a with chars := a.chars ++ [c], changed := true }
  let st1 := (st.setAsm d a1).modify e.number fun x => { x with length := x.length + 1 }
  if a1.chars.length = 8 then st1.leave d else st1

/-- A character is stored into the OPEN message of a direction, when its assembly cell and the ring can take it (R168,
R173). -/
def Store.storeChar (d : Dir) (e : Entry) (c : StationCode) (st : Store) : Store × Stored :=
  match (st.asm d).state with
  | .waiting => (st, .blocked)
  | .filling => if (st.asm d).chars.length < 8 then (st.place d (st.asm d) e c, .at e.length) else (st, .blocked)
  | .empty =>
    if st.free = 0 then (st, .ringOut)
    else (st.allocate.place d ⟨.filling, e.number, st.tail, [], false⟩ e c, .at e.length)

/-- At a close the assembly cell of the message asks for a place, unless it is EMPTY or was written through with no change
since (R174). -/
def Store.closeAsm (d : Dir) (st : Store) : Store :=
  match (st.asm d).state with
  | .filling => if (st.asm d).changed then st.leave d else st.setAsm d Asm.empty
  | _ => st

/-- The store has written every staged cell (R168). -/
def Store.allWritten (st : Store) : Bool :=
  st.queue.isEmpty && (st.inCell.state != .waiting) && (st.outCell.state != .waiting)
    && !(decide (st.inCell.state = .filling) && st.inCell.changed)
    && !(decide (st.outCell.state = .filling) && st.outCell.changed)
    && st.dir.all (fun e => !e.headerDue)

/-! ### Header rewrites and flags (R174) -/

/-- A header rewrite is asked for. -/
def Store.markHeader (number : Nat) (st : Store) : Store := st.modify number fun e => { e with headerDue := true }

/-- Flags are set on an entry and its header rewrite asked for. -/
def Store.setFlags (number : Nat) (f : MsgFlags) (st : Store) : Store :=
  st.modify number fun e => { e with flags := e.flags.or f, headerDue := true }

/-- TRUNCATED alone. -/
def MsgFlags.justTruncated : MsgFlags := { MsgFlags.none with truncated := true }
/-- COMPLETE alone. -/
def MsgFlags.justComplete : MsgFlags := { MsgFlags.none with complete := true }
/-- PRINT-INCOMPLETE alone. -/
def MsgFlags.justPrintIncomplete : MsgFlags := { MsgFlags.none with printIncomplete := true }
/-- PUNCH-SKIPPED alone. -/
def MsgFlags.justPunchSkipped : MsgFlags := { MsgFlags.none with punchSkipped := true }

/-- A character error counts in the open incoming message (R70, R170). -/
def Store.countError (st : Store) : Store :=
  match st.open? .in with
  | none => st
  | some e => st.modify e.number fun x => { x with errors := min 255 (x.errors + 1) }

/-- A new Q is handed to the store (R27). -/
def Store.handQ (q : Nat) (st : Store) : Store :=
  match st.open? .in with
  | none => st
  | some e => st.modify e.number fun x => { x with peakQ := max x.peakQ q }

/-! ### Release and reclaim (R178 to R180) -/

/-- Whether a cell lies in the run of an entry. -/
def Entry.holdsCell (e : Entry) (c : Nat) : Bool := decide ((c + Config.cells - e.header) % Config.cells < e.cells)

/-- Whether the write of the write-queue head is in progress. -/
def Store.writing (st : Store) : Bool :=
  match st.access with
  | some ⟨.write _, _⟩ => true
  | _ => false

/-- The write queue without the entries that target the cells of a reclaimed entry and whose write is not in progress
(R169). -/
def Store.withoutFreed (e : Entry) (st : Store) : List CellWrite :=
  match st.queue with
  | [] => []
  | w :: ws => (if st.writing || !e.holdsCell w.target then [w] else []) ++ ws.filter fun x => !e.holdsCell x.target

/-- The oldest entry's cells return to free (R180). -/
def Store.freeOldest (e : Entry) (rest : List Entry) (st : Store) : Store :=
  { st with head := (st.head + e.cells) % Config.cells, free := st.free + e.cells, dir := rest, queue := st.withoutFreed e }

/-- Reclaim at the head; the fuel bounds the entries (R180). -/
def Store.reclaim : Nat → Store → Store
  | 0, st => st
  | fuel + 1, st =>
    match st.dir with
    | [] => st
    | e :: rest => if e.state = .released then Store.reclaim fuel (st.freeOldest e rest) else st

/-- A release: RELEASED, the header rewrite asked for, and the reclaim (R178). -/
def Store.release (number : Nat) (st : Store) : Store :=
  let st1 := st.modify number fun e => { e with state := .released, headerDue := true }
  st1.reclaim st1.dir.length

/-- Whether a name of R178 holds a message; a READ-MESSAGE being served protects its message too (R176, log 34). -/
def State.named (s : State) (number : Nat) : Bool :=
  s.pr.jobs.any (fun j => j.number == number) || s.pu.chain.any (fun j => j.number == number)
    || decide (s.pr.tracked = some number) || decide (s.pr.catchUp = some number)
    || ((decide (s.call.play.state = .running) || decide (s.call.play.state = .paused))
        && decide (s.call.play.number = number))
    || decide (s.store.hostRead.map HostRead.number = some number)

/-- Whether the test of R179 releases an entry. -/
def State.releasable (s : State) (e : Entry) : Bool :=
  s.call.autoRelease && decide (e.dir = .in) && decide (e.state = .closed)
    && (decide (e.print = e.length) || !e.trackedMark) && (decide (e.punch = e.length) || !e.punchNamed)
    && !s.named e.number

/-- The test for automatic release of one message (R179). -/
def autoReleaseTest (number : Nat) (s : State) : State :=
  match s.store.entry? number with
  | none => s
  | some e => if s.releasable e then { s with store := s.store.release number } else s

/-- The test for each of several messages, after names of theirs were given up (R179). -/
def givenUp : List Nat → State → State
  | [], s => s
  | n :: rest, s => givenUp rest (autoReleaseTest n s)

/-! ### Cursors (R171) -/

/-- The print cursor is raised to `v`; at the length PRINT-INCOMPLETE is cleared (R107, R117). -/
def Entry.raisePrint (v : Nat) (e : Entry) : Entry :=
  let p := min e.length (max e.print v)
  if p = e.length ∧ e.flags.printIncomplete then
    { e with print := p, flags := { e.flags with printIncomplete := false }, headerDue := true }
  else { e with print := p }

/-- A reader hands the new print cursor, and the test of R179 is made. -/
def setPrint (number v : Nat) (s : State) : State :=
  autoReleaseTest number { s with store := s.store.modify number (Entry.raisePrint v) }

/-- A reader hands the new punch cursor, and the test of R179 is made (R127). -/
def setPunch (number v : Nat) (s : State) : State :=
  autoReleaseTest number
    { s with store := s.store.modify number fun e => { e with punch := min e.length (max e.punch v) } }

/-- The sent cursor is set (R50, R155). -/
def Store.setSent (number v : Nat) (st : Store) : Store := st.modify number fun e => { e with sent := min e.length v }

/-! ### Reading stored text (R176) -/

/-- A character of a message that is still in its assembly cell. -/
def Asm.char? (a : Asm) (number cell i : Nat) : Option StationCode :=
  if a.state ≠ .empty ∧ a.number = number ∧ a.target = cell then a.chars[i]? else none

/-- A character of a cell that is in the write queue, in the newest entry that holds it. -/
def Store.queuedChar? (st : Store) (cell i : Nat) : Option StationCode :=
  (st.queue.reverse.find? fun w => decide (w.target = cell) && decide (i < w.bytes.length)).bind
    fun w => (w.bytes[i]?).map byteCode

/-- The character at a position of a message, from wherever it stands. -/
def Store.charAt (m : List Host.Cell) (st : Store) (e : Entry) (pos : Nat) : StationCode :=
  let cell := bodyCell e.header pos
  match (st.asm e.dir).char? e.number cell (pos % 8), st.queuedChar? cell (pos % 8) with
  | some c, _ => c
  | none, some c => c
  | none, none => byteCode (Memory.read m (cell * 8 + pos % 8))

/-- The characters of a message from a position to the end of its cell, up to `limit`. -/
def Store.cellChars (m : List Host.Cell) (st : Store) (e : Entry) (pos limit : Nat) : List StationCode :=
  (List.range (min ((pos / 8 + 1) * 8) limit - pos)).map fun k => st.charAt m e (pos + k)

/-- Whether an assembly cell keeps a cell staged (R168). -/
def Asm.stages (a : Asm) (cell : Nat) : Bool :=
  decide (a.target = cell) && (decide (a.state = .waiting) || (decide (a.state = .filling) && a.changed))

/-- Whether a cell is staged (R168). -/
def Store.staged (st : Store) (cell : Nat) : Bool :=
  st.queue.any (fun w => w.target == cell) || st.inCell.stages cell || st.outCell.stages cell

/-- The store with a reader's outstanding read; the host's read is held in `hostRead`. -/
def Store.setRead (r : Reader) (x : Option Read) (st : Store) : Store :=
  match r with
  | .playback => { st with playRead := x }
  | .printer => { st with printRead := x }
  | .punch => { st with punchRead := x }
  | .host => st

/-- A reader asks for the characters from a position to the end of its cell: served at once from staging, else the read is
outstanding (R166, R176). -/
def Store.ask (m : List Host.Cell) (r : Reader) (number pos : Nat) (st : Store) : Store × List StationCode :=
  match st.entry? number with
  | none => (st, [])
  | some e =>
    if st.staged (bodyCell e.header pos) then (st, st.cellChars m e pos e.length)
    else (st.setRead r (some ⟨number, pos⟩), [])

/-- A granted read of the reader, if one is in progress, is served to no one. -/
def Access.disown (r : Reader) (a : Access) : Access :=
  match a.work with
  | .read r1 cell live => if r1 = r then { a with work := .read r1 cell false } else { a with work := .read r1 cell live }
  | _ => a

/-- A reader abandons its read (R176). -/
def Store.abandon (r : Reader) (st : Store) : Store :=
  { st.setRead r none with access := st.access.map (Access.disown r) }

/-! ### READ-MESSAGE (R177) -/

/-- The reply of a finished READ-MESSAGE: the clamped offset, the count and the codes. -/
def HostRead.answer (h : HostRead) : Answer := ok (put3 h.offset ++ put1 h.got.length ++ h.got.map codeByte)

/-- Staged cells of the READ-MESSAGE are served without an access, until a cell is not staged or none is left (R166). -/
def Store.serveHost (m : List Host.Cell) (e : Entry) (st : Store) : Nat → HostRead → HostRead
  | 0, h => h
  | fuel + 1, h =>
    let pos := h.offset + h.got.length
    if h.count ≤ h.got.length then h
    else if st.staged (bodyCell e.header pos) then
      st.serveHost m e fuel { h with got := h.got ++ st.cellChars m e pos (h.offset + h.count) }
    else h

/-- READ-MESSAGE goes on: with cells left it waits; with none the delivered cursor is raised and the reply joins. -/
def hostContinue (h0 : HostRead) (s : State) : State :=
  match s.store.entry? h0.number with
  | none => s
  | some e =>
    let h := s.store.serveHost s.mem e 26 h0
    if h.got.length < h.count then { s with store := { s.store with hostRead := some h } }
    else
      let st := s.store.modify h.number fun x => { x with delivered := min x.length (max x.delivered (h.offset + h.count)) }
      let s1 := reply 0x33#8 h.answer { s with store := { st with hostRead := none } }
      autoReleaseTest h.number s1

end Sys2Proof.Machine
end

