-- ==== Sys2Proof/Machine/Printer.lean ====
section
/-! DEFINITION. The printer unit: its operations and the meanings of the printer's events (06, R75). -/

namespace Sys2Proof.Machine

/-! ### Queue, bell and work -/

/-- The printer queue has room (R74). -/
def Printer.room (p : Printer) : Bool := decide (p.queue.length < Config.printerQueueCapacity)

/-- The printer queue holds a tagged entry (R107). -/
def Printer.holdsTagged (p : Printer) : Bool := p.queue.any fun e => e.tag.isSome

/-- A due LOST mark joins when the queue has room (R75). -/
def Printer.lostJoin (p : Printer) : Printer :=
  if p.lostPending && p.room then { p with queue := p.queue ++ [⟨p.lostCode, none⟩], lostPending := false } else p

/-- A bell pulse is asked for; one that runs goes on (R105). -/
def ringBell (s : State) : State := { s with pr := { s.pr with bell := true } }

/-- No live work stands (R111). -/
def Printer.noLiveWork (p : Printer) : Bool :=
  p.queue.isEmpty && p.tracked.isNone && decide (p.mode = .direct) && !p.unavailable

/-- The head job may run (R111). -/
def Printer.jobMayRun (p : Printer) : Bool := p.noLiveWork && !p.jobs.isEmpty

/-- A message's print cursor is below its length. -/
def Store.unprinted (st : Store) (number : Nat) : Bool := decide (st.printOf number < st.lengthOf number)

/-- In CATCH-UP, text is left to print (R96). -/
def State.catchUpLeft (s : State) : Bool :=
  s.pr.catchUp.any (fun n => s.store.unprinted n)
    || (decide (s.pr.tracked ≠ s.pr.catchUp) && s.pr.tracked.any fun n => s.store.unprinted n)

/-- A homing return is due: the printer is READY with the column not known (R99; log 15). -/
def Printer.homingDue (p : Printer) : Bool := decide (p.state = .ready) && !p.columnKnown

/-- The printer has work (R96), a character that waits for the printer's own newline included (log 41). -/
def State.printerWork (s : State) : Bool :=
  !s.pr.queue.isEmpty || (decide (s.pr.mode = .catchUp) && s.catchUpLeft) || s.pr.jobMayRun || s.pr.homingDue
    || s.pr.startPending || s.pr.waiting.isSome

/-! ### The motor-off timer (R98) -/

/-- The motor-off timer runs (R98). -/
def State.motorOffRuns (s : State) : Bool :=
  decide (s.pr.state = .ready) && !s.printerWork && s.pr.tracked.isNone && decide (s.pr.mode = .direct)

/-- The ticks left of the motor-off timer's 10 s while it runs (R98; log 68). -/
def State.motorOffLeft (s : State) : Option Nat :=
  if s.motorOffRuns then some (Config.motorOffTicks - s.pr.offTicks) else none

/-- A condition of the motor-off timer ceases to hold: it stops, and the next time they all hold it has its 10 s again (R98). -/
def Printer.stopOff (p : Printer) : Printer := { p with offTicks := 0 }

/-- The motor-off timer expires: the motor stops, and column count and column-known mark are kept (R98). -/
def motorOff (s : State) : State := { s with pr := { s.pr.stopOff with state := .off, motorOn := false } }

/-- The motor-off timer at a tick (R98; log 68). -/
def motorOffTick (s : State) : State :=
  if s.motorOffRuns then
    if s.pr.offTicks + 1 < Config.motorOffTicks then { s with pr := { s.pr with offTicks := s.pr.offTicks + 1 } }
    else motorOff s
  else s

/-! ### Live work -/

/-- A running job is to be suspended, its closing newline included, its read abandoned (R112, R113). -/
def suspendJob (s : State) : State :=
  if s.pr.jobRun = .body ∨ s.pr.jobRun = .closing then
    { s with pr := { s.pr with jobRun := .suspendDue, buf := [] }, store := s.store.abandon .printer }
  else s

/-- Where live work now stands, the motor-off timer stops and a running job is to be suspended (R98, R112, R113). -/
def noteLiveWork (s : State) : State := if s.pr.noLiveWork then s else suspendJob { s with pr := s.pr.stopOff }

/-! ### CATCH-UP (R108 to R110) -/

/-- The printer reads a message from a position (R109, R112). -/
def printerAsk (number pos : Nat) (s : State) : State :=
  let r := s.store.ask s.mem .printer number pos
  { s with store := r.1, pr := { s.pr with buf := r.2, bufPos := pos } }

/-- The names of messages in a list of options. -/
def nameOf : Option Nat → List Nat
  | none => []
  | some n => [n]

/-- The comparison of R110; `reading` tells whether the read it calls for is made now. -/
def compareCursors (reading : Bool) (s : State) : State :=
  match s.pr.catchUp.filter fun n => s.store.unprinted n, s.pr.tracked.filter fun n => s.store.unprinted n with
  | some n, _ => if reading then printerAsk n (s.store.printOf n) s else s
  | none, some t =>
    let s1 := givenUp (nameOf s.pr.catchUp) { s with pr := { s.pr with catchUp := some t } }
    if reading then printerAsk t (s1.store.printOf t) s1 else s1
  | none, none =>
    givenUp (nameOf s.pr.catchUp) { s with pr := { s.pr with mode := .direct, catchUp := none } }

/-- The comparison in OFF with the UNAVAILABLE mark clear, made at once (R110). -/
def offComparison (s : State) : State :=
  if s.pr.state = .off ∧ s.pr.unavailable = false ∧ s.pr.mode = .catchUp ∧ s.pr.holdsTagged = false then
    compareCursors false s
  else s

/-- The mode becomes CATCH-UP from DIRECT with a catch-up message (R109). -/
def enterCatchUp (message : Option Nat) (s : State) : State :=
  if s.pr.mode = .direct then
    offComparison (noteLiveWork { s with pr := { s.pr with mode := .catchUp, catchUp := message } })
  else s

/-- In READY and CATCH-UP, with no tagged entry queued and every character read printed, the comparison is made (R110). -/
def readyComparison (s : State) : State :=
  if s.pr.state = .ready ∧ s.pr.mode = .catchUp ∧ s.pr.holdsTagged = false ∧ s.pr.buf = [] ∧ s.store.printRead = none
      ∧ s.pr.columnKnown = true ∧ s.pr.waiting = none ∧ s.pr.jobRun ≠ .suspendDue then
    compareCursors true s
  else s

/-! ### Delivery to the printer (R73, R74) -/

/-- A tagged character (R73). -/
def deliverTagged (code : StationCode) (tag : Tag) (s : State) : State :=
  match s.pr.mode with
  | .catchUp => s
  | .direct =>
    if s.pr.room then noteLiveWork { s with pr := { s.pr with queue := s.pr.queue ++ [⟨code, some tag⟩] } }
    else enterCatchUp (some tag.number) s

/-- The printer has room for an untagged character of a holding source (R74). -/
def Printer.takesUntagged (p : Printer) : Bool := p.unavailable || p.room

/-- An untagged character: discarded while UNAVAILABLE, queued, or dropped with a LOST mark due (R74, R75). -/
def deliverUntagged (code : StationCode) (s : State) : State :=
  if s.pr.unavailable then s
  else if s.pr.room then noteLiveWork { s with pr := { s.pr with queue := s.pr.queue ++ [⟨code, none⟩] } }
  else { s with pr := { s.pr with lostPending := true } }

/-! ### Operations of the mechanism -/

/-- LINE-FEED is driven by a line feed in progress, for the whole of it (R104; log 60). -/
def Printer.lineFeed (p : Printer) : Bool := p.feed.isSome

/-- The carriage is driven leftward, in a return until HOME is asserted: read within the return, or as the pin shows it while the
column is known (R99, R103; log 57). -/
def State.leftward (s : State) : Bool := s.pr.ret.any fun r => !r.homed && !(s.pr.columnKnown && s.pins.home)

/-- A rightward step has been given and its encoder pulse is awaited (R100). -/
def Printer.rightward (p : Printer) : Bool := p.cycle.any PrCycle.awaiting

/-- A carriage return begins (R103). -/
def Printer.startReturn (c : Option PrChar) (p : Printer) : Printer := { p with state := .returning, ret := some ⟨c, [], false⟩ }

/-- The printer's own CR and LF, overlapped (R102, R104). -/
def Printer.ownNewline (p : Printer) : Printer := { p.startReturn none with feed := some ⟨none⟩ }

/-- A print cycle begins, with the line length now in force (R100, R101, R118). -/
def Printer.startCycle (c : PrChar) (p : Printer) : Printer :=
  { p with state := .printing, cycle := some ⟨c, false, false, p.lineLength, 0⟩, hammer := decide (c.code ≠ Config.space)
           intensity := p.intensityReq, waiting := none }

/-! ### Hammer periods (R101) -/

/-- Ten times the cycles of the fast oscillator in a hammer pulse of the intensity in force, 0.25 ms for each step of it. -/
def Printer.pulseWidth (p : Printer) : Nat := p.intensity * (msCycles 1 / 4)

/-- The number of the hammer period, of 4 ms, that a moment of the print cycle lies in, from 0 on. -/
def hammerPeriod (cycles : Nat) : Nat := 10 * cycles / msCycles 4

/-- HAMMER: the pulse at the start of each hammer period, while the train runs (R100, R101). -/
def Printer.hammerPulse (p : Printer) : Bool :=
  p.hammer && p.cycle.any fun c => decide (10 * c.cycles % msCycles 4 < p.pulseWidth)

/-- The first cycle of the print cycle at which the pulse of its hammer period is over, or else the next period has begun. -/
def Printer.nextHammerChange (c : PrCycle) (p : Printer) : Nat :=
  let start := hammerPeriod c.cycles * msCycles 4
  let pulse := (start + p.pulseWidth + 9) / 10
  if c.cycles < pulse then pulse else (start + msCycles 4 + 9) / 10

/-- The last cycle that a tick brings the print cycle to: before its 12 ms until RIGHTWARD_STEP, then its 20 ms (log 21). -/
def PrCycle.lastCycle (c : PrCycle) : Nat := if c.stepped then msCycles 20 / 10 else msCycles 12 / 10

/-- At a tick the print cycle goes on to the next change of HAMMER or the next hammer period, and the intensity in force takes
the requested value when a period begins (R101; log 16, log 21). -/
def Printer.advance (p : Printer) : Printer :=
  match p.cycle with
  | none => p
  | some c =>
    let n := min c.lastCycle (p.nextHammerChange c)
    { p with
      cycle := some { c with cycles := n }
      intensity := if hammerPeriod n = hammerPeriod c.cycles then p.intensity else p.intensityReq }

/-! ### Completion -/

/-- A job character completes: the job cursor of the head job follows it (R112). -/
def Printer.jobDone (t : Tag) (p : Printer) : Printer :=
  match p.jobs with
  | [] => p
  | j :: rest => { p with jobs := { j with cursor := t.pos + 1 } :: rest }

/-- A character completes (R107, R109, R112). -/
def completeChar (c : PrChar) (s : State) : State :=
  match c.origin with
  | .queue none => s
  | .queue (some t) => setPrint t.number (t.pos + 1) s
  | .catchUp t => setPrint t.number (t.pos + 1) s
  | .job t => setPrint t.number (t.pos + 1) { s with pr := s.pr.jobDone t }

/-- Several characters complete in order. -/
def completeChars : List PrChar → State → State
  | [], s => s
  | c :: rest, s => completeChars rest (completeChar c s)

/-- The message of a tagged character, for a character from the queue or from catch-up reading. -/
def PrChar.liveTag (c : PrChar) : List Nat :=
  match c.origin with
  | .queue (some t) => [t.number]
  | .catchUp t => [t.number]
  | _ => []

/-- Messages of the tagged characters the mechanism has taken and not completed. -/
def Printer.inHand (p : Printer) : List Nat :=
  ((p.cycle.map PrCycle.char).toList ++ (p.ret.bind Carriage.char).toList ++ ((p.ret.map Carriage.feeds).getD [])
    ++ (p.feed.bind Feed.char).toList ++ p.waiting.toList).flatMap PrChar.liveTag

/-- Entry to JAMMED (R115); the head job resumes with a new opening (R112), and the printer's outstanding read is abandoned
(log 45). -/
def jam (cause : JamCause) (s : State) : State :=
  raise (.jammed cause)
    { s with
      pr := { s.pr.stopOff with
        state := .jammed, motorOn := false, hammer := false, columnKnown := false, motorFailed := false
        jamTags := s.pr.jamTags ++ s.pr.inHand, cycle := none, ret := none, feed := none, waiting := none, buf := []
        jobRun := .notStarted }
      store := s.store.abandon .printer }

/-- The cause of a jam at an operation's timeout: MOTOR once MOTOR-READY has dropped (R98, R115). -/
def Printer.timeoutCause (p : Printer) (c : JamCause) : JamCause := if p.motorFailed then .motor else c

/-- Entry to PAPER-OUT (R114); a pending start request is answered NOT-STARTED. -/
def enterPaperOut (s : State) : State :=
  answerStart (raise .paperOut { s with pr := { s.pr.stopOff with state := .paperOut, motorOn := false } })

/-- The head job leaves the list (R112). -/
def endJob (s : State) : State :=
  match s.pr.jobs with
  | [] => s
  | j :: rest => autoReleaseTest j.number { s with pr := { s.pr with jobs := rest, jobRun := .notStarted } }

/-- No operation is in progress any more: a closing job ends, a failed motor jams, absent paper stops, else READY (R98, R112,
R114; log 18). -/
def afterOperation (s : State) : State :=
  let s1 := if s.pr.jobRun = .closing then endJob s else s
  if s1.pr.motorFailed then jam .motor s1
  else if s1.pr.paper then readyComparison { s1 with pr := { s1.pr with state := .ready } }
  else enterPaperOut s1

/-! ### Taking a character (R106, R107) -/

/-- A character taken in READY acts (R106); a glyph or SPACE at the line end first asks for the printer's newline (R102). -/
def takeChar (c : PrChar) (s : State) : State :=
  if c.code.toNat ≥ 0x20 then
    if s.pr.lineEnd ∧ s.pr.policy = .autoNewline then { s with pr := { s.pr.ownNewline with waiting := some c } }
    else { s with pr := s.pr.startCycle c }
  else if c.code = Config.cr then { s with pr := s.pr.startReturn (some c) }
  else if c.code = Config.lf then { s with pr := { s.pr with state := .feeding, feed := some ⟨some c⟩ } }
  else if c.code = Config.bell then completeChar c (ringBell s)
  else completeChar c s

/-- The next character at hand, and the printer once it is taken: the queue head in DIRECT or while the queue holds a tagged
entry, else a character read for catch-up or for the running job (R107). A due LOST mark joins at the place freed. -/
def Printer.next? (p : Printer) : Option (PrChar × Printer) :=
  if p.mode = .direct ∨ p.holdsTagged then
    match p.queue with
    | e :: rest => some (⟨e.code, .queue e.tag⟩, { p with queue := rest }.lostJoin)
    | [] =>
      match p.buf, p.jobs with
      | c :: rest, j :: _ =>
        if p.jobMayRun ∧ p.jobRun = .body then
          some (⟨c, .job ⟨j.number, p.bufPos⟩⟩, { p with buf := rest, bufPos := p.bufPos + 1 })
        else none
      | _, _ => none
  else
    match p.buf, p.catchUp with
    | c :: rest, some n => some (⟨c, .catchUp ⟨n, p.bufPos⟩⟩, { p with buf := rest, bufPos := p.bufPos + 1 })
    | _, _ => none

/-- The printer's own newline when the column count is above 1 (R112, R113). -/
def Printer.newlineIfNeeded (p : Printer) : Printer := if 1 < p.column then p.ownNewline else p

/-- The head job goes on when no character of it is at hand: its opening or resumption, its next read, its closing (R112). -/
def runJob (s : State) : State :=
  match s.pr.jobs with
  | [] => s
  | j :: _ =>
    if s.pr.jobMayRun = false ∨ s.store.printRead.isSome then s
    else if s.pr.jobRun = .body then
      if j.cursor < s.store.lengthOf j.number then printerAsk j.number j.cursor s
      else if 1 < s.pr.column then { s with pr := { s.pr.ownNewline with jobRun := .closing } }
      else endJob s
    else { s with pr := { s.pr.newlineIfNeeded with jobRun := .body } }

/-- What a READY printer does next: homing, the character that waits for a newline, the new line of a suspension, the next
character, the comparison of R110, the head job (R99, R106, R107, R110, R113). -/
def readyTake (s : State) : State :=
  if s.pr.homingDue then { s with pr := s.pr.startReturn none }
  else
    match s.pr.waiting with
    | some c => { s with pr := s.pr.startCycle c }
    | none =>
      if s.pr.jobRun = .suspendDue then
        readyComparison { s with pr := { s.pr.newlineIfNeeded with jobRun := .suspended } }
      else
        match s.pr.next? with
        | some (c, p) => readyComparison (takeChar c { s with pr := p })
        | none => if s.pr.mode = .catchUp then readyComparison s else runJob s

/-- In RETURNING only an LF is taken, with no feed running, and only while the printer may take another character (R104,
R114); none is taken once MOTOR-READY has dropped (R98; log 46). A further LF is taken once an overlapped feed has ended,
although the return still runs (log 52). -/
def returningTake (s : State) : State :=
  if s.pr.feed.isSome ∨ s.pr.waiting.isSome ∨ s.pr.jobRun = .suspendDue ∨ s.pr.paper = false ∨ s.pr.motorFailed then s
  else
    match s.pr.next? with
    | some (c, p) => if c.code = Config.lf then { s with pr := { p with feed := some ⟨some c⟩ } } else s
    | none => s

/-! ### Start requests (R97) -/

/-- The call controller asks for a start (R97): answered at once but in OFF and STARTING. It is work until it has been answered
(R96), so the motor-off timer is set afresh (R98; log 68). -/
def requestStart (s : State) : State :=
  let s1 := { s with pr := { s.pr.stopOff with startPending := true } }
  if s1.pr.state = .off ∨ s1.pr.state = .starting then s1 else answerStart s1

/-! ### HOME -/

/-- HOME is read within a return: the pin shows the reading, and an assertion ends the travel and puts the column at 1 (R99, R103). -/
def readHome (asserted : Bool) (s : State) : State :=
  let p := if asserted then { s.pr with column := 1, ret := s.pr.ret.map fun r => { r with homed := true } } else s.pr
  { s with pr := p, pins := { s.pins with home := asserted } }

/-- HOME is read at a tick of a return that has not reached the left margin: no command carries the reading, which is a free value.
The return completes with RETURN_COMPLETE (R103; log 57). -/
def homeTick (s : State) : State := if s.leftward then readHome (Config.freeReading s.freeCount) (useFree s) else s

/-! ### The events -/

/-- MOTOR_START (R97): it does not come where no start is due (log 1). -/
def execMotorStart (s : State) : Host.Outcome State Fault Refusal :=
  if s.pr.state = .off ∧ s.pr.unavailable = false ∧ s.printerWork ∧ s.call.state ≠ .standby then
    .next { s with pr := { s.pr with state := .starting, motorOn := true } }
  else .next s

/-- MOTOR_READY (R97): it does not come out of STARTING (log 1). -/
def execMotorReady (s : State) : Host.Outcome State Fault Refusal :=
  if s.pr.state = .starting then
    let s1 := answerStart { s with pr := { s.pr with state := .ready }, pins := { s.pins with motorReady := true } }
    .next (if s1.pr.columnKnown then readyComparison s1 else { s1 with pr := s1.pr.startReturn none })
  else .next s

/-- MOTOR_START_TIMEOUT (R97): it does not come out of STARTING (log 1). -/
def execMotorStartTimeout (s : State) : Host.Outcome State Fault Refusal :=
  if s.pr.state = .starting then
    if s.pr.startPending then
      .next (answerStart (enterCatchUp s.pr.tracked
        { s with pr := { s.pr with state := .off, motorOn := false, unavailable := true } }))
    else .next (jam .motor s)
  else .next s

/-- MOTOR_READY_DROP (R98): the operation in progress, a line feed included, ends first (log 46). -/
def execMotorReadyDrop (s : State) : Host.Outcome State Fault Refusal :=
  let s1 := { s with pins := { s.pins with motorReady := false } }
  match s.pr.state with
  | .ready => .next (jam .motor s1)
  | .printing => .next { s1 with pr := { s1.pr with motorFailed := true } }
  | .returning => .next { s1 with pr := { s1.pr with motorFailed := true } }
  | .feeding => .next { s1 with pr := { s1.pr with motorFailed := true } }
  | _ => .next s1

/-- MOTOR_OFF_TIMER_EXPIRY (R98): it does not come while the timer does not run (log 1). -/
def execMotorOffTimerExpiry (s : State) : Host.Outcome State Fault Refusal :=
  if s.motorOffRuns then .next (motorOff s) else .next s

/-- PRINTER_TAKE (R106). -/
def execPrinterTake (s : State) : Host.Outcome State Fault Refusal :=
  match s.pr.state with
  | .ready => .next (readyTake s)
  | .returning => .next (returningTake s)
  | _ => .next s

/-- RIGHTWARD_STEP (R100, R101), at 12 ms, where a hammer period begins: the line length is that of the character's take (R118),
and so is the mark (R102; log 53). -/
def execRightwardStep (s : State) : Host.Outcome State Fault Refusal :=
  match s.pr.cycle with
  | some ⟨c, false, _, l, _⟩ =>
    let p := { s.pr with hammer := false, intensity := s.pr.intensityReq }
    let n := (msCycles 12 + 9) / 10
    if s.pr.column < l then .next { s with pr := { p with cycle := some ⟨c, true, true, l, n⟩ } }
    else .next { s with pr := { p with cycle := some ⟨c, true, false, l, n⟩, lineEnd := true } }
  | _ => .next s

/-- ENCODER_PULSE (R99, R100, R105): out of a return the carriage has left the margin, whatever made it move (log 57). -/
def execEncoderPulse (s : State) : Host.Outcome State Fault Refusal :=
  match s.pr.cycle, s.pr.ret with
  | some ⟨c, st, true, l, n⟩, _ =>
    let s1 := { s with
      pr := { s.pr with column := s.pr.column + 1, cycle := some ⟨c, st, false, l, n⟩ }, pins := { s.pins with home := false } }
    .next (if s1.pr.column = s.pr.margin then ringBell s1 else s1)
  | _, some _ => .next { s with pr := { s.pr with column := max 1 (s.pr.column - 1) } }
  | _, none => .next { s with pins := { s.pins with home := false } }

/-- STEP_TIMEOUT (R100, R115). -/
def execStepTimeout (s : State) : Host.Outcome State Fault Refusal :=
  match s.pr.cycle with
  | some ⟨_, _, true, _, _⟩ => .next (jam (s.pr.timeoutCause .step) s)
  | _ => .next s

/-- PRINT_CYCLE_END (R100): the character completes, a failed motor notwithstanding (R98; log 46). -/
def execPrintCycleEnd (s : State) : Host.Outcome State Fault Refusal :=
  match s.pr.cycle with
  | some ⟨c, true, false, _, _⟩ =>
    .next (afterOperation (completeChar c { s with pr := { s.pr with cycle := none, hammer := false } }))
  | _ => .next s

/-- RETURN_COMPLETE (R103, R104): an overlapping feed still runs to its end, a failed motor notwithstanding (R98; log 46). -/
def execReturnComplete (s : State) : Host.Outcome State Fault Refusal :=
  match s.pr.ret with
  | some r =>
    let s1 := completeChars (r.char.toList ++ r.feeds)
      { s with
        pr := { s.pr with ret := none, column := 1, lineEnd := false, columnKnown := true }
        pins := { s.pins with home := true } }
    .next (if s.pr.feed.isSome then { s1 with pr := { s1.pr with state := .feeding } } else afterOperation s1)
  | none => .next s

/-- RETURN_TIMEOUT (R103, R115): it does not come once HOME has been asserted (log 1). -/
def execReturnTimeout (s : State) : Host.Outcome State Fault Refusal :=
  if s.leftward then .next (jam (s.pr.timeoutCause .ret) s) else .next s

/-- LINE_FEED_COMPLETE (R104). -/
def execLineFeedComplete (s : State) : Host.Outcome State Fault Refusal :=
  match s.pr.feed, s.pr.ret with
  | some f, some r =>
    .next { s with pr := { s.pr with feed := none, ret := some { r with feeds := r.feeds ++ f.char.toList } } }
  | some f, none => .next (afterOperation (completeChars f.char.toList { s with pr := { s.pr with feed := none } }))
  | none, _ => .next s

/-- BELL_PULSE_END (R105). -/
def execBellPulseEnd (s : State) : Host.Outcome State Fault Refusal :=
  .next { s with pr := { s.pr with bell := false } }

/-- PAPER_OUT (R114). -/
def execPaperOut (s : State) : Host.Outcome State Fault Refusal :=
  if s.pr.paper ∧ s.call.state ≠ .standby then
    let s1 := { s with pr := { s.pr with paper := false }, pins := { s.pins with paperOk := false } }
    match s.pr.state with
    | .ready => .next (enterPaperOut s1)
    | .starting => .next (enterPaperOut s1)
    | .off => .next (enterPaperOut s1)
    | _ => .next s1
  else .next s

/-- PAPER_BACK (R114, R110): in an operation that began with paper, the printer goes on as if none had been lost (log 59). -/
def execPaperBack (s : State) : Host.Outcome State Fault Refusal :=
  if s.pr.paper = false ∧ s.call.state ≠ .standby then
    let s1 := { s with pr := { s.pr with paper := true }, pins := { s.pins with paperOk := true } }
    match s.pr.state with
    | .paperOut => .next (offComparison (raise .paperBack { s1 with pr := { s1.pr with state := .off } }))
    | .jammed => .next (raise .paperBack s1)
    | _ => .next s1
  else .next s

/-- LOST_MARK_JOIN (R75). -/
def execLostMarkJoin (s : State) : Host.Outcome State Fault Refusal :=
  .next (noteLiveWork { s with pr := s.pr.lostJoin })

end Sys2Proof.Machine
end

