-- ==== Sys2Proof/Machine/Code.lean ====
section
/-! DEFINITION. The code converter: the code table, decoding, encoding, the EOM matcher (01). -/

namespace Sys2Proof.Machine

/-- The plane that is not this one. -/
def Plane.other : Plane → Plane
  | .letters => .figures
  | .figures => .letters

/-- A plane as a shift. -/
def Plane.shift : Plane → Shift
  | .letters => .letters
  | .figures => .figures

/-- One plane of the table. -/
def Converter.table (cv : Converter) : Plane → PlaneTable
  | .letters => cv.letters
  | .figures => cv.figures

/-- The converter with one plane replaced. -/
def Converter.setTable (cv : Converter) (p : Plane) (t : PlaneTable) : Converter :=
  match p with
  | .letters => { cv with letters := t }
  | .figures => { cv with figures := t }

/-- The entry of a raw code. -/
def PlaneTable.entry (t : PlaneTable) (r : RawCode) : Option StationCode := t.entries[r.toNat]'r.isLt

/-- Whether a raw code is one of the two designated (R2). -/
def Converter.designated (cv : Converter) (r : RawCode) : Bool :=
  decide (cv.ltrsShift = some r) || decide (cv.figsShift = some r)

/-- The 32 raw codes, lowest first. -/
def rawCodes : List RawCode := (List.range 32).map (BitVec.ofNat 5)

/-- Whether c is in plane p at r (R8). -/
def Converter.isAt (cv : Converter) (p : Plane) (c : StationCode) (r : RawCode) : Bool :=
  !cv.designated r && decide ((cv.table p).entry r = some c)

/-- The lowest raw code at which c is in plane p (R8). -/
def Converter.find? (cv : Converter) (p : Plane) (c : StationCode) : Option RawCode := rawCodes.find? (cv.isAt p c)

/-- The lowest raw code that carries c in both planes (R8, step 3). -/
def Converter.findBoth? (cv : Converter) (c : StationCode) : Option RawCode :=
  rawCodes.find? fun r => cv.isAt .letters c r && cv.isAt .figures c r

/-- The shift code that selects a plane; none while none is designated (R8). -/
def Converter.shiftCode (cv : Converter) : Plane → Option RawCode
  | .letters => cv.ltrsShift
  | .figures => cv.figsShift

/-- What the encoder produces: a shift code or none, the raw code, and the plane afterward. -/
structure Encoded where
  shift : Option RawCode
  code : RawCode
  plane : Shift
  deriving DecidableEq, Repr

/-- R8 for a plane known to be p: steps 1 and 2. -/
def Converter.encodeKnown (cv : Converter) (p : Plane) (c : StationCode) : Option Encoded :=
  match cv.find? p c, cv.find? p.other c with
  | some r, _ => some ⟨none, r, p.shift⟩
  | none, some r => some ⟨cv.shiftCode p.other, r, p.other.shift⟩
  | none, none => none

/-- R8 for the plane UNKNOWN: steps 3 and 4. -/
def Converter.encodeUnknown (cv : Converter) (c : StationCode) : Option Encoded :=
  match cv.findBoth? c, cv.find? .letters c, cv.find? .figures c with
  | some r, _, _ => some ⟨none, r, .unknown⟩
  | none, some r, _ => some ⟨cv.ltrsShift, r, .letters⟩
  | none, none, some r => some ⟨cv.figsShift, r, .figures⟩
  | none, none, none => none

/-- Unshift-on-space after encoding (R10). -/
def Converter.unshifted (cv : Converter) (c : StationCode) (e : Encoded) : Encoded :=
  if cv.unshift && decide (c = Config.space) then { e with plane := .letters } else e

/-- Encodes a station code under a plane; none for an unsendable code (R8, R9, R10). -/
def Converter.encode (cv : Converter) (p : Shift) (c : StationCode) : Option Encoded :=
  (match p with
    | .letters => cv.encodeKnown .letters c
    | .figures => cv.encodeKnown .figures c
    | .unknown => cv.encodeUnknown c).map (cv.unshifted c)

/-- Decodes a raw code: the converter afterward, and the LINE-IN character with its error mark, none for a shift code
(R6, R10). -/
def Converter.decode (cv : Converter) (r : RawCode) : Converter × Option (StationCode × Bool) :=
  if cv.ltrsShift = some r then ({ cv with rxPlane := .letters }, none)
  else if cv.figsShift = some r then ({ cv with rxPlane := .figures }, none)
  else
    match (cv.table cv.rxPlane).entry r with
    | none => (cv, some (Config.errorMark, true))
    | some c =>
      (if cv.unshift && decide (c = Config.space) then { cv with rxPlane := .letters } else cv, some (c, false))

/-- Whether some entry of either plane outside the designated raw codes holds ASK-ID (R3, R4). -/
def Converter.holdsAskId (cv : Converter) : Bool :=
  (cv.find? .letters Config.askId).isSome || (cv.find? .figures Config.askId).isSome

/-- The length of the longest beginning of E1..Em, shorter than m, that also ends E1..Em (R14, step 3). -/
def fallback (eom : List StationCode) (m : Nat) : Nat :=
  ((List.range m).reverse.find? fun k => decide (eom.take k = (eom.take m).drop (m - k))).getD 0

/-- Steps 1 to 3 of R14 for one character; the fuel bounds the fallbacks. -/
def matchStep (eom : List StationCode) (c : StationCode) : Nat → Nat → Nat
  | 0, m => m
  | fuel + 1, m =>
    if eom[m]? = some c then m + 1
    else if m = 0 then 0
    else matchStep eom c fuel (fallback eom m)

/-- The matcher takes a character: the count afterward, and whether the sequence is complete (R14). -/
def eomMatch (eom : List StationCode) (m : Nat) (c : StationCode) : Nat × Bool :=
  if eom.isEmpty then (0, false)
  else
    let m1 := matchStep eom c (m + 1) m
    if m1 = eom.length then (0, true) else (m1, false)

end Sys2Proof.Machine
end

