-- ==== Sys2Proof/Machine/Punch.lean ====
section
/-! DEFINITION. The punch unit: its operations and the meanings of the punch's events (07). -/

namespace Sys2Proof.Machine

/-! ### Work and direct text -/

/-- Room for a direct character (R76, R131). -/
def Punch.takesDirect (p : Punch) : Bool := p.chain.isEmpty && decide (p.queue.length < Config.punchQueueCapacity)

/-- Work exists (R120). -/
def Punch.works (p : Punch) : Bool := !p.queue.isEmpty || !p.chain.isEmpty || p.held.isSome

/-- A job is running (R125, R126). -/
def Punch.jobRuns (p : Punch) : Bool := decide (p.stage ≠ .none)

/-- Whether some job on the chain follows a message (R129). -/
def Punch.follows (p : Punch) (number : Nat) : Bool := p.chain.any fun j => j.follow && j.number == number

/-- Entry to TAPE-LOW-HOLD (R132). -/
def enterTapeHold (s : State) : State :=
  raise .tapeLow { s with pu := { s.pu with state := .tapeLowHold, holdPending := false } }

/-! ### The body of a job (R127, R128, R130) -/

/-- Characters read from a position on, as tagged TEXT entries. -/
def taggedEntries (number : Nat) : Nat → List StationCode → List PunchEntry
  | _, [] => []
  | pos, c :: rest => .text c (some ⟨number, pos⟩) :: taggedEntries number (pos + 1) rest

/-- The characters of a served read join the queue, and the read position rises (R127). -/
def Punch.served (cs : List StationCode) (p : Punch) : Punch :=
  match p.chain with
  | [] => p
  | j :: rest =>
    { p with queue := p.queue ++ taggedEntries j.number j.readPos cs
             chain := { j with readPos := j.readPos + cs.length } :: rest }

/-- The running job asks for a read (R127). -/
def State.punchWants (s : State) : Bool :=
  match s.pu.chain with
  | [] => false
  | j :: _ => decide (s.pu.stage = .body) && s.store.punchRead.isNone && decide (j.readPos < s.store.lengthOf j.number)
      && decide (s.pu.queue.length ≤ 24)

/-- The running job's reads, as long as it wants one and staging serves it at once (R127, R176). -/
def punchReads : Nat → State → State
  | 0, s => s
  | fuel + 1, s =>
    match s.pu.chain with
    | [] => s
    | j :: _ =>
      if s.punchWants then
        let r := s.store.ask s.mem .punch j.number j.readPos
        punchReads fuel { s with store := r.1, pu := s.pu.served r.2 }
      else s

/-- The job ends (R128); a pending hold is then entered (R132). -/
def endPunchJob (s : State) : State :=
  match s.pu.chain with
  | [] => s
  | j :: rest =>
    let s1 := raise (.punchJobDone j.number j.follow j.cursor)
      { s with pu := { s.pu with chain := rest, stage := .none, shift := .unknown } }
    let s2 := autoReleaseTest j.number s1
    if s2.pu.holdPending then enterTapeHold s2 else s2

/-- Nothing of the running job is left to punch: no entry, no held code, no cycle. -/
def Punch.drained (p : Punch) : Bool := p.queue.isEmpty && p.held.isNone && p.cycle.isNone

/-- A finished body places the trailer or ends the job; a punched trailer ends it (R128; log 31). A job with a read outstanding
has text left (R127). -/
def finishJob (s : State) : State :=
  match s.pu.chain, s.pu.stage with
  | j :: _, .body =>
    if s.pu.drained ∧ s.store.punchRead.isNone ∧ (s.store.entry? j.number).any (fun e => decide (e.state ≠ .open) && decide (j.cursor = e.length)) then
      if j.trailer = 0 then endPunchJob s
      else { s with pu := { s.pu with queue := [.blank j.trailer], stage := .trailer } }
    else s
  | _ :: _, .trailer => if s.pu.drained ∧ s.store.punchRead.isNone then endPunchJob s else s
  | _, _ => s

/-- A running FOLLOW job has placed every stored character of its OPEN message (R130). -/
def State.punchHolds (s : State) : Bool :=
  match s.pu.chain with
  | [] => false
  | j :: _ => decide (s.pu.stage = .body) && j.follow && s.pu.queue.isEmpty && s.pu.held.isNone
      && s.store.punchRead.isNone
      && (s.store.entry? j.number).any fun e => decide (e.state = .open) && decide (e.length ≤ j.readPos)

/-- The state between cycles: HELD, READY with work, OFF without (R120, R130). -/
def State.punchRest (s : State) : PuState :=
  if s.punchHolds then .held else if s.pu.works then .ready else .off

/-- The punch follows its work: reads, the end of a body, the state between cycles (R120, R127, R128, R130). -/
def punchSettle (s : State) : State :=
  if s.pu.state = .tapeLowHold then s
  else
    let s1 := finishJob (punchReads 32 s)
    if s1.pu.cycle.isSome ∨ s1.pu.state = .tapeLowHold then s1 else { s1 with pu := { s1.pu with state := s1.punchRest } }

/-- A character completes: the message's punch cursor follows, and its job's cursor unless that job has been cancelled (R123,
R127, R134). -/
def punchComplete (cancelled : Bool) (tag : Option Tag) (s : State) : State :=
  match tag with
  | none => s
  | some t =>
    let s1 := match s.pu.chain with
      | j :: rest =>
        if cancelled = false ∧ s.pu.stage = .body ∧ j.number = t.number ∧ j.cursor = t.pos then
          { s with pu := { s.pu with chain := { j with cursor := t.pos + 1 } :: rest } }
        else s
      | [] => s
    setPunch t.number (t.pos + 1) s1

/-! ### Cycles (R121 to R123) -/

/-- A punch cycle begins; the on-time in force takes the requested value (R121). -/
def Punch.startCycle (st : PuState) (code : RawCode) (completes : Option (Option Tag)) (p : Punch) : Punch :=
  { p with state := st, cycle := some ⟨code, completes, false, 0⟩, onTime := p.onTimeReq }

/-- Whether the magnet on-time in force has not passed since `ms` milliseconds after the cycle's start, and they have (R121). -/
def Punch.pulseOn (ms : Nat) (c : PunchCycle) (p : Punch) : Bool :=
  decide (msCycles ms ≤ 10 * c.cycles) && decide (10 * c.cycles < msCycles (ms + p.onTime))

/-- The five code magnets: unit k of the row's code drives magnet k from the start of the cycle on (R121). -/
def Punch.codeMagnets (p : Punch) : RawCode :=
  match p.cycle with
  | some c => if p.pulseOn 0 c then c.code else 0
  | none => 0

/-- The feed magnet, from 10 ms on (R121). -/
def Punch.feedMagnet (p : Punch) : Bool := p.cycle.any fun c => p.pulseOn 10 c

/-- The first cycle at which a pulse begun at `ms` milliseconds is over (R121). -/
def Punch.pulseEnd (ms : Nat) (p : Punch) : Nat := (msCycles (ms + p.onTime) + 9) / 10

/-- The cycles at which a magnet changes, and the end of the punch cycle (R121). -/
def Punch.changes (p : Punch) : List Nat := [p.pulseEnd 0, msCycles 10 / 10, p.pulseEnd 10, msCycles 20 / 10]

/-- A tick's cycles pass in the punch cycle in progress, to the next change of a magnet at the latest (R121; log 21). -/
def Punch.advance (p : Punch) : Punch :=
  { p with cycle := p.cycle.map fun c => { c with
      cycles := min (c.cycles + Config.tickCycles)
        ((p.changes.find? fun x => decide (c.cycles < x)).getD (msCycles 20 / 10)) } }

/-- Codes of one character are punched: the first now, the rest held; the character completes with the last (R123). -/
def Punch.punchCodes (tag : Option Tag) : List RawCode → Punch → Punch
  | [], p => { p with held := none }
  | [r], p => { p with held := none }.startCycle .punching r (some tag)
  | r :: rest, p => { p with held := some ⟨rest, tag⟩ }.startCycle .punching r none

/-- The LTRS-SHIFT code that a TEXT entry taken in UNKNOWN brings (R123, step 1). -/
def Punch.opening (cv : Converter) (p : Punch) : List RawCode :=
  if p.shift = .unknown then cv.ltrsShift.toList else []

/-- The plane a TEXT entry is encoded under (R123). -/
def Punch.plane (p : Punch) : Shift := if p.shift = .unknown then .letters else p.shift

/-- A TEXT entry is taken (R123): with a LTRS-SHIFT code first it may make three cycles, whose codes are all settled here (log
55). -/
def takeText (c : StationCode) (tag : Option Tag) (s : State) : State :=
  let pre := s.pu.opening s.conv
  match s.conv.encode s.pu.plane c with
  | some e => { s with pu := { s.pu with shift := e.plane }.punchCodes tag (pre ++ e.shift.toList ++ [e.code]) }
  | none =>
    let s1 := punchComplete false tag (raise (.unsendable c) { s with pu := { s.pu with shift := s.pu.plane } })
    match pre with
    | [] => s1
    | r :: _ => { s1 with pu := s1.pu.startCycle .punching r none }

/-- The head of the queue is taken (R122). -/
def takeHead (s : State) : State :=
  match s.pu.queue with
  | [] => s
  | .blank n :: rest =>
    let q := if n ≤ 1 then rest else .blank (n - 1) :: rest
    { s with pu := { s.pu with queue := q }.startCycle .leader 0 none }
  | .ltrs :: rest =>
    let p := { s.pu with queue := rest, shift := .letters }
    match s.conv.ltrsShift with
    | some r => { s with pu := p.startCycle .punching r none }
    | none => { s with pu := p }
  | .text c tag :: rest => takeText c tag { s with pu := { s.pu with queue := rest } }

/-! ### The events -/

/-- PUNCH_TAKE_ENTRY (R122, R123). -/
def execPunchTakeEntry (s : State) : Host.Outcome State Fault Refusal :=
  if s.pu.cycle.isSome ∨ s.pu.state = .tapeLowHold ∨ s.call.state = .standby then .next s
  else
    match s.pu.held with
    | some h => .next { s with pu := s.pu.punchCodes h.tag h.codes }
    | none => .next (punchSettle (takeHead s))

/-- PUNCH_CYCLE_END (R121); the punch does not run in STANDBY (R120). -/
def execPunchCycleEnd (s : State) : Host.Outcome State Fault Refusal :=
  match s.pu.cycle with
  | none => .next s
  | some c =>
    if s.call.state = .standby then .next s
    else
      let s1 := { s with pu := { s.pu with cycle := none, state := .ready } }
      let s2 := match c.completes with
        | some tag => punchComplete c.cancelled tag s1
        | none => s1
      if s2.pu.holdPending ∧ s2.pu.stage = .none ∧ s2.pu.held = none then .next (enterTapeHold s2)
      else .next (punchSettle s2)

/-- PUNCH_JOB_START (R126). -/
def execPunchJobStart (s : State) : Host.Outcome State Fault Refusal :=
  match s.pu.chain with
  | [] => .next s
  | j :: _ =>
    if s.pu.stage = .none ∧ s.pu.queue = [] ∧ s.pu.held = none ∧ s.pu.state ≠ .tapeLowHold ∧ s.pu.holdPending = false
        ∧ s.call.state ≠ .standby then
      let lead : List PunchEntry := if j.leader = 0 then [] else [.blank j.leader]
      .next (punchSettle { s with pu := { s.pu with queue := lead ++ [.ltrs], stage := .body } })
    else .next s

/-- TAPE_LOW_ASSERTED (R132): the last cycle of a cancelled job counts as a cycle in progress (log 54). -/
def execTapeLowAsserted (s : State) : Host.Outcome State Fault Refusal :=
  if s.pu.tapeLow ∨ s.call.state = .standby then .next s
  else
    let s1 := { s with pu := { s.pu with tapeLow := true }, pins := { s.pins with tapeLow := true } }
    if s.pu.state = .tapeLowHold ∨ s.pu.holdPending then .next s1
    else if s.pu.jobRuns ∨ s.pu.cycle.isSome then .next { s1 with pu := { s1.pu with holdPending := true } }
    else .next (enterTapeHold s1)

/-- TAPE_LOW_CLEAR (R132). -/
def execTapeLowClear (s : State) : Host.Outcome State Fault Refusal :=
  if s.pu.tapeLow ∧ s.call.state ≠ .standby then
    .next { s with pu := { s.pu with tapeLow := false }, pins := { s.pins with tapeLow := false } }
  else .next s

end Sys2Proof.Machine
end

