-- ==== Sys2Proof/Machine/Messages.lean ====
section
/-! DEFINITION. The opening, growing and closing of messages, with the acts of the printer and the punch that go with them
(R129, R148, R150, R172 to R174). -/

namespace Sys2Proof.Machine

/-! ### Closing (R150, R174) -/

/-- The printer cannot print (R117). -/
def Printer.cannotPrint (p : Printer) : Bool :=
  match p.state with
  | .paperOut => true
  | .jammed => true
  | .off => p.unavailable
  | _ => false

/-- The flags of a message at its close: those it has, those of the cause, and PRINT-INCOMPLETE where R117 calls for it. -/
def State.closeFlags (s : State) (e : Entry) (f : MsgFlags) : MsgFlags :=
  (e.flags.or f).or
    { MsgFlags.none with
      printIncomplete := decide (s.pr.tracked = some e.number) && s.pr.cannotPrint && decide (e.print < e.length) }

/-- Tracking of a message ends (R108). -/
def Printer.untrack (number : Nat) (p : Printer) : Printer := if p.tracked = some number then { p with tracked := none } else p

/-- The close of a message with the flags of its cause, in the order of R150: closed, flagged, tracking ended, the FOLLOW job's
end, the report, the test for release. The last cell is staged with the first step; nothing tells that from step 5 (R174). -/
def closeMessage (e : Entry) (f : MsgFlags) (s : State) : State :=
  let flags := s.closeFlags e f
  let st := (s.store.modify e.number fun x => { x with state := .closed, flags := flags, headerDue := true }).closeAsm e.dir
  let s1 := { s with store := st, pr := s.pr.untrack e.number }
  autoReleaseTest e.number (raise (.messageClosed e.number flags) (punchSettle s1))

/-- The OPEN message of a direction, if any, is closed (R153, R172, R181). -/
def closeOpen (d : Dir) (f : MsgFlags) (s : State) : State :=
  match s.store.open? d with
  | none => s
  | some e => closeMessage e f s

/-! ### Growing (R173) -/

/-- A character is stored into the OPEN message of a direction. One that the assembly cell cannot take flags an incoming
message TRUNCATED; one that needs a cell when none is free closes the message TRUNCATED. -/
def storeInto (e : Entry) (c : StationCode) (s : State) : State × Stored :=
  let r := s.store.storeChar e.dir e c
  match r.2 with
  | .at pos => ({ s with store := r.1 }, .at pos)
  | .blocked =>
    (match e.dir with
      | .in => { s with store := s.store.setFlags e.number MsgFlags.justTruncated }
      | .out => s, .blocked)
  | .ringOut => (closeMessage e MsgFlags.justTruncated s, .ringOut)

/-! ### Opening (R148, R172) -/

/-- The new message becomes tracked, and the catch-up message when CATCH-UP has none (R108, R109). -/
def trackMessage (number : Nat) (s : State) : State :=
  let p := { s.pr with tracked := some number }
  noteLiveWork { s with
    pr := if p.mode = .catchUp ∧ p.catchUp = none then { p with catchUp := some number } else p
    store := s.store.modify number fun e => { e with trackedMark := true } }

/-- A FOLLOW job joins the chain, or the message is flagged PUNCH-SKIPPED (R129). -/
def followMessage (number : Nat) (s : State) : State :=
  if s.pu.chain.length < Config.punchChainCapacity then
    { s with
      pu := { s.pu with chain := s.pu.chain ++ [⟨number, 0, s.pu.defLeader, s.pu.defTrailer, true, 0, 0⟩] }
      store := s.store.modify number fun e => { e with punchNamed := true } }
  else { s with store := s.store.setFlags number MsgFlags.justPunchSkipped }

/-- An incoming message opens, for a character of a row: an OPEN outgoing message is first closed TRUNCATED (R148, R172), and the
punch has work as soon as its FOLLOW job stands on the chain (R120, R129). -/
def openIncoming (row : Row) (s : State) : State :=
  let s0 := closeOpen .out MsgFlags.justTruncated s
  let r := s0.store.openEntry .in s0.call.rate s0.rx.q
  let s1 := { s0 with store := r.1 }
  let s2 := if row.printer then trackMessage r.2 s1 else s1
  let s3 := if row.punch then punchSettle (followMessage r.2 s2) else s2
  raise (.messageOpened r.2 s3.call.rate) s3

/-- What the STORE delivery of a character came to: the message and position it was stored at, and whether the store told
STORE-FULL (R72, R149). -/
structure Delivered where
  state : State
  stored : Option Tag
  full : Bool
  deriving DecidableEq, Repr

/-- A character goes into an OPEN message. -/
def deliverInto (e : Entry) (c : StationCode) (s : State) : Delivered :=
  match storeInto e c s with
  | (s1, .at pos) => ⟨punchSettle s1, some ⟨e.number, pos⟩, false⟩
  | (s1, .blocked) => ⟨s1, none, false⟩
  | (s1, .ringOut) => ⟨s1, none, decide (e.dir = .in)⟩

/-- A LINE-IN character goes into the OPEN incoming message, or opens one; an opening that cannot be made is STORE-FULL
(R72, R148, R149). -/
def deliverLineIn (row : Row) (c : StationCode) (s : State) : Delivered :=
  match s.store.open? .in with
  | some e => deliverInto e c s
  | none =>
    if s.store.canOpen .in then
      let s1 := openIncoming row s
      match s1.store.open? .in with
      | some e => deliverInto e c s1
      | none => ⟨s1, none, false⟩
    else ⟨s, none, true⟩

end Sys2Proof.Machine
end

