-- ==== Sys2Proof/Machine/Signals.lean ====
section
/-! DEFINITION. The transmitter's flush, breaks and long signals, the pause of a playback and the end of an answerback duty
(R44, R46, R48 to R51, R55), the entry to CLEARING and the end of a call (R28, R62, R153, R154). -/

namespace Sys2Proof.Machine

/-! ### Flush (R44, R55) -/

/-- An offer code that a flush takes from a slot: whether its M2 counted as an acknowledged offer (R55). -/
def Slot.lostOffer (x : Slot) : List Bool :=
  match x.kind with
  | .offerCode index ack => [index == 3 && ack]
  | _ => []

/-- The offer codes that a flush discards before their sent point. -/
def Transmitter.lostOffers (t : Transmitter) : List Bool :=
  (match t.front with
    | some f => if f.sent then [] else f.slot.lostOffer
    | none => []) ++ (t.next.map Slot.lostOffer).getD []

/-- Discarded offer codes are taken back: the offer is given again from its first preamble (R55). -/
def Agreement.takeBack (lost : List Bool) (a : Agreement) : Agreement :=
  if a.active ∧ lost ≠ [] then { a with nextCode := 0, formed := a.formed - lost.count true } else a

/-- A flush; TXD goes to the level its cause calls for (R44). -/
def flush (level : Level) (s : State) : State :=
  { s with
    tx := { s.tx with front := none, next := none, txd := level }
    conv := { s.conv with held := none }
    agr := s.agr.takeBack s.tx.lostOffers }

/-! ### Breaks (R48, R49, R50) -/

/-- The sent cursor of the playback's message. -/
def State.sentCursor (s : State) : Nat := ((s.store.entry? s.call.play.number).map Entry.sent).getD 0

/-- A break makes a RUNNING playback PAUSED, its read position set back to the sent cursor (R50). -/
def pausePlayback (s : State) : State :=
  if s.call.play.state = .running then
    { s with
      call := { s.call with
        play := { s.call.play with state := .paused, readPos := s.sentCursor, buf := [], skipped := [] } }
      store := s.store.abandon .playback }
  else s

/-- The answerback duty is cancelled (R46). -/
def Transmitter.cancelDuty (t : Transmitter) : Transmitter := { t with duty := .none, given := 0, counted := 0, passed := [] }

/-- A break is sent (R48). -/
def sendBreak (s : State) : State :=
  let s1 := flush .space s
  let s2 := pausePlayback
    { s1 with tx := { s1.tx with signal := .brk 0 }, conv := { s1.conv with txPlane := .unknown } }
  { s2 with tx := s2.tx.cancelDuty }

/-- A break is received: its effects on the transmitter; a break signal of this station goes on (R49). -/
def receivedBreak (s : State) : State :=
  let s1 := flush (if s.tx.signal = .none then .mark else s.tx.txd) s
  let s2 := pausePlayback { s1 with conv := { s1.conv with txPlane := .unknown } }
  raise .breakReceived { s2 with tx := s2.tx.cancelDuty }

/-! ### Entry to CLEARING and the end of a call (R28, R62, R153, R154) -/

/-- The line verdict (R28). -/
def Receiver.verdict (r : Receiver) : Verdict :=
  if r.qt ≤ r.q then .poor else if r.q < r.qt / 2 ∧ 64 ≤ r.n then .good else .neutral

/-- The offered ceiling moves on a verdict (R62). -/
def Agreement.moveCeiling (v : Verdict) (a : Agreement) : Agreement :=
  match v with
  | .poor => { a with ceiling := a.ceiling.down }
  | .good => { a with ceiling := a.cfgMax.lower a.ceiling.up }
  | .neutral => a

/-- A RUNNING or PAUSED playback becomes CANCELLED, with its report (R156). -/
def cancelPlayback (s : State) : State :=
  if s.call.play.state = .running ∨ s.call.play.state = .paused then
    let s1 := raise (.playbackDone s.call.play.number .cancelled s.sentCursor)
      { s with
        call := { s.call with play := { s.call.play with state := .cancelled, buf := [], skipped := [] } }
        store := s.store.abandon .playback }
    autoReleaseTest s.call.play.number s1
  else s

/-- The receiver goes to HUNT and discards a character in progress (R19). -/
def Receiver.toHunt (r : Receiver) : Receiver := { r with state := .hunt, edges := [], measured := [] }

/-- The flags of a close at entry to CLEARING (R150). -/
def clearFlags (v : Verdict) : MsgFlags :=
  { MsgFlags.none with endedByClear := true, poorLine := decide (v = .poor) }

/-- A call ends: IDLE; CALL-ENDED carries the ceiling as the verdict left it (R154). -/
def callEnd (s : State) : State :=
  let s1 := offComparison
    { s with
      tx := { s.tx with signal := .none, txd := .mark }
      rx := s.rx.toHunt
      pr := { s.pr with unavailable := false }
      conv := { s.conv with txPlane := .unknown }
      call := { s.call with
        state := .idle, loopClose := false, callMode := none, ringCount := 0, lossCount := 0, reached := false
        standbyTimer := timerOf s.call.standbyAfter } }
  raise
    (.callEnded s.call.cause (if s.call.reached then s.call.rate else none) (if s.call.reached then s.call.outcome else none)
      s.call.verdict s.call.ceilingLeft) s1

/-- The verdict of a clearing that begins from a call state (R28). -/
def State.clearingVerdict (s : State) : Verdict :=
  if s.call.state = .agreeing ∨ s.call.state = .connected then s.rx.verdict else .neutral

/-- Entry to CLEARING with a cause (R153). A line that is lost ends the call at once (R154). -/
def enterClearing (cause : Cause) (s : State) : State :=
  let v := s.clearingVerdict
  let s1 := cancelPlayback
    { s with
      call := { s.call with
        state := .clearing, cause := cause, verdict := v, ceilingLeft := (s.agr.moveCeiling v).ceiling, lossCount := 0
        loopTimer := none, idleTimer := none }
      rx := { s.rx with spaceCount := 0, lossCount := 0 }
      agr := { s.agr.moveCeiling v with active := false }
      tx := s.tx.cancelDuty }
  let s2 := closeOpen .in (clearFlags v) s1
  if cause = .lineLost then
    let s3 := flush .mark s2
    callEnd { s3 with tx := { s3.tx with signal := .none } }
  else
    let s3 := flush .space s2
    { s3 with tx := { s3.tx with signal := .clr 0 } }

end Sys2Proof.Machine
end

