-- ==== Sys2Proof/Machine/Router.lean ====
section
/-! DEFINITION. The router: the set in force, the acceptance at each sink and the take of one character (04), and the meaning
of HOLDING_SOURCE_TAKE. -/

namespace Sys2Proof.Machine

/-- The row of a source. -/
def RouteSet.row (r : RouteSet) : Source → Row
  | .lineIn => r.lineIn
  | .keyboard => r.keyboard
  | .linkText => r.linkText
  | .playback => r.playback
  | .answerback => r.answerback

/-- The set of a call's mode (R66). -/
def Router.callSet (r : Router) (m : Option Mode) : RouteSet :=
  match m with
  | some .unattended => r.unattended
  | _ => r.attended

/-- The set in force (R66). -/
def State.routeSet (s : State) : RouteSet :=
  match s.call.state with
  | .standby => s.router.localSet
  | .idle => s.router.localSet
  | .ringCheck => s.router.localSet
  | _ => s.router.callSet s.call.callMode

/-- The row of a source under the set in force. -/
def State.row (s : State) (src : Source) : Row := s.routeSet.row src

/-! ### Room for holding sources (R67, R72, R74, R76, R78) -/

/-- STORE has room for a holding source: at most 2 cells in the write queue, and the OUT cell can take a character (R72,
R169, R173). -/
def Store.hasRoom (st : Store) : Bool :=
  decide (st.queue.length ≤ 2) && !((st.open? .out).isSome && decide (st.outCell.state = .waiting))

/-- The newest TEXT report, if it can take a character of a source (R78). -/
def Link.joinsText (l : Link) (src : Source) : Bool :=
  match l.reports.reverse.find? Report.isText with
  | some (.text src1 codes) => decide (src1 = src) && decide (codes.length < Config.textCapacity)
  | _ => false

/-- LINK has room for a character of a source (R78). -/
def Link.hasRoom (l : Link) (src : Source) : Bool :=
  l.joinsText src || decide (l.reports.length < Config.reportCapacity)

/-- Every sink of a holding source's row other than LINE-OUT can take its head character (R67). -/
def State.sinksReady (s : State) (src : Source) : Bool :=
  (!(s.row src).store || s.store.hasRoom) && (!(s.row src).printer || s.pr.takesUntagged)
    && (!(s.row src).punch || s.pu.takesDirect) && (!(s.row src).link || s.link.hasRoom src)

/-! ### The sinks (R72 to R78) -/

/-- The STORE delivery (R72). -/
def deliverStore (src : Source) (row : Row) (c : StationCode) (s : State) : Delivered :=
  if row.store then
    match src with
    | .lineIn => deliverLineIn row c s
    | .answerback =>
      match s.store.open? .in with
      | some e => deliverInto e c s
      | none => ⟨s, none, false⟩
    | .playback => ⟨s, none, false⟩
    | _ =>
      match s.store.open? .out with
      | some e => deliverInto e c s
      | none => ⟨s, none, false⟩
  else ⟨s, none, false⟩

/-- The PRINTER delivery: a character stored in the tracked message is tagged, whatever the row (R73, R74). -/
def deliverPrinter (row : Row) (c : StationCode) (stored : Option Tag) (s : State) : State :=
  match stored.filter fun t => decide (s.pr.tracked = some t.number) with
  | some t => deliverTagged c t s
  | none => if row.printer then deliverUntagged c s else s

/-- A direct TEXT entry joins the punch queue (R131). -/
def punchDirect (c : StationCode) (s : State) : State :=
  punchSettle { s with pu := { s.pu with queue := s.pu.queue ++ [.text c none] } }

/-- The PUNCH delivery: a followed message is punched from the store; LINE-IN text not followed is not punched; other text
joins the queue or is dropped (R76). -/
def deliverPunch (src : Source) (row : Row) (c : StationCode) (stored : Option Tag) (s : State) : State :=
  if stored.any fun t => s.pu.follows t.number then s
  else if row.punch ∧ src ≠ .lineIn ∧ s.pu.takesDirect then punchDirect c s
  else s

/-- A code joins the newest TEXT report of the list. -/
def appendText (c : StationCode) : List Report → List Report
  | [] => []
  | .text src codes :: rest =>
    if rest.any Report.isText then .text src codes :: appendText c rest else .text src (codes ++ [c]) :: rest
  | r :: rest => r :: appendText c rest

/-- The LINK delivery (R78, R79). A take that was found to have room and whose own STORE delivery filled the report queue drops
the code here (log 50). -/
def deliverLink (src : Source) (row : Row) (c : StationCode) (s : State) : State :=
  if row.link = false then s
  else if s.link.joinsText src then { s with link := { s.link with reports := appendText c s.link.reports } }
  else if s.link.reports.length < Config.reportCapacity then raise (.text src [c]) s
  else { s with latches := { s.latches with linkTextLost := true } }

/-- The call controller acts on STORE-FULL once the take is complete (R149). -/
def storeFullAct (full : Bool) (s : State) : State :=
  if full ∧ s.call.state = .connected ∧ s.call.callMode = some .unattended then enterClearing .storeFull s else s

/-- The take of one character at every sink of its row but LINE-OUT, in the order STORE, PRINTER, PUNCH, LINK (R67); its
STORE-FULL, if any, is handed back. -/
def takeAt (src : Source) (row : Row) (c : StationCode) (s : State) : State × Bool :=
  let d := deliverStore src row c s
  (touchStandby (deliverLink src row c (deliverPunch src row c d.stored (deliverPrinter row c d.stored d.state))), d.full)

/-- The take of one character of a source under the set in force (R66, R67). -/
def routerTake (src : Source) (c : StationCode) (s : State) : State :=
  let r := takeAt src (s.row src) c s
  storeFullAct r.2 r.1

/-! ### Holding sources (R68) -/

/-- The head of the keyboard buffer leaves it. -/
def dropKey (s : State) : State := { s with kb := { s.kb with buffer := s.kb.buffer.tail } }

/-- The head of the link-text holding leaves it. -/
def dropLinkText (s : State) : State := { s with router := { s.router with linkText := s.router.linkText.tail } }

/-- HOLDING_SOURCE_TAKE, for a row without LINE-OUT (R67, R68). -/
def execHoldingSourceTake (source : HoldingSource) (s : State) : Host.Outcome State Fault Refusal :=
  match source with
  | .keyboard =>
    match s.kb.buffer with
    | c :: _ =>
      if (s.row .keyboard).lineOut = false ∧ s.sinksReady .keyboard ∧ s.call.state ≠ .standby then
        .next (routerTake .keyboard c (dropKey s))
      else .next s
    | [] => .next s
  | .linkText =>
    match s.router.linkText with
    | c :: _ =>
      if (s.row .linkText).lineOut = false ∧ s.sinksReady .linkText ∧ s.call.state ≠ .standby then
        .next (routerTake .linkText c (dropLinkText s))
      else .next s
    | [] => .next s

end Sys2Proof.Machine
end

