-- ==== Sys2Proof/Machine/Agreement.lean ====
section
/-! DEFINITION. The answerback's triggers (R12, R45, R46), the connect and the entry to CONNECTED (R146, R147), rate agreement
(R54 to R60) and the meanings of its two timers. -/

namespace Sys2Proof.Machine

/-! ### The answerback duty (R12, R45, R46) -/

/-- The characters that a duty gives (R12). -/
def Converter.answerbackText (cv : Converter) : List StationCode :=
  [Config.cr, Config.lf] ++ cv.answerback ++ [Config.cr, Config.lf]

/-- The router takes characters of an IDLE duty one after another (R46, R71). -/
def takeAnswerback : List StationCode → State → State
  | [], s => s
  | c :: rest, s => takeAnswerback rest (routerTake .answerback c s)

/-- A duty begins to be wanted. -/
def Transmitter.wantDuty (t : Transmitter) : Transmitter := { t with duty := .pending, given := 0, counted := 0, passed := [] }

/-- The call states in which a trigger acts (R45). -/
def CallState.takesTrigger : CallState → Bool
  | .idle => true
  | .agreeing => true
  | .connected => true
  | _ => false

/-- An answerback trigger (R45); in IDLE the duty runs to its end within it (R46; log 20). -/
def triggerAnswerback (s : State) : State :=
  if s.tx.duty ≠ .none ∨ s.call.state.takesTrigger = false then s
  else if s.conv.answerback.isEmpty then raise .noAnswerback s
  else
    let s1 := { s with tx := s.tx.wantDuty }
    if s.call.state = .idle then
      let s2 := takeAnswerback s.conv.answerbackText { s1 with tx := { s1.tx with duty := .sending } }
      { s2 with tx := s2.tx.cancelDuty }
    else s1

/-! ### Connect and CONNECTED (R31, R146, R147) -/

/-- Q, N, A and s are reset together (R31). -/
def Receiver.resetFigures (r : Receiver) : Receiver :=
  { r with q := 0, n := 0, a := 0, s := if r.orientation then 0 else r.s0 }

/-- The line receiver at a connect (R146). -/
def Receiver.connect (r : Receiver) : Receiver :=
  { r.resetFigures with
    rate := .r50, sense := r.cfgSense, goodSeen := false, inversionMade := false, spaceCount := 0, lossCount := 0
    breakReady := true, clearReady := true }

/-- The rate agreement unit starts afresh (R54). -/
def Agreement.start (a : Agreement) : Agreement :=
  { Agreement.reset with
    active := true, localTop := a.cfgMax.lower a.ceiling, localQuality := decide (a.ceiling = a.cfgMax)
    ceiling := a.ceiling, cfgMax := a.cfgMax }

/-- The connect of a call: entry to AGREEING (R146). -/
def connect (s : State) : State :=
  { s with
    conv := { s.conv with rxPlane := .letters, txPlane := .unknown, m := 0 }
    rx := s.rx.connect
    tx := { s.tx with rate := .r50 }
    agr := s.agr.start
    call := { s.call with
      state := .agreeing, loopTimer := none, rate := none, outcome := none, partnerQuality := none, reached := false
      play := { s.call.play with state := .idle } } }

/-- Entry to CONNECTED with an outcome (R147). -/
def callConnected (rate : Rate) (outcome : AgreeOutcome) (quality : Option Bool) (s : State) : State :=
  let s1 := raise (.callConnected rate outcome quality)
    { s with
      agr := { s.agr with active := false }
      call := { s.call with
        state := .connected, rate := some rate, outcome := some outcome, partnerQuality := quality, reached := true
        idleTimer := timerOf s.call.idleClear } }
  if s1.tx.answerbackOnConnect then triggerAnswerback s1 else s1

/-! ### Offers (R54, R55, R57) -/

/-- M1 of the local mask: unit i is mark when the rate of index i is offered (R55). -/
def Agreement.m1 (a : Agreement) : RawCode := BitVec.ofNat 5 (2 ^ a.localTop.index - 1)

/-- M2: ACK and QUALITY-OK (R55). -/
def Agreement.m2 (a : Agreement) : RawCode := BitVec.ofNat 5 (bit a.partnerMask.isSome + 2 * bit a.localQuality)

/-- The unit has an offer code to send (R55). -/
def Agreement.offers (a : Agreement) : Bool := a.active && decide (a.formed < 2)

/-- The next code of the current offer as a slot entry, and the unit after giving it (R55). -/
def Agreement.give (a : Agreement) : Slot × Agreement :=
  match a.nextCode with
  | 0 => (⟨0, .offer, .offerCode 0 false, 0, 0⟩, { a with nextCode := 1 })
  | 1 => (⟨0, .offer, .offerCode 1 false, 0, 0⟩, { a with nextCode := 2 })
  | 2 => (⟨a.m1, .offer, .offerCode 2 false, 0, 0⟩, { a with nextCode := 3 })
  | _ => (⟨a.m2, .offer, .offerCode 3 a.partnerMask.isSome, 0, 0⟩,
      { a with nextCode := 0, formed := a.formed + bit a.partnerMask.isSome })

/-- The agreed rate: the highest rate in both masks; 50 units/s is in both (R57). -/
def Agreement.agreedRate (a : Agreement) : Rate :=
  match a.partnerMask with
  | none => .r50
  | some m =>
    ((([5, 4, 3, 2, 1].find? fun i => decide (i ≤ a.localTop.index) && m.getLsbD (i - 1)).bind Rate.ofIndex?).getD .r50)

/-! ### Switches and endings (R58 to R60) -/

/-- Agreement ends AGREED when both switches have been made (R59). -/
def endIfSwitched (s : State) : State :=
  if s.agr.txSwitched ∧ s.agr.rxSwitched then callConnected s.agr.agreedRate .agreed s.agr.partnerQuality s else s

/-- The switches that are now called for are made; with both made agreement ends (R58, R59). -/
def makeSwitches (s : State) : State :=
  let txNow := !s.agr.txSwitched && decide (2 ≤ s.agr.sent) && decide (1 ≤ s.agr.rcvd)
  let rxNow := !s.agr.rxSwitched && decide (2 ≤ s.agr.rcvd)
  endIfSwitched
    { s with
      tx := { s.tx with rate := if txNow then s.agr.agreedRate else s.tx.rate }
      rx := if rxNow then { s.rx.resetFigures with rate := s.agr.agreedRate } else s.rx
      agr := { s.agr with txSwitched := s.agr.txSwitched || txNow, rxSwitched := s.agr.rxSwitched || rxNow } }

/-- A fallback: the call proceeds at 50 units/s; FAULT sets its latch and raises its report, before the CALL-CONNECTED of the
entry to CONNECTED (R60; the order of the two reports: log 48). -/
def fallBack (outcome : AgreeOutcome) (s : State) : State :=
  let s1 := { s with tx := { s.tx with rate := .r50 } }
  callConnected .r50 outcome none
    (if outcome = .fault then
      raise .agreementFault { s1 with latches := { s1.latches with agreementFault := true } }
    else s1)

/-! ### The offer parser (R56, R57) -/

/-- An inconsistent offer, or a misfit counted as one (R57). -/
def Agreement.inconsistent (a : Agreement) : Agreement :=
  { a with parser := .first, keptM1 := if a.partnerMask.isSome then a.keptM1 else none }

/-- A complete partner offer is judged (R57). -/
def Agreement.judge (m1 m2 : RawCode) (a0 : Agreement) : Agreement :=
  let a := { a0 with parser := .first, offerSeen := true }
  if m2.getLsbD 2 || m2.getLsbD 3 || m2.getLsbD 4 then a.inconsistent
  else
    let a1 := { a with partnerQuality := some (m2.getLsbD 1) }
    match a1.partnerMask with
    | some m => if m = m1 then { a1 with rcvd := a1.rcvd + bit (m2.getLsbD 0) } else a1
    | none =>
      if a1.keptM1 = some m1 then { a1 with partnerMask := some m1, rcvd := a1.rcvd + bit (m2.getLsbD 0) }
      else { a1 with keptM1 := some m1 }

/-- A misfit: a plain machine before any complete offer, else an inconsistent offer (R56). The flag tells that the character
is passed on to the code converter. -/
def misfit (s : State) : State × Bool :=
  if s.agr.offerSeen then ({ s with agr := s.agr.inconsistent }, false) else (fallBack .plain s, true)

/-- The parser takes a character delivered in AGREEING; none is a framing error (R56). -/
def agreementTake (r : Option RawCode) (s : State) : State × Bool :=
  match r, s.agr.parser with
  | none, _ => misfit s
  | some r, .first => if r = 0 then ({ s with agr := { s.agr with parser := .second } }, false) else misfit s
  | some r, .second => if r = 0 then ({ s with agr := { s.agr with parser := .m1 } }, false) else misfit s
  | some r, .m1 => ({ s with agr := { s.agr with parser := .m2 r } }, false)
  | some r, .m2 m1 => (makeSwitches { s with agr := s.agr.judge m1 r }, false)

/-! ### The timers (R60) -/

/-- AGREEMENT_TIMER_3S (R60). -/
def execAgreementTimer3s (s : State) : Host.Outcome State Fault Refusal :=
  if s.call.state = .agreeing ∧ s.agr.offerSeen = false ∧ s.agr.timer < Config.agreementShortTicks then
    .next (fallBack .plain { s with agr := { s.agr with timer := Config.agreementShortTicks } })
  else .next s

/-- AGREEMENT_TIMER_7S (R60). With no complete partner offer the row is read by its letter, "No switch made", though the timer
of 192 ticks then ends agreement first (log 49). -/
def execAgreementTimer7s (s : State) : Host.Outcome State Fault Refusal :=
  if s.call.state = .agreeing ∧ s.agr.rxSwitched = false then
    .next (fallBack .fault { s with agr := { s.agr with timer := Config.agreementLongTicks } })
  else .next s

end Sys2Proof.Machine
end

