-- ==== Sys2Proof/Machine/Transmitter.lean ====
section
/-! DEFINITION. The line transmitter: the slots, the sent point, the arbiter, the ends of the long signals (R40 to R51), and
the meanings of its events. -/

namespace Sys2Proof.Machine

/-! ### The signal on TXD (R39) -/

/-- Cycles of the fast oscillator in one sample at a rate, in transmission and in reception (R16, R39). -/
def sampleCycles : Rate → Nat
  | .r50 => 2304
  | .r75 => 1536
  | .r100 => 1152
  | .r150 => 768
  | .r200 => 576
  | .r300 => 384

/-- The samples of the stop element (R39). -/
def StopLength.samples : StopLength → Nat
  | .one => 32
  | .oneAndHalf => 48
  | .two => 64

/-- Samples from the beginning of the start unit to the sent point (R39, R41). -/
def sentSample : Nat := 192

/-- The samples of a whole character (R39). -/
def Front.samples (f : Front) : Nat := sentSample + f.stop.samples

/-- The level of a character at a sample counted from the beginning of its start unit: a start unit of space, unit k from bit
k − 1 with mark for 1, a stop element of mark (R39). -/
def Front.level (f : Front) (n : Nat) : Level :=
  match n / 32 with
  | 0 => .space
  | k + 1 => if k < 5 then (if f.slot.code.getLsbD k then .mark else .space) else .mark

/-- The sample that a character has come to. -/
def Front.sample (f : Front) : Nat := f.cycles / sampleCycles f.rate

/-- The last cycle that a character comes to by itself: short of the sent point, then short of its end, which are events. -/
def Front.lastCycle (f : Front) : Nat := (if f.sent then f.samples else sentSample) * sampleCycles f.rate - 1

/-- The cycle at which the next unit of a character begins (R39). -/
def Front.nextUnit (f : Front) : Nat := (f.cycles / (32 * sampleCycles f.rate) + 1) * (32 * sampleCycles f.rate)

/-- A tick's cycles pass in the character being sent, to the beginning of the next unit at the latest, and TXD stands at the level
of the unit it has come to (R39; log 21). -/
def Transmitter.advance (t : Transmitter) : Transmitter :=
  match t.front with
  | none => t
  | some f =>
    let g := { f with cycles := min f.lastCycle (min f.nextUnit (f.cycles + Config.tickCycles)) }
    { t with front := some g, txd := g.level g.sample }

/-! ### Slots (R39, R40, R42) -/

/-- NEXT moves to an empty FRONT and its start unit begins (R40). -/
def Transmitter.moveUp (t : Transmitter) : Transmitter :=
  match t.front, t.next with
  | none, some x => { t with front := some ⟨x, false, t.rate, t.stopLength, 0⟩, next := none, txd := .space }
  | _, _ => t

/-- The slots settle: NEXT moves up, and the held raw code enters NEXT once it is empty (R40, R42). -/
def settleSlots (s : State) : State :=
  let t := s.tx.moveUp
  match t.next, s.conv.held with
  | none, some x => { s with tx := { t with next := some x }.moveUp, conv := { s.conv with held := none } }
  | _, _ => { s with tx := t }

/-- An entry enters NEXT. -/
def enterNext (x : Slot) (s : State) : State := settleSlots { s with tx := { s.tx with next := some x } }

/-- The transmitter is open to the arbiter (R43). -/
def State.txOpen (s : State) : Bool :=
  (decide (s.call.state = .agreeing) || decide (s.call.state = .connected)) && decide (s.tx.signal = .none)

/-! ### Playback (R50, R156) -/

/-- A RUNNING playback with no character at hand reads at its read position (R50, R176; log 35). -/
def playbackAsk (s : State) : State :=
  let p := s.call.play
  if p.state = .running ∧ p.buf = [] ∧ s.store.playRead = none ∧ p.readPos < s.store.lengthOf p.number then
    let r := s.store.ask s.mem .playback p.number p.readPos
    { s with store := r.1, call := { s.call with play := { p with buf := r.2 } } }
  else s

/-- The count past the consecutive members of a list; the fuel bounds them. -/
def passOver (skipped : List Nat) : Nat → Nat → Nat
  | 0, v => v
  | fuel + 1, v => if skipped.contains v then passOver skipped fuel (v + 1) else v

/-- The sent cursor of the playback becomes `v`, and passes the unsendable characters that stand there; at the length the
playback is DONE (R50, R156). -/
def advanceSent (v : Nat) (s : State) : State :=
  let p := s.call.play
  let w := passOver p.skipped p.skipped.length v
  let s1 := { s with
    store := s.store.setSent p.number w
    call := { s.call with play := { p with skipped := p.skipped.filter fun x => decide (w ≤ x) } } }
  if s.store.lengthOf p.number ≤ w then
    autoReleaseTest p.number
      (raise (.playbackDone p.number .done w) { s1 with call := { s1.call with play := { s1.call.play with state := .done } } })
  else s1

/-- An unsendable playback character: the cursor passes it once it has reached it (R50). -/
def skipPlayback (pos : Nat) (s : State) : State :=
  let p := s.call.play
  if s.sentCursor = pos then advanceSent (pos + 1) s
  else { s with call := { s.call with play := { p with skipped := p.skipped ++ [pos] } } }

/-! ### Answerback counts (R46) -/

/-- The count t becomes `v`, passes the unsendable characters that stand there, and ends the duty at n + 4 (R46). -/
def countAnswerback (v : Nat) (s : State) : State :=
  let w := passOver s.tx.passed s.tx.passed.length v
  if s.conv.answerbackText.length ≤ w then { s with tx := s.tx.cancelDuty } else { s with tx := { s.tx with counted := w } }

/-- An unsendable answerback character (R46). -/
def skipAnswerback (index : Nat) (s : State) : State :=
  if s.tx.counted = index then countAnswerback (index + 1) s
  else { s with tx := { s.tx with passed := s.tx.passed ++ [index] } }

/-! ### The sent point (R41) -/

/-- The notice of a sent point to the entry's source (R41). -/
def sentNotice (x : Slot) (s : State) : State :=
  match x.source, x.kind with
  | .offer, .offerCode 3 true =>
    if s.agr.active then makeSwitches { s with agr := { s.agr with sent := s.agr.sent + 1 } } else s
  | .answerback, .char => if s.tx.duty = .none then s else countAnswerback (s.tx.counted + 1) s
  | .playback, .char =>
    if s.call.play.state = .running ∧ s.call.play.run = x.run then advanceSent (x.index + 1) s else s
  | _, _ => s

/-- SENT_POINT: the stop element begins (R39, R41). -/
def execSentPoint (s : State) : Host.Outcome State Fault Refusal :=
  match s.tx.front with
  | some f =>
    if f.sent then .next s
    else .next (sentNotice f.slot
      (touchIdleClear { s with tx := { s.tx with
        front := some { f with sent := true, cycles := sentSample * sampleCycles f.rate }, txd := .mark } }))
  | none => .next s

/-- FRONT_STOP_END (R40). -/
def execFrontStopEnd (s : State) : Host.Outcome State Fault Refusal :=
  match s.tx.front with
  | some f => if f.sent then .next (settleSlots { s with tx := { s.tx with front := none } }) else .next s
  | none => .next s

/-! ### The arbiter (R42, R71, R77) -/

/-- A character wins NEXT: it is encoded under the transmit plane, and a shift code goes first with the raw code held; an
unsendable character is accepted and nothing enters (R8, R9, R42). -/
def lineOut (src : SlotSource) (index run : Nat) (c : StationCode) (s : State) : State × Bool :=
  match s.conv.encode s.conv.txPlane c with
  | none => (raise (.unsendable c) s, false)
  | some e =>
    let x : Slot := ⟨e.code, src, .char, index, run⟩
    let cv := { s.conv with txPlane := e.plane }
    match e.shift with
    | none => (enterNext x { s with conv := cv }, true)
    | some r => (enterNext ⟨r, src, .shift, index, run⟩ { s with conv := { cv with held := some x } }, true)

/-- A source's character is taken as it wins NEXT: the other sinks of its row first, then LINE-OUT, then what STORE-FULL
calls for (R67, R71, R77, R149). `unsent` is what an unsendable character does at its source, which follows its UNSENDABLE
report: PLAYBACK-DONE at the last character of a playback comes second (log 70). The flag tells that the winner was unsendable,
so that the arbiter chooses again (R42). -/
def winTake (src : Source) (slot : SlotSource) (index run : Nat) (c : StationCode) (unsent : State → State) (s : State) :
    State × Bool :=
  let r := takeAt src (s.row src) c s
  let l := lineOut slot index run c r.1
  (storeFullAct r.2 (if l.2 then l.1 else unsent l.1), !l.2)

/-- Rank 1: an offer code (R55). -/
def fillOffer (s : State) : State :=
  let g := s.agr.give
  enterNext g.1 { s with agr := g.2 }

/-- Rank 2: a character of the answerback duty (R46). -/
def fillAnswerback (c : StationCode) (s : State) : State × Bool :=
  let g := s.tx.given
  winTake .answerback .answerback g 0 c (skipAnswerback g) { s with tx := { s.tx with duty := .sending, given := g + 1 } }

/-- Rank 3: the playback's character at its read position (R50). -/
def fillPlayback (c : StationCode) (rest : List StationCode) (s : State) : State × Bool :=
  let p := s.call.play
  let w := winTake .playback .playback p.readPos p.run c (skipPlayback p.readPos)
    { s with call := { s.call with play := { p with buf := rest, readPos := p.readPos + 1 } } }
  (playbackAsk w.1, w.2)

/-- The head of a holding source whose row holds LINE-OUT and whose other sinks can take it (R42). -/
def State.lineReady (s : State) (src : Source) : Bool := (s.row src).lineOut && s.sinksReady src

/-- Rank 5. -/
def fillLinkText (s : State) : State × Bool :=
  match s.router.linkText with
  | c :: _ => if s.lineReady .linkText then winTake .linkText .linkText 0 0 c id (dropLinkText s) else (s, false)
  | [] => (s, false)

/-- Ranks 4 and 5. -/
def fillHolding (s : State) : State × Bool :=
  match s.kb.buffer with
  | c :: _ => if s.lineReady .keyboard then winTake .keyboard .keyboard 0 0 c id (dropKey s) else fillLinkText s
  | [] => fillLinkText s

/-- Ranks 3 to 5. -/
def fillWaiting (s : State) : State × Bool :=
  match s.call.play.buf with
  | c :: rest => if s.call.play.state = .running then fillPlayback c rest s else fillHolding s
  | [] => fillHolding s

/-- Ranks 2 to 5 (R42). -/
def fillText (s : State) : State × Bool :=
  match s.conv.answerbackText[s.tx.given]? with
  | some c => if s.tx.duty = .none then fillWaiting s else fillAnswerback c s
  | none => fillWaiting s

/-- One choice of the arbiter, and whether its winner was unsendable (R42). -/
def chooseNext (s : State) : State × Bool :=
  if s.tx.next.isSome ∨ s.txOpen = false then (s, false)
  else if s.conv.held.isSome then (settleSlots s, false)
  else if s.call.state = .agreeing then (if s.agr.offers then fillOffer s else s, false)
  else fillText s

/-- The arbiter chooses, and at once again after an unsendable winner; the fuel bounds the choices (R42). -/
def refill : Nat → State → State
  | 0, s => s
  | fuel + 1, s =>
    let r := chooseNext s
    if r.2 then refill fuel r.1 else r.1

/-- The choices of one fill: no more characters than these stand at hand in the sources (R12, R50, R69, R89). -/
def fillLimit : Nat := 256

/-- ARBITER_FILL (R42). -/
def execArbiterFill (s : State) : Host.Outcome State Fault Refusal := .next (refill fillLimit s)

/-! ### The ends of the long signals (R48, R51, R154) -/

/-- The break signal ends (R48). -/
def endBreak (s : State) : State := { s with tx := { s.tx with signal := .none, txd := .mark } }

/-- BREAK_SIGNAL_END (R48). -/
def execBreakSignalEnd (s : State) : Host.Outcome State Fault Refusal :=
  match s.tx.signal with
  | .brk _ => .next (endBreak s)
  | _ => .next s

/-- CLEAR_SIGNAL_COMPLETE (R51, R154). -/
def execClearSignalComplete (s : State) : Host.Outcome State Fault Refusal :=
  match s.tx.signal with
  | .clr _ => if s.call.state = .clearing then .next (callEnd s) else .next s
  | _ => .next s

/-- CLEARING_LOSS_COUNT: at a tick that reads loop current absent (R17, R154; log 65). -/
def execClearingLossCount (s : State) : Host.Outcome State Fault Refusal :=
  match s.tx.signal with
  | .clr _ => if s.call.state = .clearing then .next (callEnd (readLoop false s)) else .next s
  | _ => .next s

end Sys2Proof.Machine
end

