-- ==== Sys2Proof/Machine/Call.lean ====
section
/-! DEFINITION. The call controller: rings, answering, the loop, standby and wake, and the meanings of its events (08). -/

namespace Sys2Proof.Machine

/-! ### Rings (R141 to R144) -/

/-- The return to IDLE from RING-CHECK: the ring count is 0 and the standby-after timer set (R142, R157). -/
def ringToIdle (s : State) : State :=
  { s with call := { s.call with
      state := .idle, ringCount := 0, attendedWait := false, answerWait := none, callMode := none
      standbyTimer := timerOf s.call.standbyAfter } }

/-- A ring is refused, with its reason (R142, R143). -/
def refuseRing (reason : RingReason) (s : State) : State := raise (.ringRefused reason) (ringToIdle s)

/-- RING starts a ring check: the call mode is fixed (R138, R141). -/
def startRingCheck (s : State) : State :=
  { s with call := { s.call with state := .ringCheck, ringCount := 1, callMode := some s.call.mode, standbyTimer := none } }

/-- Entry to STARTING: the printer is asked to start (R144). -/
def enterStarting (s : State) : State :=
  requestStart { s with call := { s.call with state := .starting, attendedWait := false, answerWait := none } }

/-- The attended wait begins (R143). -/
def startAttendedWait (s : State) : State :=
  raise .ring { s with call := { s.call with attendedWait := true, answerWait := some Config.answerWaitTicks } }

/-- The ring has qualified (R142). -/
def qualifyRing (s : State) : State :=
  let s1 := { s with call := { s.call with ringCount := Config.ringTicks, lockout := true, quiet := 0 } }
  if s1.call.configured = false then refuseRing .notConfigured s1
  else if s1.store.check = false then refuseRing .storeFull s1
  else if s1.call.callMode = some .unattended then enterStarting s1
  else startAttendedWait s1

/-- The lockout clears; an attended wait ends unanswered (R141, R143). -/
def clearLockout (s : State) : State :=
  let s1 := { s with call := { s.call with lockout := false, quiet := 0 } }
  if s1.call.attendedWait then refuseRing .notAnswered s1 else s1

/-- A wake begins (R158, R159). -/
def beginWake (s : State) : State := { s with call := { s.call with waking := true } }

/-- RING is first read asserted in STANDBY or a wake: the ring count is 1 and the call mode fixed (R138, R159). -/
def firstRing (s : State) : State := { s with call := { s.call with ringCount := 1, callMode := some s.call.mode } }

/-- The reading of RING at one tick (R141, R142, R159); a ring that is lost within a wake gives up the call mode (log 37). -/
def ringTick (asserted : Bool) (s : State) : State :=
  if s.call.lockout then
    if asserted then { s with call := { s.call with quiet := 0 } }
    else if s.call.quiet + 1 < Config.lockoutTicks then { s with call := { s.call with quiet := s.call.quiet + 1 } }
    else clearLockout s
  else
    match s.call.state, asserted with
    | .idle, true => startRingCheck s
    | .standby, true =>
      if s.call.waking ∧ 1 ≤ s.call.ringCount then
        { s with call := { s.call with ringCount := min 15 (s.call.ringCount + 1) } }
      else beginWake (firstRing s)
    | .standby, false => { s with call := { s.call with ringCount := 0, callMode := none } }
    | .ringCheck, true =>
      if s.call.ringCount + 1 < Config.ringTicks then
        { s with call := { s.call with ringCount := s.call.ringCount + 1 } }
      else qualifyRing s
    | .ringCheck, false => ringToIdle s
    | _, _ => s

/-- RING_ASSERTED (R141, R142). -/
def execRingAsserted (s : State) : Host.Outcome State Fault Refusal :=
  .next (ringTick true { s with pins := { s.pins with ring := true } })

/-- RING_ABSENT (R141, R142). -/
def execRingAbsent (s : State) : Host.Outcome State Fault Refusal :=
  .next (ringTick false { s with pins := { s.pins with ring := false } })

/-- RING_QUALIFIED (R142). -/
def execRingQualified (s : State) : Host.Outcome State Fault Refusal :=
  if s.call.state = .ringCheck ∧ s.call.attendedWait = false ∧ s.call.lockout = false then .next (qualifyRing s) else .next s

/-- RING_LOCKOUT_CLEAR (R141, R143). -/
def execRingLockoutClear (s : State) : Host.Outcome State Fault Refusal :=
  if s.call.lockout then .next (clearLockout s) else .next s

/-- ANSWER_WAIT_EXPIRY (R143). -/
def execAnswerWaitExpiry (s : State) : Host.Outcome State Fault Refusal :=
  if s.call.attendedWait then .next (refuseRing .notAnswered s) else .next s

/-! ### The loop and the idle-clear timer (R145, R151) -/

/-- The call waits for loop current (R145). -/
def State.awaitsLoop (s : State) : Bool := decide (s.call.state = .answering) || decide (s.call.state = .originating)

/-- LOOP_CURRENT_PRESENT (R145); it tells of LOOPSENSE only while a call waits for loop current (log 65). -/
def execLoopCurrentPresent (s : State) : Host.Outcome State Fault Refusal :=
  if s.awaitsLoop then
    .next (connect (readLoop true s))
  else .next s

/-- LOOP_TIMER_EXPIRY (R145): the reading of LOOPSENSE at that tick, which may come after it, is no part of it. -/
def execLoopTimerExpiry (s : State) : Host.Outcome State Fault Refusal :=
  if s.awaitsLoop then .next (enterClearing .noLoop s) else .next s

/-- IDLE_CLEAR_EXPIRY (R151). -/
def execIdleClearExpiry (s : State) : Host.Outcome State Fault Refusal :=
  if s.call.state = .connected ∧ s.call.idleTimer.isSome then .next (enterClearing .idleTimeout s) else .next s

/-! ### Standby (R157, R158) -/

/-- Whether the link receiver is in a frame. -/
def LinkRx.receiving : LinkRx → Bool
  | .inFrame _ => true
  | _ => false

/-- The link's part of the standby conditions: nothing queued, held or being received (R157; log 28). -/
def Link.quiet (l : Link) : Bool := l.reports.isEmpty && l.replies.isEmpty && l.holding.isEmpty && !l.rx.receiving

/-- The store's part of the standby conditions (R157, R168). -/
def Store.quiet (st : Store) : Bool :=
  st.allWritten && st.playRead.isNone && st.printRead.isNone && st.punchRead.isNone && st.hostRead.isNone && !st.memInit

/-- The punch is OFF or in TAPE-LOW-HOLD, and so has no cycle in progress that would run in STANDBY (R120, R137; log 28). -/
def Punch.rests (p : Punch) : Bool := decide (p.state = .off) || decide (p.state = .tapeLowHold)

/-- The standby conditions (R157); a code held in TAPE-LOW-HOLD is none of them (log 28). -/
def State.standbyOk (s : State) : Bool :=
  decide (s.call.state = .idle) && decide (s.pr.state = .off) && s.pu.queue.isEmpty && s.pu.chain.isEmpty && s.pu.rests
    && s.kb.buffer.isEmpty && s.router.linkText.isEmpty && decide (s.tx.duty = .none) && s.link.quiet && s.store.quiet
    && !s.pins.wake

/-- The REPT hold ends (R90). -/
def Keyboard.endHold (k : Keyboard) : Keyboard := { k with hold := .absent, count := 0, target := none, timer := none }

/-- Every key's state is forgotten and the list emptied (R85, R95). -/
def Keyboard.forget (k : Keyboard) : Keyboard :=
  { k.endHold with keys := Vector.replicate 64 .up, agree := Vector.replicate 64 0, pos := 0, list := [], heldFull := [] }

/-- Scanning starts afresh at D0: the first full scan is still to come (R85). -/
def Keyboard.startAfresh (k : Keyboard) : Keyboard := { k.forget with fresh := true, running := true }

/-- The store at entry to STANDBY: the access in progress ended, every bank CLOSED, self-refresh, debt 0 (R165; log 40). -/
def Store.toSelfRefresh (st : Store) : Store :=
  { st with access := none, banks := Vector.replicate 4 .closed, selfRefresh := true, debt := 0 }

/-- Entry to STANDBY (R158): the levels noted are those of the sense lines with every drive line driven (R95). -/
def enterStandby (s : State) : State :=
  { s with
    store := s.store.toSelfRefresh
    kb := { s.kb.forget with running := false, fresh := false, noted := s.pins.sense }
    link := { s.link with rx := .stopped }
    call := { s.call with state := .standby, standbyTimer := none, waking := false } }

/-- The standby-after timer expires: STANDBY, or the timer set afresh (R157). -/
def standbyExpiry (s : State) : State := if s.standbyOk then enterStandby s else touchStandby s

/-- STANDBY_AFTER_EXPIRY (R157). -/
def execStandbyAfterExpiry (s : State) : Host.Outcome State Fault Refusal :=
  if s.call.state = .idle ∧ s.call.standbyTimer.isSome then .next (standbyExpiry s) else .next s

/-! ### Wake (R158, R159) -/

/-- WAKE is read at a tick while it stands asserted: no command carries its release, and the reading is a free value (R157; log
61). -/
def wakeTick (s : State) : State :=
  if s.pins.wake then { useFree s with pins := { s.pins with wake := Config.freeReading s.freeCount } } else s

/-- A wake may begin: in STANDBY, with none running (R158, R159). -/
def State.mayWake (s : State) : Bool := decide (s.call.state = .standby) && !s.call.waking

/-- WAKE_EVENT (R95, R158): what begins a wake, where one may begin. Its WAKE input tells of the pin's assertion wherever it
comes: within a wake and out of STANDBY only the pin's level changes, which the standby conditions read (log 61). -/
def execWakeEvent (cause : WakeCause) (s : State) : Host.Outcome State Fault Refusal :=
  match cause with
  | .ring =>
    if s.mayWake ∧ s.call.lockout = false then
      .next (beginWake (firstRing { s with pins := { s.pins with ring := true } }))
    else .next s
  | .wakeInput =>
    let s1 := { s with pins := { s.pins with wake := true } }
    .next (if s.mayWake then beginWake s1 else s1)
  | .keyboard sense =>
    if s.mayWake ∧ sense ≠ s.kb.noted then .next (beginWake { s with pins := { s.pins with sense := sense } }) else .next s

/-- WAKE_COMPLETE (R159, R165): the refresh timer and the grants start here, not before (log 67). -/
def execWakeComplete (s : State) : Host.Outcome State Fault Refusal :=
  if s.call.state = .standby ∧ s.call.waking then
    let s1 := { s with
      store := { s.store with selfRefresh := false, debt := 0, banks := Vector.replicate 4 .closed }
      kb := s.kb.startAfresh
      rx := { s.rx with level := .mark }
      link := { s.link with rx := .hunt } }
    if 1 ≤ s.call.ringCount then
      .next { s1 with call := { s.call with
        state := .ringCheck, waking := false, standbyTimer := none } }
    else
      .next { s1 with call := { s.call with
        state := .idle, waking := false, standbyTimer := timerOf s.call.standbyAfter } }
  else .next s

end Sys2Proof.Machine
end

