-- ==== Sys2Proof/Machine/Keyboard.lean ====
section
/-! DEFINITION. The keyboard unit: recognition, holds, the repeat, and the meanings of its events (05). -/

namespace Sys2Proof.Machine

/-! ### The scan (R80, R81) -/

/-- The drive lines: the one of the key that is read next, or all of them in STANDBY (R80, R95). -/
def Keyboard.driveLines (k : Keyboard) : BitVec 8 := if k.running then BitVec.ofNat 8 (2 ^ (k.pos / 8)) else BitVec.allOnes 8

/-- The scan passes key `i` on its way from the key it reads next to `key`. -/
def Keyboard.passes (k : Keyboard) (key i : Nat) : Bool :=
  if k.pos ≤ key then decide (k.pos ≤ i) && decide (i < key) else decide (k.pos ≤ i) || decide (i < key)

/-- The sense lines with every drive line driven: each answers for the keys on it that read down (R95). -/
def senseLines (keys : Vector Bool 64) : BitVec 8 :=
  BitVec.ofNat 8 ((List.range 8).map fun t =>
    if (List.range 8).any fun d => (keys[8 * d + t]?).getD false then 2 ^ t else 0).sum

/-! ### The matrix (R81 to R83) -/

/-- The state of a key. -/
def Keyboard.stateOf (k : Keyboard) (key : Nat) : KeyState := (k.keys[key]?).getD .up

/-- A key changes state (R82). -/
def Keyboard.setState (key : Nat) (st : KeyState) (k : Keyboard) : Keyboard :=
  { k with keys := k.keys.setIfInBounds key st }

/-- The agreement count of a key becomes `n` (R81). -/
def Keyboard.setAgree (key n : Nat) (k : Keyboard) : Keyboard := { k with agree := k.agree.setIfInBounds key n }

/-- A key counts as down in the matrix (R81). -/
def Keyboard.isDown (k : Keyboard) (key : Nat) : Bool := decide (k.stateOf key ≠ .up)

/-- The agreement count of a key (R81). -/
def Keyboard.agreeOf (k : Keyboard) (key : Nat) : Nat := (k.agree[key]?).getD 0

/-- The scan goes on to a key and reads it: the keys it passes read their stable levels (R80, R81; log 22). -/
def scanTo (key : Nat) (down : Bool) (s : State) : State :=
  let keys := perKey fun i =>
    if i = key then down else if s.kb.passes key i then s.kb.isDown i else (s.pins.keys[i]?).getD false
  { s with
    kb := { s.kb with pos := (key + 1) % 64, agree := perKey fun i => if s.kb.passes key i then 0 else s.kb.agreeOf i }
    pins := { s.pins with keys := keys, sense := senseLines keys } }

/-- A key stands in a rectangle (R83). -/
def Keyboard.inRectangle (k : Keyboard) (key : Nat) : Bool :=
  (List.range 8).any fun d => decide (d ≠ key / 8) && k.isDown (8 * d + key % 8) &&
    (List.range 8).any fun t => decide (t ≠ key % 8) && k.isDown (8 * (key / 8) + t) && k.isDown (8 * d + t)

/-- Some key of the list is recorded with a kind. -/
def Keyboard.lists (k : Keyboard) (kind : KeyKind) : Bool := k.list.any fun d => decide (d.kind = kind)

/-! ### The buffer and the repeat (R88 to R91) -/

/-- A code is offered to the keyboard buffer: it joins, or is refused with a bell and KEY-REFUSED (R88, R91, R94). -/
def offerKey (key : Nat) (code : StationCode) (isRepeat : Bool) (s : State) : State :=
  if s.kb.buffer.length < Config.keyBufferCapacity then { s with kb := { s.kb with buffer := s.kb.buffer ++ [code] } }
  else raise (.keyRefused key code isRepeat) (ringBell s)

/-- The target of a hold that begins: the CHAR key of the list recognised last (R90). -/
def Keyboard.lastChar? (k : Keyboard) : Option (Nat × StationCode) :=
  (k.list.reverse.find? fun d => d.code.isSome).bind fun d => d.code.map fun c => (d.key, c)

/-- A REPT hold begins (R90). -/
def Keyboard.beginHold (k : Keyboard) : Keyboard :=
  { k with hold := .active, count := 0, target := k.lastChar?, timer := k.lastChar?.map fun _ => 500 }

/-- A CHAR key recognised while the hold is ACTIVE becomes the target (R90). -/
def Keyboard.retarget (key : Nat) (code : StationCode) (k : Keyboard) : Keyboard :=
  if k.hold = .active then { k with target := some (key, code), timer := some 500 } else k

/-! ### Recognition (R87, R88, R92, R93) -/

/-- A key joins the list and is RECOGNISED (R82, R87). -/
def Keyboard.joinList (key : Nat) (kind : KeyKind) (code : Option StationCode) (k : Keyboard) : Keyboard :=
  { k.setState key .recognised with list := k.list ++ [⟨key, kind, code⟩] }

/-- The code a CHAR key produces (R88). -/
def Keyboard.charCode (k : Keyboard) (unshifted shifted : StationCode) : StationCode :=
  if k.lists .shift then shifted else unshifted

/-- A BREAK key (R92). -/
def breakKey (s : State) : State :=
  if s.call.state = .connected ∧ s.tx.signal = .none then sendBreak s else s

/-- A key is recognised and acts by its keymap entry (R87). -/
def recognise (key : Nat) (s : State) : State :=
  match (s.kb.keymap[key]?).getD .none with
  | .char u f =>
    let c := s.kb.charCode u f
    offerKey key c false { s with kb := (s.kb.joinList key .char (some c)).retarget key c }
  | .shift => { s with kb := s.kb.joinList key .shift none }
  | .rept =>
    let k := s.kb.joinList key .rept none
    { s with kb := if s.kb.lists .rept then k else k.beginHold }
  | .brk => breakKey { s with kb := s.kb.joinList key .brk none }
  | .hereIs => triggerAnswerback { s with kb := s.kb.joinList key .hereIs none }
  | .localLine => raise (.localLine key) { s with kb := s.kb.joinList key .localLine none }
  | .none => { s with kb := s.kb.joinList key .none none }

/-! ### Releases and held keys (R82, R84) -/

/-- A key leaves the list; its part in the hold and as the target ends (R82, R90). -/
def Keyboard.leaveList (key : Nat) (k : Keyboard) : Keyboard :=
  let k1 := { k with list := k.list.filter fun d => d.key != key }
  let k2 := if k1.target.any (fun t => t.1 == key) then { k1 with target := none, timer := none } else k1
  if k.lists .rept && !k1.lists .rept then k2.endHold else k2

/-- The first HELD-GHOST key whose rectangles have ended. -/
def Keyboard.freeGhost? (k : Keyboard) : Option Nat :=
  (List.range 64).find? fun key => decide (k.stateOf key = .heldGhost) && !k.inRectangle key

/-- Ghost holds whose rectangles have ended are set back to UP (R84); the fuel bounds the keys. -/
def Keyboard.freeGhosts : Nat → Keyboard → Keyboard
  | 0, k => k
  | fuel + 1, k =>
    match k.freeGhost? with
    | none => k
    | some key => Keyboard.freeGhosts fuel ((k.setState key .up).setAgree key 0)

/-- Full holds are tested, the longest held first, while the list has room (R84); their levels and agreement counts stay. The
fuel bounds the keys. -/
def freeFulls : Nat → State → State
  | 0, s => s
  | fuel + 1, s =>
    match s.kb.heldFull with
    | [] => s
    | key :: rest =>
      if s.kb.list.length < Config.keyListCapacity then
        let s1 := { s with kb := { s.kb with heldFull := rest } }
        if s1.kb.inRectangle key then freeFulls fuel { s1 with kb := s1.kb.setState key .heldGhost }
        else freeFulls fuel (recognise key s1)
      else s

/-- The held keys are re-examined (R84). -/
def reexamine (s : State) : State := freeFulls 64 { s with kb := s.kb.freeGhosts 64 }

/-! ### The events -/

/-- Debounce runs: the scanner runs and its first full scan is over (R85, R95). -/
def Keyboard.scans (k : Keyboard) : Bool := k.running && !k.fresh

/-- A key's stable level becomes DOWN, its agreement count 0: held as a ghost, held for a full list, or recognised (R81, R82,
R157). -/
def pressKey (key : Nat) (s : State) : State :=
  let s1 := touchStandby { s with kb := s.kb.setAgree key 0 }
  if s1.kb.inRectangle key then { s1 with kb := s1.kb.setState key .heldGhost }
  else if Config.keyListCapacity ≤ s1.kb.list.length then
    { s1 with kb := { s1.kb.setState key .heldFull with heldFull := s1.kb.heldFull ++ [key] } }
  else recognise key s1

/-- A key's stable level becomes UP, its agreement count 0: it leaves the list and the held keys are re-examined (R81, R82, R84,
R157). -/
def releaseKey (key : Nat) (s : State) : State :=
  let s1 := touchStandby s
  let k := ((s1.kb.setState key .up).setAgree key 0).leaveList key
  reexamine { s1 with kb := { k with heldFull := k.heldFull.filter fun x => x != key } }

/-- One reading of a key: a matching one sets its agreement count to 0, a differing one raises it, and the third in a row changes
the stable level (R81). -/
def readKey (key : Nat) (down : Bool) (s : State) : State :=
  let s1 := scanTo key down s
  if s1.kb.isDown key = down then { s1 with kb := s1.kb.setAgree key 0 }
  else if s1.kb.agreeOf key + 1 < Config.agreeLimit then { s1 with kb := s1.kb.setAgree key (s1.kb.agreeOf key + 1) }
  else if down then pressKey key s1 else releaseKey key s1

/-- Readings of one key in successive scans. -/
def readKeys (key : Nat) (down : Bool) : Nat → State → State
  | 0, s => s
  | n + 1, s => readKeys key down n (readKey key down s)

/-- KEY_DOWN (R81, R82). -/
def execKeyDown (keys : KeyReadings) (s : State) : Host.Outcome State Fault Refusal :=
  if s.kb.scans ∧ keys.key < 64 then .next (readKeys keys.key true keys.readings s) else .next s

/-- KEY_UP (R81, R82, R84). -/
def execKeyUp (keys : KeyReadings) (s : State) : Host.Outcome State Fault Refusal :=
  if s.kb.scans ∧ keys.key < 64 then .next (readKeys keys.key false keys.readings s) else .next s

/-- REPEAT_TIMER_EXPIRY (R91): it does not come without a target and an ACTIVE hold (log 1). -/
def execRepeatTimerExpiry (s : State) : Host.Outcome State Fault Refusal :=
  match s.kb.target, s.kb.timer with
  | some (key, code), some _ =>
    if s.kb.hold = .active then
      let s1 := offerKey key code true s
      if s1.kb.count + 1 < Config.repeatLimit then
        .next { s1 with kb := { s1.kb with count := s1.kb.count + 1, timer := some 100 } }
      else
        .next { s1 with kb := { s1.kb with count := Config.repeatLimit, hold := .exhausted, target := none, timer := none } }
    else .next s
  | _, _ => .next s

/-- The states of the keys after the first full scan of a fresh start (R85). -/
def scannedKeys (down : BitVec 64) : Vector KeyState 64 :=
  perKey fun key => if down.getLsbD key then KeyState.spent else KeyState.up

/-- FRESH_START_SCAN: the scan ends where it began, at D0 (R80, R85). -/
def execFreshStartScan (down : BitVec 64) (s : State) : Host.Outcome State Fault Refusal :=
  if s.kb.running ∧ s.kb.fresh then
    .next { s with
      kb := { s.kb with keys := scannedKeys down, fresh := false, pos := 0 }
      pins := { s.pins with keys := perKey down.getLsbD, sense := senseLines (perKey down.getLsbD) } }
  else .next s

end Sys2Proof.Machine
end

