-- ==== Sys2Proof/Machine/Receiver.lean ====
section
/-! DEFINITION. The line receiver: filtered transitions, the start check, the end of a character with its measurements and its
delivery, and the line conditions (02, R6, R14, R15, R45, R70). -/

namespace Sys2Proof.Machine

/-! ### Filtered transitions (R17 to R20, R24) -/

/-- A sample as read under the sense in force (R17). -/
def Sense.read : Sense → Level → Level
  | .normal, l => l
  | .inverted, l => l.flip

/-- The other sense. -/
def Sense.flip : Sense → Sense
  | .normal => .inverted
  | .inverted => .normal

/-- The date of the last transition of the character in progress. -/
def Receiver.lastDate (r : Receiver) : Nat := (r.edges.getLast?.map Prod.fst).getD 0

/-- The stop sample of the character in progress (R21, R22). -/
def Receiver.stopSample (r : Receiver) : Int := 208 + r.sc

/-- The nearest boundary of a date, and the displacement (R24). -/
def displacement (n : Nat) : Nat × Int :=
  if n % 32 < 16 then (32 * (n / 32), (n % 32 : Nat)) else (32 * (n / 32 + 1), ((n % 32 : Nat) : Int) - 32)

/-- A candidate is measured when it is the first of its boundary and fewer than six have been (R24). -/
def Receiver.measure (date : Nat) (r : Receiver) : Receiver :=
  let m := displacement date
  if 17 ≤ date ∧ (date : Int) < r.stopSample ∧ r.measured.length < 6 ∧ r.measured.any (fun x => x.1 == m.1) = false then
    { r with measured := r.measured ++ [m] }
  else r

/-- The filtered level becomes `l`; at mark the run of space ends and both thresholds are ready for the next (R18, R32). -/
def Receiver.setLevel (l : Level) (r : Receiver) : Receiver :=
  match l with
  | .mark => { r with level := .mark, spaceCount := 0, breakReady := true, clearReady := true }
  | .space => { r with level := .space }

/-- Whether the receiver assembles characters in a call state (R19). -/
def CallState.assembles : CallState → Bool
  | .agreeing => true
  | .connected => true
  | .clearing => true
  | _ => false

/-- Samples in a row that change the filtered level (R18). -/
def filterSamples : Nat := 3

/-- Whether a transition of a date can come next in the receiver's state: three samples agree on the new level, so the date lies
three samples or more after the last transition of the character (R18). With no character in progress the date counts from
nothing and is not read (log 22). -/
def Receiver.dateFits (date : Nat) (r : Receiver) : Bool :=
  match r.state with
  | .startCheck => decide (r.lastDate + filterSamples ≤ date) && decide (date ≤ 16)
  | .assemble => decide (r.lastDate + filterSamples ≤ date) && decide (17 ≤ date) && decide ((date : Int) ≤ r.stopSample)
  | _ => true

/-- What a filtered transition to `l` does to the receiver's state (R19, R20, R22, R24). -/
def Receiver.transition (assembling : Bool) (date : Nat) (l : Level) (r : Receiver) : Receiver :=
  match r.state, l with
  | .hunt, .space => if assembling then { r with state := .startCheck, sc := r.s, edges := [(0, .space)], measured := [] } else r
  | .hunt, .mark => r
  | .startCheck, _ => { r with edges := r.edges ++ [(date, l)] }
  | .assemble, _ => { r with edges := r.edges ++ [(date, l)] }.measure date
  | .waitMark, .mark => { r with state := .hunt }
  | .waitMark, .space => r

/-- FILTERED_TRANSITION (R18). -/
def execFilteredTransition (date : Nat) (s1 s2 s3 : Level) (s : State) : Host.Outcome State Fault Refusal :=
  let l := s.rx.sense.read s3
  if s1 = s3 ∧ s2 = s3 ∧ l = s.rx.level.flip ∧ s.rx.dateFits date ∧ s.call.state ≠ .standby then
    .next { s with
      rx := (s.rx.setLevel l).transition s.call.state.assembles date l
      pins := { s.pins with rxd := s3 } }
  else .next s

/-- START_UNIT_CHECK (R20). -/
def execStartUnitCheck (s : State) : Host.Outcome State Fault Refusal :=
  if s.rx.state = .startCheck then
    match s.rx.level with
    | .space => .next { s with rx := { s.rx with state := .assemble } }
    | .mark => .next { s with rx := s.rx.toHunt }
  else .next s

/-! ### The end of a character (R21 to R29) -/

/-- The filtered level at a sample of the character in progress. -/
def levelAt (edges : List (Nat × Level)) (n : Int) : Level :=
  ((edges.reverse.find? fun e => decide ((e.1 : Int) ≤ n)).map Prod.snd).getD .space

/-- The raw code of the character: unit k is read at 32k + 16 + s_c and gives bit k − 1 (R21). -/
def Receiver.rawCode (r : Receiver) : RawCode :=
  BitVec.ofNat 5 (((List.range 5).map fun i =>
    if levelAt r.edges (((32 * (i + 1) + 16 : Nat) : Int) + r.sc) = .mark then 2 ^ i else 0).sum)

/-- The character is good: its stop sample reads mark (R22). -/
def Receiver.isGood (r : Receiver) : Bool := decide (levelAt r.edges r.stopSample = .mark)

/-- The sum S of the displacements (R25). -/
def sumDisplacements (m : List (Nat × Int)) : Int := (m.map Prod.snd).sum

/-- The largest magnitude P of the displacements; 16 for a framing error (R25). -/
def peakDisplacement (good : Bool) (m : List (Nat × Int)) : Nat :=
  if good then (m.map fun x => x.2.natAbs).foldl max 0 else 16

/-- The step of the quality figure (R26). -/
def nextQ (q p : Nat) : Nat := (clampInt 0 4096 ((q : Int) + Int.tdiv (256 * (p : Int) - (q : Int)) 8)).toNat

/-- s and A are adjusted until A lies within −47..+47; the fuel bounds the steps (R29). -/
def adjustDrift : Nat → Int × Int → Int × Int
  | 0, x => x
  | fuel + 1, (a, s) =>
    if 48 ≤ a then adjustDrift fuel (a - 48, min (s + 1) 6)
    else if a ≤ -48 then adjustDrift fuel (a + 48, max (s - 1) (-6))
    else (a, s)

/-- A and s after a character (R29, R30). -/
def Receiver.drift (r : Receiver) : Int × Int :=
  if r.orientation ∧ r.measured ≠ [] then adjustDrift 4 (r.a + sumDisplacements r.measured, r.s) else (r.a, r.s)

/-- The receiver after a character of AGREEING or CONNECTED has been measured (R23, R26, R29). -/
def Receiver.updated (r : Receiver) : Receiver :=
  { r with
    q := nextQ r.q (peakDisplacement r.isGood r.measured), n := min 65535 (r.n + 1)
    a := r.drift.1, s := r.drift.2, goodSeen := r.goodSeen || r.isGood }

/-- The receiver when its character has ended (R22). -/
def Receiver.ended (good : Bool) (r : Receiver) : Receiver :=
  { r with state := if good then .hunt else .waitMark, edges := [], measured := [] }

/-! ### Delivery (R6, R14, R15, R23, R45, R70) -/

/-- A LINE-IN character in CONNECTED: the matcher, the answerback trigger of ASK-ID, the take with its error count and
STORE-FULL, the completion. The spec does not say whether the trigger or the take comes first; here the trigger does (log 44). -/
def lineInTake (c : StationCode) (error : Bool) (s : State) : State :=
  let e := eomMatch s.conv.eom s.conv.m c
  let s1 := { s with conv := { s.conv with m := e.1 } }
  let s2 := if c = Config.askId then triggerAnswerback s1 else s1
  let r := takeAt .lineIn (s2.row .lineIn) c s2
  let s3 := if error then { r.1 with store := r.1.store.countError } else r.1
  let s4 := storeFullAct r.2 s3
  if e.2 then closeOpen .in MsgFlags.justComplete s4 else s4

/-- The code converter takes what the receiver delivers: a raw code, or none for a framing error; its LINE-IN character is
taken in CONNECTED and discarded otherwise (R6, R70). -/
def converterTake (r : Option RawCode) (s : State) : State :=
  let d := match r with
    | some code => s.conv.decode code
    | none => (s.conv, some (Config.errorMark, true))
  let s1 := { s with conv := d.1 }
  match d.2 with
  | none => s1
  | some (c, error) => if s1.call.state = .connected then lineInTake c error s1 else s1

/-- Delivery by call state (R23). -/
def deliverLine (r : Option RawCode) (s : State) : State :=
  match s.call.state with
  | .agreeing =>
    let t := agreementTake r s
    if t.2 then converterTake r t.1 else t.1
  | .connected => converterTake r (touchIdleClear s)
  | .clearing => converterTake r s
  | _ => s

/-- CHARACTER_RECEIVED (R23). -/
def execCharacterReceived (s : State) : Host.Outcome State Fault Refusal :=
  if s.rx.state = .assemble ∧ s.call.state.assembles then
    let good := s.rx.isGood
    let code := if good then some s.rx.rawCode else none
    if s.call.state = .clearing then .next (deliverLine code { s with rx := s.rx.ended good })
    else
      let r := s.rx.updated
      .next (deliverLine code { s with rx := r.ended good, store := s.store.handQ r.q })
  else .next s

/-! ### Line conditions (R32 to R35) -/

/-- The receiver keeps its counts (R32). -/
def CallState.counts : CallState → Bool
  | .agreeing => true
  | .connected => true
  | _ => false

/-- A threshold acts at a tick that reads loop current present and so sets the loss count to 0 (R32, R35). -/
def thresholdTick (s : State) : State :=
  let s1 := readLoop true s
  { s1 with rx := { s1.rx with lossCount := 0 } }

/-- A break is received (R33, R49, R60; log 19). -/
def breakThreshold (s : State) : State :=
  let s1 := receivedBreak
    { s with
      rx := { s.rx with spaceCount := max s.rx.spaceCount s.rx.brk, breakReady := false }
      latches := { s.latches with breakSeen := true } }
  if s.call.state = .agreeing ∧ s.agr.rxSwitched = false then fallBack .fault s1 else s1

/-- BREAK_THRESHOLD (R33, R35). -/
def execBreakThreshold (s : State) : Host.Outcome State Fault Refusal :=
  if s.call.state.counts ∧ s.rx.level = .space ∧ s.rx.breakReady then .next (breakThreshold (thresholdTick s)) else .next s

/-- The sense in force is inverted (R34). -/
def invertPolarity (s : State) : State :=
  { s with
    rx := { s.rx with
      sense := s.rx.sense.flip, inversionMade := true, spaceCount := 0, breakReady := true, clearReady := true }
    latches := { s.latches with polarityReversed := true } }

/-- The clear threshold: an inversion or a remote clear (R34). -/
def clearThreshold (s : State) : State :=
  if s.rx.goodSeen = false ∧ s.rx.autoPolarity ∧ s.rx.inversionMade = false then invertPolarity s
  else enterClearing .remoteClear { s with rx := { s.rx with clearReady := false } }

/-- CLEAR_THRESHOLD (R34, R35). -/
def execClearThreshold (s : State) : Host.Outcome State Fault Refusal :=
  if s.call.state.counts ∧ s.rx.level = .space ∧ s.rx.clearReady ∧ s.rx.breakReady = false then
    .next (clearThreshold (thresholdTick s))
  else .next s

/-- Loop current is lost (R35). -/
def loopLost (s : State) : State :=
  enterClearing .lineLost { s with rx := s.rx.toHunt, latches := { s.latches with lineLost := true } }

/-- LOOP_CURRENT_LOST (R35): the reading of LOOPSENSE that completes the count (log 65). -/
def execLoopCurrentLost (s : State) : Host.Outcome State Fault Refusal :=
  if s.call.state.counts then
    .next (loopLost (readLoop false s))
  else .next s

end Sys2Proof.Machine
end

