-- ==== Sys2Proof/Machine/Link.lean ====
section
/-! DEFINITION. The command link: frames received, judged and sent, and the taking of requests (10). -/

namespace Sys2Proof.Machine

/-! ### Frames received (R182, R183) -/

/-- An OVERRUN rejection is kept in the link behind the replies to the frames held; one of its reason that waits in the reply
queue counts it once it joins (R183; log 30). -/
def Link.markOverrun (kind : Byte) (l : Link) : Link :=
  match l.overrun with
  | some o => { l with overrun := some { o with kind := kind, count := min 255 (o.count + 1) } }
  | none => { l with overrun := some ⟨kind, 1, l.holding.length⟩ }

/-- A frame is judged at its CHECK byte (R182). -/
def Link.judge (len : Byte) (inner : List Byte) (check : Byte) (l : Link) : Link :=
  let kind := inner.headD 0
  let l1 := { l with rx := .hunt }
  if Config.holdingCapacity ≤ l.holding.length then l1.markOverrun kind
  else if sumBytes (len :: inner) + check ≠ 0 then (l1.reject .check kind 1).kick
  else if requestKinds.contains kind then { l1 with holding := l.holding ++ [⟨kind, inner.tail⟩] }
  else (l1.reject .format kind 1).kick

/-- A byte arrives (R182). -/
def Link.receive (b : Byte) (l : Link) : Link :=
  match l.rx with
  | .stopped => l
  | .hunt => if b = Config.sync then { l with rx := .inFrame [] } else l
  | .inFrame [] =>
    if b = 0 ∨ 241 < b.toNat then ({ l with rx := .hunt }.reject .format 0 1).kick else { l with rx := .inFrame [b] }
  | .inFrame (len :: inner) =>
    if inner.length < len.toNat then { l with rx := .inFrame (len :: inner ++ [b]) } else l.judge len inner b

/-- LINK_BYTE_RECEIVED (R182). -/
def execLinkByteReceived (b : Byte) (s : State) : Host.Outcome State Fault Refusal := .next { s with link := s.link.receive b }

/-- FRAME_RECEIVED (R182). -/
def execFrameReceived (check : Byte) (s : State) : Host.Outcome State Fault Refusal :=
  match s.link.rx with
  | .inFrame (len :: inner) =>
    if inner.length = len.toNat then .next { s with link := s.link.judge len inner check } else .next s
  | _ => .next s

/-- FRAME_ABANDONED (R182). -/
def execFrameAbandoned (s : State) : Host.Outcome State Fault Refusal :=
  if s.link.rx.receiving then .next { s with link := { s.link with rx := .hunt } } else .next s

/-! ### Frames sent (R157, R184, R187) -/

/-- The OK reply to a STANDBY request. -/
def OutFrame.isStandbyOk : OutFrame → Bool
  | .reply kind a => kind == 0x15#8 && decide (a.result = .ok)
  | _ => false

/-- A STANDBY reply has been sent: STANDBY is entered when the conditions still hold; a second one that waits goes on waiting
(R157). -/
def afterStandbyReply (s : State) : State :=
  let s1 := { s with call := { s.call with standbyPending := s.link.replies.any OutFrame.isStandbyOk } }
  if s1.standbyOk then enterStandby s1 else touchStandby { s1 with link := s1.link.kick }

/-- LINK_FRAME_SENT (R184). -/
def execLinkFrameSent (s : State) : Host.Outcome State Fault Refusal :=
  match s.link.sending with
  | none => .next s
  | some f =>
    let s1 := { s with link := { s.link with sending := none } }
    if s.call.standbyPending ∧ f.isStandbyOk then .next (afterStandbyReply s1)
    else .next { s1 with link := s1.link.kick }

/-! ### Requests taken (R184, R185) -/

/-- A request can be taken: the link runs, no reply waits unsent, no READ-MESSAGE is being served (R184). -/
def State.linkFree (s : State) : Bool :=
  decide (s.link.rx ≠ .stopped) && !s.link.replies.any OutFrame.isReply && s.store.hostRead.isNone

/-- The state in which a request stands at the head of the input holding: it is there, or its frame arrives now into the
empty holding (R184; log 4). -/
def State.takes? (s : State) (kind : Byte) (body : List Byte) : Option State :=
  match s.link.holding with
  | f :: _ => if f = ⟨kind, body⟩ then some s else none
  | [] =>
    if s.link.rx = .hunt ∧ body.length ≤ 240 then some { s with link := { s.link with holding := [⟨kind, body⟩] } } else none

/-- A request taken and not answered yet: the standby-after timer is set afresh (R157), before a SET-STATION acts (log 66); a body
whose length does not fit is BAD-VALUE (R185), else the owning block acts; none where the request cannot be taken. What the act
reports joins the report queue before the reply joins, so that an idle transmitter in PUSH begins with the report (R184; log
69). -/
def accept (kind : Byte) (fits : Bool) (body : List Byte) (act : State → State × Answer) (s : State) : State :=
  if s.linkFree then
    match s.takes? kind body with
    | none => s
    | some s0 =>
      let s1 := touchStandby s0
      if fits then
        let r := act s1
        reply kind r.2 r.1
      else reply kind (badLength s1) (useFree s1)
  else s

end Sys2Proof.Machine
end

