-- ==== Sys2Proof/Machine/Settings.lean ====
section
/-! DEFINITION. The requests that set something: settings, tables, strings, routes (R3, R11, R13, R36, R65, R86, R118, R136,
R139, R185). -/

namespace Sys2Proof.Machine

/-- A request's act that checks its fields first: BAD-VALUE with the position of the first at fault, else the act (R184). -/
def checked (fields : List (Nat × Bool)) (act : State → State × Answer) (s : State) : State × Answer :=
  match firstFault fields with
  | some p => (s, badValue p)
  | none => act s

/-! ### SET_STATION (R139, R187) -/

/-- The settings of R139 and the report mode are applied; turning auto-release on makes the test for every message (R179). -/
def applyStation (mode : Mode) (idleClear standbyAfter : Nat) (autoRelease : Bool) (rm : ReportMode) (s : State) : State :=
  let s1 := { s with
    call := { s.call with mode := mode, idleClear := idleClear, standbyAfter := standbyAfter, autoRelease := autoRelease }
    link := { s.link with mode := rm } }
  if autoRelease then givenUp (s.store.dir.map Entry.number) s1 else s1

/-- The act of SET-STATION; its own taking has set the standby-after timer with the time before it (R139, R157; log 66). -/
def actSetStation (body : List Byte) (s : State) : State × Answer :=
  match mode? (field1 body 0), onOff? (field1 body 5), reportMode? (field1 body 6) with
  | some m, some ar, some rm =>
    let ic := clampTimer (field2 body 1)
    let sa := clampTimer (field2 body 3)
    (applyStation m ic sa ar rm s, ok (put1 m.number ++ put2 ic ++ put2 sa ++ put1 (onOffByte ar) ++ put1 rm.number))
  | none, _, _ => (s, badValue 0)
  | _, none, _ => (s, badValue 5)
  | _, _, none => (s, badValue 6)

/-- SET_STATION (R139). -/
def execSetStation (body : List Byte) (s : State) : Host.Outcome State Fault Refusal :=
  .next (accept 0x01#8 (decide (body.length = 7)) body (actSetStation body) s)

/-! ### SET_LINE (R36, R53, R10) -/

/-- The settings of the line receiver (R36); with orientation off s becomes s0 (R30). -/
def Receiver.setLine (brk clr : Nat) (ap : Bool) (sense : Sense) (orient : Bool) (s0 : Int) (qt : Nat) (r : Receiver) :
    Receiver :=
  { r with brk := brk, clr := clr, autoPolarity := ap, cfgSense := sense, orientation := orient, s0 := s0, qt := qt
           s := if orient then r.s else s0 }

/-- The configured maximum rate; a ceiling above it comes down to it (R62). -/
def Agreement.setMax (m : Rate) (a : Agreement) : Agreement := { a with cfgMax := m, ceiling := m.lower a.ceiling }

/-- The act of SET-LINE: the tick counts BRK and CLR take two bytes each (R185). -/
def actSetLine (body : List Byte) (s : State) : State × Answer :=
  match onOff? (field1 body 4), sense? (field1 body 5), onOff? (field1 body 6), stopLength? (field1 body 10),
      onOff? (field1 body 11), Rate.ofIndex? (field1 body 12), onOff? (field1 body 13) with
  | some ap, some se, some ori, some sl, some aoc, some mx, some us =>
    let brk := clampNat 4 32 (field2 body 0)
    let clr := clampNat 48 255 (field2 body 2)
    let s0 := clampInt (-6) 6 (fieldS body 7)
    let qt := clampNat 256 4096 (field2 body 8)
    ({ s with
        rx := s.rx.setLine brk clr ap se ori s0 qt
        tx := { s.tx with stopLength := sl, answerbackOnConnect := aoc }
        agr := s.agr.setMax mx
        conv := { s.conv with unshift := us } },
      ok (put2 brk ++ put2 clr ++ put1 (onOffByte ap) ++ put1 se.number ++ put1 (onOffByte ori) ++ [BitVec.ofInt 8 s0]
        ++ put2 qt ++ put1 sl.number ++ put1 (onOffByte aoc) ++ put1 mx.index ++ put1 (onOffByte us)))
  | ap, se, ori, sl, aoc, mx, us =>
    (s, badValue ((firstFault [(4, ap.isSome), (5, se.isSome), (6, ori.isSome), (10, sl.isSome), (11, aoc.isSome),
      (12, mx.isSome), (13, us.isSome)]).getD 0))

/-- SET_LINE (R36). -/
def execSetLine (body : List Byte) (s : State) : Host.Outcome State Fault Refusal :=
  .next (accept 0x02#8 (decide (body.length = 14)) body (actSetLine body) s)

/-! ### LOAD_CODE_TABLE (R3, R4) -/

/-- The fields of LOAD-CODE-TABLE and whether each is good (R3, order 1). -/
def tableFields (body : List Byte) : List (Nat × Bool) :=
  (0, (plane? (field1 body 0)).isSome) :: (1, (rawCode? (body.getD 1 0)).isSome) :: (2, (rawCode? (body.getD 2 0)).isSome)
    :: (List.range 32).map fun i => (3 + i, (tableEntry? (body.getD (3 + i) 0)).isSome)

/-- The 32 entries of LOAD-CODE-TABLE. -/
def loadedEntries (body : List Byte) : Vector (Option StationCode) 32 :=
  ⟨((List.range 32).map fun i => (tableEntry? (body.getD (3 + i) 0)).getD none).toArray, by simp⟩

/-- The converter as a load would leave it, validity apart (R3). -/
def Converter.loadedWith (p : Plane) (ltrs figs : RawCode) (entries : Vector (Option StationCode) 32) (cv : Converter) :
    Converter :=
  { cv.setTable p ⟨entries, true⟩ with ltrsShift := some ltrs, figsShift := some figs }

/-- The table is VALID once both planes are LOADED and ASK-ID is held (R4). -/
def Converter.revalidate (cv : Converter) : Converter :=
  { cv with valid := cv.valid || (cv.letters.loaded && cv.figures.loaded && cv.holdsAskId) }

/-- VALID or INVALID as a byte (log 9). -/
def validityByte (v : Bool) : Nat := if v then 0 else 1

/-- LOAD-CODE-TABLE with good fields: the tests 2 to 4 of R3, then the load; a code that the punch holds between two cycles is none
of test 2 (log 58). -/
def loadTable (p : Plane) (ltrs figs : RawCode) (entries : Vector (Option StationCode) 32) (s : State) : State × Answer :=
  let cv := s.conv.loadedWith p ltrs figs entries
  if s.call.state ≠ .idle ∨ s.kb.buffer ≠ [] ∨ s.pu.queue ≠ [] ∨ s.pu.chain ≠ [] then (s, plainAnswer .wrongState)
  else if ltrs = figs then (s, plainAnswer .tableConflict)
  else if (s.conv.table p.other).loaded ∧ cv.holdsAskId = false then (s, plainAnswer .tableConflict)
  else
    let cv1 := cv.revalidate
    ({ s with conv := cv1, call := { s.call with configured := s.call.configured || cv1.valid } },
      ok (put1 (validityByte cv1.valid)))

/-- The act of LOAD-CODE-TABLE. -/
def actLoadCodeTable (body : List Byte) (s : State) : State × Answer :=
  checked (tableFields body) (fun s =>
    match plane? (field1 body 0), rawCode? (body.getD 1 0), rawCode? (body.getD 2 0) with
    | some p, some l, some f => loadTable p l f (loadedEntries body) s
    | _, _, _ => (s, badValue 0)) s

/-- LOAD_CODE_TABLE (R3). -/
def execLoadCodeTable (body : List Byte) (s : State) : Host.Outcome State Fault Refusal :=
  .next (accept 0x03#8 (decide (body.length = 35)) body (actLoadCodeTable body) s)

/-! ### LOAD_KEYMAP (R86) -/

/-- The entry at position `i` of a LOAD-KEYMAP body. -/
def loadedKey (body : List Byte) (i : Nat) : Option KeymapEntry :=
  keymapEntry? (body.getD (2 + 3 * i) 0) (body.getD (3 + 3 * i) 0) (body.getD (4 + 3 * i) 0)

/-- The position of the field at fault in an entry: its kind, or the code of a CHAR entry. -/
def keyFaultAt (body : List Byte) (i : Nat) : Nat :=
  if field1 body (2 + 3 * i) ≠ 0 then 2 + 3 * i
  else if (stationCode? (body.getD (3 + 3 * i) 0)).isNone then 3 + 3 * i else 4 + 3 * i

/-- The entries of a load replace those of the keys from the first on (R86). -/
def Keyboard.loadKeys (first : Nat) : List KeymapEntry → Keyboard → Keyboard
  | [], k => k
  | e :: rest, k => Keyboard.loadKeys (first + 1) rest { k with keymap := k.keymap.setIfInBounds first e }

/-- The act of LOAD-KEYMAP. -/
def actLoadKeymap (body : List Byte) (s : State) : State × Answer :=
  let first := field1 body 0
  let count := field1 body 1
  if count < 1 ∨ 64 < count then (s, badValue 1)
  else if 64 < first + count then (s, badValue 0)
  else
    match (List.range count).find? fun i => (loadedKey body i).isNone with
    | some i => (s, badValue (keyFaultAt body i))
    | none => ({ s with kb := s.kb.loadKeys first ((List.range count).filterMap (loadedKey body)) }, ok [])

/-- The length of a LOAD-KEYMAP body fits its count; a count outside 1..64 is a fault of its field (log 10). -/
def keymapFits (body : List Byte) : Bool :=
  decide (2 ≤ body.length) && (decide (field1 body 1 < 1) || decide (64 < field1 body 1)
    || decide (body.length = 2 + 3 * field1 body 1))

/-- LOAD_KEYMAP (R86). -/
def execLoadKeymap (body : List Byte) (s : State) : Host.Outcome State Fault Refusal :=
  .next (accept 0x04#8 (keymapFits body) body (actLoadKeymap body) s)

/-! ### SET_ANSWERBACK, SET_EOM (R11, R13) -/

/-- The act of SET-ANSWERBACK. -/
def actSetAnswerback (body : List Byte) (s : State) : State × Answer :=
  match stationCodes? body with
  | none => (s, badValue (badCodeAt 0 body))
  | some codes =>
    if s.tx.duty = .none then ({ s with conv := { s.conv with answerback := codes } }, ok [])
    else (s, plainAnswer .wrongState)

/-- SET_ANSWERBACK (R11). -/
def execSetAnswerback (body : List Byte) (s : State) : Host.Outcome State Fault Refusal :=
  .next (accept 0x05#8 (decide (body.length ≤ 20)) body (actSetAnswerback body) s)

/-- The act of SET-EOM. -/
def actSetEom (body : List Byte) (s : State) : State × Answer :=
  match stationCodes? body with
  | none => (s, badValue (badCodeAt 0 body))
  | some codes => ({ s with conv := { s.conv with eom := codes, m := 0 } }, ok [])

/-- SET_EOM (R13). -/
def execSetEom (body : List Byte) (s : State) : Host.Outcome State Fault Refusal :=
  .next (accept 0x06#8 (decide (body.length ≤ 8)) body (actSetEom body) s)

/-! ### SET_ROUTES (R65) -/

/-- A row holds no sink. -/
def Row.isEmpty (r : Row) : Bool := !r.printer && !r.punch && !r.lineOut && !r.store && !r.link

/-- The conflicts of R65, orders 2 to 6; set 0 is LOCAL. -/
def routesConflict (set : Nat) (r : RouteSet) : Bool :=
  r.lineIn.lineOut || r.playback.store || (r.lineIn.punch && !r.lineIn.store)
    || (decide (set = 0) && (r.lineIn.lineOut || r.keyboard.lineOut || r.linkText.lineOut || r.playback.lineOut
        || r.answerback.lineOut || !r.playback.isEmpty))
    || (decide (set ≠ 0) && (!r.playback.lineOut || !r.answerback.lineOut))

/-- A set is replaced whole (R65). -/
def Router.setRoutes (set : Nat) (r : RouteSet) (rt : Router) : Router :=
  match set with
  | 0 => { rt with localSet := r }
  | 1 => { rt with attended := r }
  | _ => { rt with unattended := r }

/-- The act of SET-ROUTES. -/
def actSetRoutes (body : List Byte) (s : State) : State × Answer :=
  match row? (body.getD 1 0), row? (body.getD 2 0), row? (body.getD 3 0), row? (body.getD 4 0), row? (body.getD 5 0) with
  | some a, some b, some c, some d, some e =>
    if 2 < field1 body 0 then (s, badValue 0)
    else if routesConflict (field1 body 0) ⟨a, b, c, d, e⟩ then (s, plainAnswer .tableConflict)
    else ({ s with router := s.router.setRoutes (field1 body 0) ⟨a, b, c, d, e⟩ }, ok [])
  | a, b, c, d, e =>
    (s, badValue ((firstFault [(0, decide (field1 body 0 ≤ 2)), (1, a.isSome), (2, b.isSome), (3, c.isSome), (4, d.isSome),
      (5, e.isSome)]).getD 0))

/-- SET_ROUTES (R65). -/
def execSetRoutes (body : List Byte) (s : State) : Host.Outcome State Fault Refusal :=
  .next (accept 0x07#8 (decide (body.length = 6)) body (actSetRoutes body) s)

/-! ### SET_PRINTER (R118, R102) -/

/-- The line-end mark when the line length becomes `l` (R102). -/
def Printer.lineEndFor (l : Nat) (p : Printer) : Bool :=
  if l < p.column then true else if p.lineLength < l ∧ p.column < l then false else p.lineEnd

/-- The act of SET-PRINTER (R118); its line length L is a field of 1 byte (R185; log 64). -/
def actSetPrinter (body : List Byte) (s : State) : State × Answer :=
  match policy? (field1 body 2), stationCode? (body.getD 4 0) with
  | some po, some lost =>
    let l := clampNat 20 132 (field1 body 0)
    let m := clampNat 0 l (field1 body 1)
    let h := clampNat 1 15 (field1 body 3)
    ({ s with pr := { s.pr with
        lineEnd := s.pr.lineEndFor l, lineLength := l, margin := m, policy := po, intensityReq := h, lostCode := lost } },
      ok (put1 l ++ put1 m ++ put1 po.number ++ put1 h ++ [codeByte lost]))
  | none, _ => (s, badValue 2)
  | some _, none => (s, badValue 4)

/-- SET_PRINTER (R118). -/
def execSetPrinter (body : List Byte) (s : State) : Host.Outcome State Fault Refusal :=
  .next (accept 0x08#8 (decide (body.length = 5)) body (actSetPrinter body) s)

/-! ### SET_PUNCH (R136) -/

/-- The act of SET-PUNCH. -/
def actSetPunch (body : List Byte) (s : State) : State × Answer :=
  let t := clampNat 4 10 (field1 body 0)
  ({ s with pu := { s.pu with onTimeReq := t, defLeader := field1 body 1, defTrailer := field1 body 2 } },
    ok (put1 t ++ put1 (field1 body 1) ++ put1 (field1 body 2)))

/-- SET_PUNCH (R136). -/
def execSetPunch (body : List Byte) (s : State) : Host.Outcome State Fault Refusal :=
  .next (accept 0x09#8 (decide (body.length = 3)) body (actSetPunch body) s)

end Sys2Proof.Machine
end

