-- ==== Sys2Proof/Machine/Requests.lean ====
section
/-! DEFINITION. The requests to the call controller, the transmitter, the router, the store, the printer, the punch and the
link's own (08, 09, 10, R47, R48, R69, R111, R116, R125, R133 to R135). -/

namespace Sys2Proof.Machine

/-- The body of a request that carries none. -/
def noBody (body : List Byte) : Bool := body.isEmpty

/-! ### Calls (R143 to R145, R152) -/

/-- The act of ANSWER (R143). -/
def actAnswer (s : State) : State × Answer :=
  if s.call.attendedWait then
    if s.store.check then (enterStarting s, ok []) else (refuseRing .storeFull s, plainAnswer .full)
  else (s, plainAnswer .wrongState)

/-- ANSWER (R143). -/
def execAnswer (body : List Byte) (s : State) : Host.Outcome State Fault Refusal :=
  .next (accept 0x10#8 (noBody body) body actAnswer s)

/-- Entry to ORIGINATING (R138, R145). -/
def originate (s : State) : State :=
  { s with call := { s.call with
      state := .originating, callMode := some s.call.mode, loopClose := true, loopTimer := some Config.loopTicks
      standbyTimer := none } }

/-- The act of CALL (R145). -/
def actCall (s : State) : State × Answer :=
  if s.call.state = .idle ∧ s.call.configured then (originate s, ok []) else (s, plainAnswer .wrongState)

/-- CALL (R145). -/
def execCall (body : List Byte) (s : State) : Host.Outcome State Fault Refusal :=
  .next (accept 0x11#8 (noBody body) body actCall s)

/-- A call cleared in STARTING ends at once; the start request is withdrawn (R144; log 25). -/
def endStarting (s : State) : State :=
  raise (.callEnded .clearRequest none none .neutral s.agr.ceiling)
    (ringToIdle { s with pr := { s.pr with startPending := false } })

/-- The act of CLEAR (R152). -/
def actClear (s : State) : State × Answer :=
  match s.call.state with
  | .ringCheck => if s.call.attendedWait then (refuseRing .declined s, ok []) else (s, plainAnswer .wrongState)
  | .starting => (endStarting s, ok [])
  | .answering => (enterClearing .clearRequest s, ok [])
  | .originating => (enterClearing .clearRequest s, ok [])
  | .agreeing => (enterClearing .clearRequest s, ok [])
  | .connected => (enterClearing .clearRequest s, ok [])
  | .clearing => (s, ok [])
  | .idle => (s, plainAnswer .wrongState)
  | .standby => (s, plainAnswer .wrongState)

/-- CLEAR (R152). -/
def execClear (body : List Byte) (s : State) : Host.Outcome State Fault Refusal :=
  .next (accept 0x12#8 (noBody body) body actClear s)

/-! ### The transmitter and the router (R47, R48, R69) -/

/-- The act of SEND-BREAK (R48). -/
def actSendBreak (s : State) : State × Answer :=
  if s.call.state = .connected then
    if s.tx.signal = .none then (sendBreak s, ok []) else (s, plainAnswer .busy)
  else (s, plainAnswer .wrongState)

/-- SEND_BREAK (R48). -/
def execSendBreak (body : List Byte) (s : State) : Host.Outcome State Fault Refusal :=
  .next (accept 0x13#8 (noBody body) body actSendBreak s)

/-- The act of SEND-ANSWERBACK (R47). -/
def actSendAnswerback (s : State) : State × Answer :=
  if s.call.state.takesTrigger then
    if s.tx.duty = .none then (triggerAnswerback s, ok []) else (s, plainAnswer .busy)
  else (s, plainAnswer .wrongState)

/-- SEND_ANSWERBACK (R47). -/
def execSendAnswerback (body : List Byte) (s : State) : Host.Outcome State Fault Refusal :=
  .next (accept 0x14#8 (noBody body) body actSendAnswerback s)

/-- The act of STANDBY (R157): the conditions are tested with the STANDBY request's own frame left out. -/
def actStandby (s : State) : State × Answer :=
  if ({ s with link := { s.link with holding := s.link.holding.tail } }).standbyOk then
    ({ s with call := { s.call with standbyPending := true } }, ok [])
  else (touchStandby s, plainAnswer .wrongState)

/-- STANDBY (R157). -/
def execStandby (body : List Byte) (s : State) : Host.Outcome State Fault Refusal :=
  .next (accept 0x15#8 (noBody body) body actStandby s)

/-- The act of LINK-TEXT (R69). -/
def actLinkText (body : List Byte) (s : State) : State × Answer :=
  match stationCodes? body with
  | none => (s, badValue (badCodeAt 0 body))
  | some codes =>
    let room := Config.linkTextCapacity - s.router.linkText.length
    let s1 := { s with router := { s.router with linkText := s.router.linkText ++ codes.take room } }
    if codes.length ≤ room then (s1, ok (put1 codes.length))
    else if room = 0 then (s, plainAnswer .full)
    else (s1, ⟨.part room, put1 room⟩)

/-- LINK_TEXT (R69). -/
def execLinkText (body : List Byte) (s : State) : Host.Outcome State Fault Refusal :=
  .next (accept 0x20#8 (decide (body.length ≤ 240)) body (actLinkText body) s)

/-! ### Playback (R155, R156) -/

/-- A playback of a message starts from an offset (R155); at the length it is DONE at once (R156). -/
def startPlayback (number offset : Nat) (s : State) : State :=
  let p := s.call.play
  let s1 := { s with
    store := s.store.setSent number offset
    call := { s.call with play := ⟨.running, number, offset, [], [], p.run + 1⟩ } }
  if s.store.lengthOf number ≤ offset then advanceSent offset s1 else playbackAsk s1

/-- The act of PLAYBACK (R155). -/
def actPlayback (body : List Byte) (s : State) : State × Answer :=
  let number := field2 body 0
  if number = 0 then (s, badValue 0)
  else if s.call.state ≠ .connected then (s, plainAnswer .wrongState)
  else if s.call.play.state = .running ∨ s.call.play.state = .paused then (s, plainAnswer .busy)
  else
    match s.store.live? number with
    | none => (s, plainAnswer .noSuchMessage)
    | some e =>
      if e.dir = .in ∨ e.state = .open then (s, plainAnswer .wrongState)
      else
        let offset := min e.length (field3 body 2)
        (startPlayback number offset s, ok (put3 offset))

/-- PLAYBACK (R155). -/
def execPlayback (body : List Byte) (s : State) : Host.Outcome State Fault Refusal :=
  .next (accept 0x21#8 (decide (body.length = 5)) body (actPlayback body) s)

/-- The act of PLAYBACK-RESUME (R156). -/
def actPlaybackResume (s : State) : State × Answer :=
  if s.call.play.state = .paused ∧ s.call.state = .connected then
    (playbackAsk { s with call := { s.call with
      play := { s.call.play with state := .running, readPos := s.sentCursor, buf := [], skipped := [] } } }, ok [])
  else (s, plainAnswer .wrongState)

/-- PLAYBACK_RESUME (R156). -/
def execPlaybackResume (body : List Byte) (s : State) : Host.Outcome State Fault Refusal :=
  .next (accept 0x22#8 (noBody body) body actPlaybackResume s)

/-- The act of PLAYBACK-CANCEL (R156); the sent cursor goes back in 3 bytes (log 56). -/
def actPlaybackCancel (s : State) : State × Answer :=
  if s.call.play.state = .running ∨ s.call.play.state = .paused then
    (autoReleaseTest s.call.play.number { s with
      call := { s.call with play := { s.call.play with state := .cancelled, buf := [], skipped := [] } }
      store := s.store.abandon .playback }, ok (put3 s.sentCursor))
  else (s, plainAnswer .wrongState)

/-- PLAYBACK_CANCEL (R156). -/
def execPlaybackCancel (body : List Byte) (s : State) : Host.Outcome State Fault Refusal :=
  .next (accept 0x23#8 (noBody body) body actPlaybackCancel s)

/-! ### The message store (R164, R175, R177, R178, R188) -/

/-- A request answered BUSY in MEMORY-INIT (R164). -/
def outsideInit (act : State → State × Answer) (s : State) : State × Answer :=
  if s.store.memInit then (s, plainAnswer .busy) else act s

/-- STORE-OPEN out of MEMORY-INIT (R175). -/
def storeOpen (s : State) : State × Answer :=
  if (s.store.open? .out).isSome ∨ (s.store.open? .in).isSome then (s, plainAnswer .wrongState)
  else if s.store.canOpen .out then
    let r := s.store.openEntry .out none 0
    ({ s with store := r.1 }, ok (put2 r.2))
  else (s, plainAnswer .full)

/-- STORE_OPEN (R175). -/
def execStoreOpen (body : List Byte) (s : State) : Host.Outcome State Fault Refusal :=
  .next (accept 0x30#8 (noBody body) body (outsideInit storeOpen) s)

/-- Why STORE-APPEND stopped taking codes (R175). -/
inductive AppendEnd where
  | all
  | queueFull
  | ringOut
  deriving DecidableEq, Repr

/-- The codes are stored one after another, each after a test of the write queue (R175); `n` counts those taken. -/
def appendCodes : List StationCode → Nat → State → State × Nat × AppendEnd
  | [], n, s => (s, n, .all)
  | c :: rest, n, s =>
    match s.store.open? .out with
    | none => (s, n, .ringOut)
    | some e =>
      if 2 < s.store.queue.length then (s, n, .queueFull)
      else
        match storeInto e c s with
        | (s1, .at _) => appendCodes rest (n + 1) s1
        | (s1, .blocked) => (s1, n, .queueFull)
        | (s1, .ringOut) => (s1, n, .ringOut)

/-- The answer of STORE-APPEND (R175). -/
def appendAnswer (n : Nat) : AppendEnd → Answer
  | .all => ok (put1 n)
  | .queueFull => if n = 0 then plainAnswer .busy else ⟨.part n, put1 n⟩
  | .ringOut => if n = 0 then plainAnswer .full else ⟨.part n, put1 n⟩

/-- STORE-APPEND out of MEMORY-INIT (R175). -/
def storeAppend (body : List Byte) (s : State) : State × Answer :=
  match stationCodes? body with
  | none => (s, badValue (badCodeAt 0 body))
  | some codes =>
    if (s.store.open? .out).isNone then (s, plainAnswer .wrongState)
    else
      let r := appendCodes codes 0 s
      (r.1, appendAnswer r.2.1 r.2.2)

/-- STORE_APPEND (R175). -/
def execStoreAppend (body : List Byte) (s : State) : Host.Outcome State Fault Refusal :=
  .next (accept 0x31#8 (decide (body.length ≤ 240)) body (outsideInit (storeAppend body)) s)

/-- STORE-CLOSE out of MEMORY-INIT (R175). -/
def storeClose (s : State) : State × Answer :=
  match s.store.open? .out with
  | none => (s, plainAnswer .wrongState)
  | some e => (closeMessage e MsgFlags.justComplete s, ok (put2 e.number ++ put3 e.length))

/-- STORE_CLOSE (R175). -/
def execStoreClose (body : List Byte) (s : State) : Host.Outcome State Fault Refusal :=
  .next (accept 0x32#8 (noBody body) body (outsideInit storeClose) s)

/-- What READ-MESSAGE comes to (R177): a refusal, or the read to be made. -/
def readTest (body : List Byte) (s : State) : Answer ⊕ HostRead :=
  let number := field2 body 0
  let count := field1 body 5
  if number = 0 then .inl (badValue 0)
  else if count < 1 ∨ 200 < count then .inl (badValue 5)
  else if s.store.memInit then .inl (plainAnswer .busy)
  else
    match s.store.live? number with
    | none => .inl (plainAnswer .noSuchMessage)
    | some e =>
      let offset := min e.length (field3 body 2)
      .inr ⟨number, offset, min count (e.length - offset), []⟩

/-- A READ-MESSAGE is taken: its reply is built once every cell has been served (R177, R184). -/
def acceptRead (body : List Byte) (s : State) : State :=
  if s.linkFree then
    match s.takes? 0x33#8 body with
    | none => s
    | some s0 =>
      let s1 := touchStandby s0
      if body.length = 6 then
        match readTest body s1 with
        | .inl a => reply 0x33#8 a s1
        | .inr h => hostContinue h s1
      else reply 0x33#8 (badLength s1) (useFree s1)
  else s

/-- READ_MESSAGE (R177). -/
def execReadMessage (body : List Byte) (s : State) : Host.Outcome State Fault Refusal := .next (acceptRead body s)

/-- The act of RELEASE (R178). -/
def actRelease (body : List Byte) (s : State) : State × Answer :=
  let number := field2 body 0
  if number = 0 then (s, badValue 0)
  else if s.store.memInit then (s, plainAnswer .busy)
  else
    match s.store.live? number with
    | none => (s, plainAnswer .noSuchMessage)
    | some e =>
      if e.state = .open then (s, plainAnswer .wrongState)
      else if s.named number then (s, plainAnswer .inUse)
      else ({ s with store := s.store.release number }, ok [])

/-- RELEASE (R178). -/
def execRelease (body : List Byte) (s : State) : Host.Outcome State Fault Refusal :=
  .next (accept 0x34#8 (decide (body.length = 2)) body (actRelease body) s)

/-- LIST-DIRECTORY out of MEMORY-INIT (R188). -/
def listDirectory (body : List Byte) (s : State) : State × Answer :=
  let start := field1 body 0
  if 63 < start then (s, badValue 0)
  else
    let entries := (s.store.dir.drop start).take 9
    (s, ok (put1 s.store.dir.length ++ put1 start ++ put1 entries.length ++ entries.flatMap Entry.listing))

/-- LIST_DIRECTORY (R188). -/
def execListDirectory (body : List Byte) (s : State) : Host.Outcome State Fault Refusal :=
  .next (accept 0x35#8 (decide (body.length = 1)) body (outsideInit (listDirectory body)) s)

/-! ### The printer (R111, R116) -/

/-- The act of PRINT-MESSAGE (R111). -/
def actPrintMessage (body : List Byte) (s : State) : State × Answer :=
  let number := field2 body 0
  if number = 0 then (s, badValue 0)
  else
    match s.store.live? number with
    | none => (s, plainAnswer .noSuchMessage)
    | some e =>
      if e.state = .open then (s, plainAnswer .wrongState)
      else if Config.printJobCapacity ≤ s.pr.jobs.length then (s, plainAnswer .full)
      else
        let offset := min e.length (field3 body 2)
        ({ s with pr := { s.pr.stopOff with jobs := s.pr.jobs ++ [⟨number, offset, offset⟩] } }, ok (put3 offset))

/-- PRINT_MESSAGE (R111). -/
def execPrintMessage (body : List Byte) (s : State) : Host.Outcome State Fault Refusal :=
  .next (accept 0x40#8 (decide (body.length = 5)) body (actPrintMessage body) s)

/-- The catch-up message that a restart calls for: that of the first tagged entry emptied, or left incomplete by the jam, whose
message stands in the directory; else the tracked message with text unprinted (R109, R116; log 17). -/
def State.restartMessage (s : State) : Option Nat :=
  match (s.pr.jamTags ++ s.pr.queue.filterMap fun e => e.tag.map Tag.number).find? fun n => (s.store.live? n).isSome with
  | some n => some n
  | none => s.pr.tracked.filter fun n => s.store.unprinted n

/-- A jammed printer restarts (R116). -/
def restartPrinter (s : State) : State :=
  let m := s.restartMessage
  let s1 := { s with pr := { s.pr with queue := [], jamTags := [] }.lostJoin }
  let s2 := if m.isSome then enterCatchUp m s1 else s1
  if s.pr.paper then offComparison { s2 with pr := { s2.pr with state := .off } } else enterPaperOut s2

/-- The act of PRINTER-RESTART (R116). -/
def actPrinterRestart (s : State) : State × Answer :=
  if s.pr.state = .jammed then (restartPrinter s, ok []) else (s, plainAnswer .wrongState)

/-- PRINTER_RESTART (R116). -/
def execPrinterRestart (body : List Byte) (s : State) : Host.Outcome State Fault Refusal :=
  .next (accept 0x41#8 (noBody body) body actPrinterRestart s)

/-! ### The punch (R125, R133 to R135) -/

/-- A count field of PUNCH-MESSAGE: a flag byte, 1 for DEFAULT and 0 for a number, and the count (10 section 10.4); another flag
is a field at fault (log 47). -/
def countField? (dflt : Nat) (body : List Byte) (i : Nat) : Option Nat :=
  match field1 body i with
  | 0 => some (field1 body (i + 1))
  | 1 => some dflt
  | _ => none

/-- A punch job joins the chain (R125). -/
def joinChain (j : PunchJob) (s : State) : State :=
  punchSettle { s with
    pu := { s.pu with chain := s.pu.chain ++ [j] }
    store := s.store.modify j.number fun e => { e with punchNamed := true } }

/-- The act of PUNCH-MESSAGE (R125); a flag of a count other than 0 and 1 is BAD-VALUE before the other tests (log 47). -/
def actPunchMessage (body : List Byte) (s : State) : State × Answer :=
  let number := field2 body 0
  if number = 0 then (s, badValue 0)
  else
    match countField? s.pu.defLeader body 5, countField? s.pu.defTrailer body 7 with
    | none, _ => (s, badValue 5)
    | some _, none => (s, badValue 7)
    | some l, some t =>
      match s.store.live? number with
      | none => (s, plainAnswer .noSuchMessage)
      | some e =>
        if e.state = .open then (s, plainAnswer .wrongState)
        else if Config.punchChainCapacity ≤ s.pu.chain.length then (s, plainAnswer .full)
        else
          let offset := min e.length (field3 body 2)
          (joinChain ⟨number, offset, l, t, false, offset, offset⟩ s, ok (put3 offset ++ put1 l ++ put1 t))

/-- PUNCH_MESSAGE (R125). -/
def execPunchMessage (body : List Byte) (s : State) : Host.Outcome State Fault Refusal :=
  .next (accept 0x42#8 (decide (body.length = 9)) body (actPunchMessage body) s)

/-- A PUNCH-CONTROL row of the table takes the request when its action is the row's own, or when the action is none of the
three or the length does not fit, which every row refuses alike (R133; log 32). -/
def acceptControl (action : Nat) (body : List Byte) (act : State → State × Answer) (s : State) : State :=
  if body.length = 2 ∧ field1 body 0 ≠ action ∧ field1 body 0 ≤ 2 then s
  else
    accept 0x43#8 (decide (body.length = 2)) body
      (fun s => if 2 < field1 body 0 then (s, badValue 0) else act s) s

/-- CONTINUE (R133). -/
def actContinue (s : State) : State × Answer :=
  if s.pu.state = .tapeLowHold ∧ s.pu.tapeLow = false then
    (punchSettle { s with pu := { s.pu with state := .ready, shift := .unknown } }, ok [])
  else (s, plainAnswer .wrongState)

/-- PUNCH_CONTROL_CONTINUE (R133). -/
def execPunchControlContinue (body : List Byte) (s : State) : Host.Outcome State Fault Refusal :=
  .next (acceptControl 0 body actContinue s)

/-- CANCEL (R134): a cycle in progress goes on, and completes its character for the punch cursor alone. -/
def cancelPunch (s : State) : State :=
  let names := s.pu.chain.map PunchJob.number
  let s1 := givenUp names
    { s with
      pu := { s.pu with
        queue := [], held := none, chain := [], stage := .none, shift := .unknown
        cycle := s.pu.cycle.map fun c => { c with cancelled := true } }
      store := s.store.abandon .punch }
  if s1.pu.cycle.isSome ∨ s1.pu.state = .tapeLowHold then s1
  else if s1.pu.holdPending then enterTapeHold s1
  else { s1 with pu := { s1.pu with state := .off } }

/-- PUNCH_CONTROL_CANCEL (R134). -/
def execPunchControlCancel (body : List Byte) (s : State) : Host.Outcome State Fault Refusal :=
  .next (acceptControl 1 body (fun s => (cancelPunch s, ok [])) s)

/-- FEED (R135). -/
def actFeed (n : Nat) (s : State) : State × Answer :=
  if s.pu.chain ≠ [] ∨ s.pu.state = .tapeLowHold ∨ s.pu.holdPending then (s, plainAnswer .wrongState)
  else if n = 0 then (s, ok [])
  else if Config.punchQueueCapacity ≤ s.pu.queue.length then (s, plainAnswer .full)
  else (punchSettle { s with pu := { s.pu with queue := s.pu.queue ++ [.blank n] } }, ok [])

/-- PUNCH_CONTROL_FEED (R135). -/
def execPunchControlFeed (body : List Byte) (s : State) : Host.Outcome State Fault Refusal :=
  .next (acceptControl 2 body (actFeed (field1 body 1)) s)

/-! ### STATUS and FETCH_REPORT (R187, R189) -/

/-- RECEIVING (R38). -/
def Receiver.receiving (r : Receiver) : Bool := decide (r.state = .startCheck) || decide (r.state = .assemble)

/-- The STATUS record (10 section 10.6). -/
def State.statusRecord (s : State) : List Byte :=
  put1 s.call.state.number ++ put1 s.call.mode.number ++ put1 (orNone (s.call.callMode.map Mode.number))
    ++ put1 (bit s.call.configured) ++ put1 (orNone (s.call.rate.map Rate.index))
    ++ put1 (orNone (s.call.outcome.map AgreeOutcome.number))
    ++ put1 s.latches.byte ++ put1 (bit s.rx.loopCurrent + 2 * bit s.rx.receiving) ++ put2 s.rx.q ++ put2 s.rx.n
    ++ put1 s.agr.ceiling.index ++ put1 s.agr.cfgMax.index
    ++ put1 s.pr.state.number ++ put1 s.pr.mode.number ++ put1 (bit s.pr.unavailable) ++ put1 s.pr.queue.length
    ++ put1 s.pr.jobs.length ++ put1 s.pr.column
    ++ put1 s.pu.state.number ++ put1 s.pu.queue.length ++ put1 s.pu.chain.length ++ put1 (bit s.pu.holdPending)
    ++ put1 s.kb.buffer.length
    ++ put3 s.store.free ++ put1 s.store.dir.length ++ put1 (bit s.store.memInit)
    ++ put1 s.link.reports.length ++ put1 s.link.mode.number

/-- The act of STATUS: every latch reported as set is cleared (R37, R189). -/
def actStatus (s : State) : State × Answer := ({ s with latches := Latches.reset }, ok s.statusRecord)

/-- STATUS (R189). -/
def execStatus (body : List Byte) (s : State) : Host.Outcome State Fault Refusal :=
  .next (accept 0x50#8 (noBody body) body actStatus s)

/-- The act of FETCH-REPORT (R187). -/
def actFetchReport (s : State) : State × Answer :=
  match headReport? s.link.reports with
  | none => (s, ok [])
  | some r => ({ s with link := { s.link with reports := dropHead r s.link.reports } }, ok (r.kind :: r.content))

/-- FETCH_REPORT (R187). -/
def execFetchReport (body : List Byte) (s : State) : Host.Outcome State Fault Refusal :=
  .next (accept 0x51#8 (noBody body) body actFetchReport s)

end Sys2Proof.Machine
end

