-- ==== Sys2Proof/Machine/Dram.lean ====
section
/-! DEFINITION. The DRAM controller and its arbiter, the claims on the write queue, and the meanings of the store's events
(R161 to R169, R176). -/

namespace Sys2Proof.Machine

/-! ### Cells and banks (R161, R162) -/

/-- The bank of a cell (R161). -/
def cellBank (c : Nat) : Fin 4 := ⟨c / 32 % 4, Nat.mod_lt _ (by decide)⟩

/-- The row of a cell (R161). -/
def cellRow (c : Nat) : Nat := c / 32 / 4

/-- The first column of a cell (R161). -/
def cellColumn (c : Nat) : Nat := c % 32 * 8

/-- Cycles to bring a cell's row open (R162). -/
def Store.openCycles (st : Store) (c : Nat) : Nat :=
  match st.banks[cellBank c] with
  | .open row => if row = cellRow c then 0 else 2
  | _ => 1

/-- A bank is OPEN. -/
def Bank.isOpen : Bank → Bool
  | .open _ => true
  | _ => false

/-- The duration of an access in fast-oscillator cycles (R162). -/
def Store.cycles (st : Store) : Work → Nat
  | .refresh => 3 + bit (st.banks.any Bank.isOpen)
  | .write w => st.openCycles w.target + 9
  | .read _ c _ => st.openCycles c + 10

/-- The cell's bank is left OPEN with the cell's row (R162). -/
def Store.leaveOpen (c : Nat) (st : Store) : Store := { st with banks := st.banks.set (cellBank c) (.open (cellRow c)) }

/-! ### The arbiter (R166) -/

/-- The cell that an outstanding read asks for. -/
def Store.readCell? (st : Store) (number pos : Nat) : Option Nat := (st.entry? number).map fun e => bodyCell e.header pos

/-- An outstanding read as an access. -/
def Store.readWork? (st : Store) (r : Reader) (x : Option Read) : Option Work :=
  (x.bind fun q => st.readCell? q.number q.pos).map fun c => .read r c true

/-- The next cell of the READ-MESSAGE being served. -/
def Store.hostWork? (st : Store) : Option Work :=
  (st.hostRead.bind fun h => st.readCell? h.number (h.offset + h.got.length)).map fun c => .read .host c true

/-- The write of the write-queue head, when the queue holds at least `n` cells. -/
def Store.writeWork? (st : Store) (n : Nat) : Option Work := if n ≤ st.queue.length then st.queue.head?.map Work.write else none

/-- A refresh, when at least `n` are owed. -/
def Store.refreshWork? (st : Store) (n : Nat) : Option Work := if n ≤ st.debt then some .refresh else none

/-- The first waiting access in the arbiter's order (R166). -/
def Store.firstWaiting? (st : Store) : Option Work :=
  [st.refreshWork? Config.debtLimit, st.writeWork? 3, st.readWork? .playback st.playRead, st.readWork? .printer st.printRead,
    st.readWork? .punch st.punchRead, st.hostWork?, st.writeWork? 1, st.refreshWork? 1].findSome? id

/-- The cell of an access exists in the device (R161). -/
def Work.inDevice : Work → Bool
  | .refresh => true
  | .write w => decide (w.target < Config.cells)
  | .read _ c _ => decide (c < Config.cells)

/-- The arbiter may grant: no access in progress, MEMORY-INIT over, the DRAM out of self-refresh, which the whole wake keeps it in
(R164 to R166; log 67). -/
def Store.mayGrant (st : Store) : Bool := st.access.isNone && !st.memInit && !st.selfRefresh

/-- DRAM_GRANT (R166). -/
def execDramGrant (s : State) : Host.Outcome State Fault Refusal :=
  if s.store.mayGrant then
    match s.store.firstWaiting? with
    | none => .next s
    | some w =>
      if w.inDevice then .next { s with store := { s.store with access := some ⟨w, s.store.cycles w⟩ } }
      else .fault .noSuchCell
  else .next s

/-! ### The end of an access (R162, R176, R177) -/

/-- The characters of a message's cell from a position, as they stand now. -/
def State.servedChars (s : State) (number pos : Nat) : List StationCode :=
  match s.store.entry? number with
  | none => []
  | some e => s.store.cellChars s.mem e pos e.length

/-- The reader of a granted read is served (R176, R177). -/
def serveReader (r : Reader) (s : State) : State :=
  match r with
  | .playback =>
    match s.store.playRead with
    | none => s
    | some q => { s with
        store := s.store.setRead .playback none
        call := { s.call with play := { s.call.play with buf := s.servedChars q.number q.pos } } }
  | .printer =>
    match s.store.printRead with
    | none => s
    | some q => { s with
        store := s.store.setRead .printer none
        pr := { s.pr with buf := s.servedChars q.number q.pos, bufPos := q.pos } }
  | .punch =>
    match s.store.punchRead with
    | none => s
    | some q => punchSettle { s with
        store := s.store.setRead .punch none
        pu := s.pu.served (s.servedChars q.number q.pos) }
  | .host =>
    match s.store.hostRead with
    | none => s
    | some h =>
      match s.store.entry? h.number with
      | none => s
      | some e =>
        hostContinue { h with got := h.got ++ s.store.cellChars s.mem e (h.offset + h.got.length) (h.offset + h.count) } s

/-- What the end of an access leaves (R162); a read is served here, and its text taken as it stands here (log 63). -/
def completeAccess (w : Work) (s : State) : State :=
  let st := { s.store with access := none }
  match w with
  | .refresh => { s with store := { st with banks := Vector.replicate 4 .closed, debt := st.debt - 1 } }
  | .write x => { s with
      store := { st.leaveOpen x.target with queue := st.queue.tail }
      mem := Memory.writeBytes s.mem (x.target * 8) x.bytes }
  | .read r c live =>
    let s1 := { s with store := st.leaveOpen c }
    if live then serveReader r s1 else s1

/-- DRAM_ACCESS_COMPLETE (R162). -/
def execDramAccessComplete (s : State) : Host.Outcome State Fault Refusal :=
  match s.store.access with
  | none => .next s
  | some a => if a.work.inDevice then .next (completeAccess a.work s) else .fault .noSuchCell

/-! ### The refresh timer and MEMORY-INIT (R163, R164) -/

/-- REFRESH_TIMER (R163): in STANDBY, its wake included, the timer stands (R165; log 67). -/
def execRefreshTimer (s : State) : Host.Outcome State Fault Refusal :=
  if s.store.memInit ∨ s.call.state = .standby then .next s
  else .next { s with store := { s.store with debt := min Config.debtLimit (s.store.debt + 1) } }

/-- MEMORY_INIT_COMPLETE (R164). -/
def execMemoryInitComplete (s : State) : Host.Outcome State Fault Refusal :=
  if s.store.memInit then
    .next { s with store := { s.store with memInit := false, banks := Vector.replicate 4 .closed, debt := 0 } }
  else .next s

/-! ### Claims on the write queue (R168, R169, R174) -/

/-- The oldest entry whose header rewrite waits. -/
def Store.dueHeader? (st : Store) : Option Entry := st.dir.find? Entry.headerDue

/-- A header rewrite joins the write queue with the entry's content (R174). -/
def Store.joinHeader (e : Entry) (st : Store) : Store :=
  (st.push ⟨e.header, e.headerBytes⟩).modify e.number fun x => { x with headerDue := false }

/-- A free place goes to the first claim (R169). -/
def Store.claim (st : Store) : Store :=
  if st.queue.length < Config.writeQueueCapacity then
    if st.inCell.state = .waiting then { st.push st.inCell.write with inCell := Asm.empty }
    else if st.outCell.state = .waiting then { st.push st.outCell.write with outCell := Asm.empty }
    else
      match st.dueHeader? with
      | some e => st.joinHeader e
      | none => st
  else st

/-- WRITE_QUEUE_CLAIM (R169). -/
def execWriteQueueClaim (s : State) : Host.Outcome State Fault Refusal := .next { s with store := s.store.claim }

/-- A FILLING cell with the changed mark set. -/
def Asm.writable (a : Asm) : Bool := decide (a.state = .filling) && a.changed

/-- Nothing else waits for a place (R168, R169). -/
def Store.writeThroughFree (st : Store) : Bool :=
  st.queue.isEmpty && st.dueHeader?.isNone && decide (st.inCell.state ≠ .waiting) && decide (st.outCell.state ≠ .waiting)

/-- A copy of a changed FILLING cell joins the queue, the IN cell's first (R168, R169). -/
def Store.copyThrough (st : Store) : Store :=
  if st.writeThroughFree then
    if st.inCell.writable then { st.push st.inCell.write with inCell := { st.inCell with changed := false } }
    else if st.outCell.writable then { st.push st.outCell.write with outCell := { st.outCell with changed := false } }
    else st
  else st

/-- WRITE_THROUGH (R168). -/
def execWriteThrough (s : State) : Host.Outcome State Fault Refusal := .next { s with store := s.store.copyThrough }

end Sys2Proof.Machine
end

