-- ==== Sys2Proof/Machine/Reset.lean ====
section
/-! DEFINITION. Power-on and the soft reset (R160, R190 and the reset summary of each chapter), with the meanings of POWER_ON
and RESET_STATION. -/

namespace Sys2Proof.Machine

/-- The part at power-on; the outside keeps driving the pins and sending commands (log 29). -/
def powerOn (s : State) : State := { State.reset with pins := s.pins, pending := s.pending, freeCount := s.freeCount }

/-- POWER_ON (R160). -/
def execPowerOn (s : State) : Host.Outcome State Fault Refusal := .next (powerOn s)

/-! ### Soft reset, block by block -/

/-- The code converter (01 section 1.8, R52). -/
def Converter.softReset (cv : Converter) : Converter :=
  { cv with rxPlane := .letters, txPlane := .unknown, m := 0, held := none }

/-- The line receiver (02 section 2.9). -/
def Receiver.softReset (r : Receiver) : Receiver := r.connect.toHunt

/-- The line transmitter (R52). -/
def Transmitter.softReset (t : Transmitter) : Transmitter :=
  { t.cancelDuty with rate := .r50, front := none, next := none, txd := .mark, signal := .none }

/-- The rate agreement unit (R61, R62). -/
def Agreement.softReset (a : Agreement) : Agreement := { Agreement.reset with ceiling := a.ceiling, cfgMax := a.cfgMax }

/-- The keyboard unit (05 section 5.10). -/
def Keyboard.softReset (k : Keyboard) : Keyboard := { k.startAfresh with buffer := [] }

/-- The printer unit (R119). -/
def Printer.softReset (p : Printer) : Printer :=
  { p with
    state := if p.paper then .off else .paperOut
    motorOn := false, mode := .direct, catchUp := none, tracked := none, unavailable := false, startPending := false
    queue := [], lostPending := false, jobs := [], jobRun := .notStarted, columnKnown := false
    cycle := none, ret := none, feed := none, waiting := none, buf := [], hammer := false, bell := false
    motorFailed := false, offTicks := 0, jamTags := [] }

/-- The punch unit (R137). -/
def Punch.softReset (p : Punch) : Punch :=
  { p with
    state := .off, queue := [], chain := [], stage := .none, shift := .unknown, held := none, cycle := none
    holdPending := false, tapeLow := false }

/-- The call controller (R160); an entry to STANDBY that waits for its reply is given up (log 62). -/
def CallCtl.softReset (c : CallCtl) : CallCtl :=
  { c with
    state := .idle, loopClose := false, callMode := none, ringCount := 0, lockout := false, quiet := 0
    attendedWait := false, answerWait := none, loopTimer := none, idleTimer := none
    standbyTimer := timerOf c.standbyAfter, rate := none, outcome := none, partnerQuality := none, reached := false
    lossCount := 0, waking := false, standbyPending := false, play := { Play.reset with run := c.play.run } }

/-- Every read is abandoned (R181). -/
def Store.abandonAll (st : Store) : Store := (((st.abandon .playback).abandon .printer).abandon .punch).abandon .host

/-- Messages that a soft reset flags PRINT-INCOMPLETE when their print cursor is below their length (R117). -/
def Printer.resetNames (p : Printer) : List Nat :=
  p.tracked.toList ++ p.catchUp.toList ++ p.queue.filterMap fun e => e.tag.map Tag.number

/-- PRINT-INCOMPLETE is set on those of them with text unprinted (R117). -/
def Store.flagUnprinted : List Nat → Store → Store
  | [], st => st
  | n :: rest, st =>
    Store.flagUnprinted rest (if st.unprinted n then st.setFlags n MsgFlags.justPrintIncomplete else st)

/-- The names of R178 that the blocks hold. -/
def State.names (s : State) : List Nat :=
  s.pr.jobs.map PrintJob.number ++ s.pu.chain.map PunchJob.number ++ s.pr.catchUp.toList ++ [s.call.play.number]

/-- Every block acts on the soft reset (R190, steps 2 and 3): the flags of R117 and the closes first, then the blocks, then
the report queue is emptied. No report that the reset raises begins to be sent. -/
def softReset (s : State) : State :=
  let s1 := { s with store := s.store.flagUnprinted s.pr.resetNames, link := { s.link with mode := .pull } }
  let s2 := closeOpen .out MsgFlags.justTruncated (closeOpen .in MsgFlags.justTruncated s1)
  let s3 := givenUp s2.names
    { s2 with
      conv := s2.conv.softReset, rx := s2.rx.softReset, latches := Latches.reset, tx := s2.tx.softReset
      agr := s2.agr.softReset, router := { s2.router with linkText := [] }, kb := s2.kb.softReset, pr := s2.pr.softReset
      pu := s2.pu.softReset, call := s2.call.softReset, store := s2.store.abandonAll }
  { s3 with link := { s3.link with reports := [], mode := s.link.mode }, latches := Latches.reset }

/-- The act of RESET-STATION (R190). -/
def actResetStation (s : State) : State × Answer := (softReset s, ok [])

/-- A READ-MESSAGE that waits on the store is answered BUSY (R177, R190), and the message it held back is tested for release (R179;
log 34). -/
def abortRead (s : State) : State :=
  givenUp (nameOf (s.store.hostRead.map HostRead.number))
    (reply 0x33#8 (plainAnswer .busy) { s with store := { s.store.abandon .host with hostRead := none } })

/-- The state in which RESET-STATION stands right behind the READ-MESSAGE being served: held, or arriving now (R184). -/
def State.resetBehindRead? (s : State) : Option State :=
  match s.link.holding with
  | [f] =>
    if s.link.rx = .hunt then some { s with link := { s.link with holding := [f, ⟨0x52#8, []⟩] } } else none
  | _ :: g :: _ => if g = ⟨0x52#8, []⟩ then some s else none
  | [] => none

/-- RESET-STATION is taken: at once behind a READ-MESSAGE that waits on the store (R184, R190; log 42). -/
def acceptReset (body : List Byte) (s : State) : State :=
  if s.store.hostRead.isNone then accept 0x52#8 (noBody body) body actResetStation s
  else if noBody body && !s.link.replies.any OutFrame.isReply && decide (s.link.rx ≠ .stopped) then
    match s.resetBehindRead? with
    | none => s
    | some s0 => reply 0x52#8 (ok []) (softReset (abortRead s0))
  else s

/-- RESET_STATION (R190). -/
def execResetStation (body : List Byte) (s : State) : Host.Outcome State Fault Refusal := .next (acceptReset body s)

end Sys2Proof.Machine
end

