-- ==== Sys2Proof/Machine/Dispatch.lean ====
section
/-! DEFINITION. The dispatch of commands: one arm for each command, each a call of its meaning. -/

namespace Sys2Proof.Machine

/-- The effect of a command on everything but the queue. -/
def exec (i : Instr) (s : State) : Host.Outcome State Fault Refusal :=
  match i with
  | .powerOn => Sys2Proof.Machine.execPowerOn s
  | .setStation body => Sys2Proof.Machine.execSetStation body s
  | .setLine body => Sys2Proof.Machine.execSetLine body s
  | .loadCodeTable body => Sys2Proof.Machine.execLoadCodeTable body s
  | .loadKeymap body => Sys2Proof.Machine.execLoadKeymap body s
  | .setAnswerback body => Sys2Proof.Machine.execSetAnswerback body s
  | .setEom body => Sys2Proof.Machine.execSetEom body s
  | .setRoutes body => Sys2Proof.Machine.execSetRoutes body s
  | .setPrinter body => Sys2Proof.Machine.execSetPrinter body s
  | .setPunch body => Sys2Proof.Machine.execSetPunch body s
  | .answer body => Sys2Proof.Machine.execAnswer body s
  | .call body => Sys2Proof.Machine.execCall body s
  | .clear body => Sys2Proof.Machine.execClear body s
  | .sendBreak body => Sys2Proof.Machine.execSendBreak body s
  | .sendAnswerback body => Sys2Proof.Machine.execSendAnswerback body s
  | .standby body => Sys2Proof.Machine.execStandby body s
  | .linkText body => Sys2Proof.Machine.execLinkText body s
  | .playback body => Sys2Proof.Machine.execPlayback body s
  | .playbackResume body => Sys2Proof.Machine.execPlaybackResume body s
  | .playbackCancel body => Sys2Proof.Machine.execPlaybackCancel body s
  | .storeOpen body => Sys2Proof.Machine.execStoreOpen body s
  | .storeAppend body => Sys2Proof.Machine.execStoreAppend body s
  | .storeClose body => Sys2Proof.Machine.execStoreClose body s
  | .readMessage body => Sys2Proof.Machine.execReadMessage body s
  | .release body => Sys2Proof.Machine.execRelease body s
  | .listDirectory body => Sys2Proof.Machine.execListDirectory body s
  | .printMessage body => Sys2Proof.Machine.execPrintMessage body s
  | .printerRestart body => Sys2Proof.Machine.execPrinterRestart body s
  | .punchMessage body => Sys2Proof.Machine.execPunchMessage body s
  | .punchControlContinue body => Sys2Proof.Machine.execPunchControlContinue body s
  | .punchControlCancel body => Sys2Proof.Machine.execPunchControlCancel body s
  | .punchControlFeed body => Sys2Proof.Machine.execPunchControlFeed body s
  | .status body => Sys2Proof.Machine.execStatus body s
  | .fetchReport body => Sys2Proof.Machine.execFetchReport body s
  | .resetStation body => Sys2Proof.Machine.execResetStation body s
  | .frameReceived check => Sys2Proof.Machine.execFrameReceived check s
  | .frameAbandoned => Sys2Proof.Machine.execFrameAbandoned s
  | .linkFrameSent => Sys2Proof.Machine.execLinkFrameSent s
  | .characterReceived => Sys2Proof.Machine.execCharacterReceived s
  | .breakThreshold => Sys2Proof.Machine.execBreakThreshold s
  | .clearThreshold => Sys2Proof.Machine.execClearThreshold s
  | .loopCurrentLost => Sys2Proof.Machine.execLoopCurrentLost s
  | .ringAsserted => Sys2Proof.Machine.execRingAsserted s
  | .ringAbsent => Sys2Proof.Machine.execRingAbsent s
  | .ringQualified => Sys2Proof.Machine.execRingQualified s
  | .ringLockoutClear => Sys2Proof.Machine.execRingLockoutClear s
  | .answerWaitExpiry => Sys2Proof.Machine.execAnswerWaitExpiry s
  | .loopCurrentPresent => Sys2Proof.Machine.execLoopCurrentPresent s
  | .loopTimerExpiry => Sys2Proof.Machine.execLoopTimerExpiry s
  | .agreementTimer3s => Sys2Proof.Machine.execAgreementTimer3s s
  | .agreementTimer7s => Sys2Proof.Machine.execAgreementTimer7s s
  | .idleClearExpiry => Sys2Proof.Machine.execIdleClearExpiry s
  | .standbyAfterExpiry => Sys2Proof.Machine.execStandbyAfterExpiry s
  | .breakSignalEnd => Sys2Proof.Machine.execBreakSignalEnd s
  | .clearSignalComplete => Sys2Proof.Machine.execClearSignalComplete s
  | .clearingLossCount => Sys2Proof.Machine.execClearingLossCount s
  | .sentPoint => Sys2Proof.Machine.execSentPoint s
  | .frontStopEnd => Sys2Proof.Machine.execFrontStopEnd s
  | .arbiterFill => Sys2Proof.Machine.execArbiterFill s
  | .holdingSourceTake source => Sys2Proof.Machine.execHoldingSourceTake source s
  | .lostMarkJoin => Sys2Proof.Machine.execLostMarkJoin s
  | .keyDown keys => Sys2Proof.Machine.execKeyDown keys s
  | .keyUp keys => Sys2Proof.Machine.execKeyUp keys s
  | .repeatTimerExpiry => Sys2Proof.Machine.execRepeatTimerExpiry s
  | .freshStartScan down => Sys2Proof.Machine.execFreshStartScan down s
  | .wakeEvent cause => Sys2Proof.Machine.execWakeEvent cause s
  | .wakeComplete => Sys2Proof.Machine.execWakeComplete s
  | .motorStart => Sys2Proof.Machine.execMotorStart s
  | .motorReady => Sys2Proof.Machine.execMotorReady s
  | .motorStartTimeout => Sys2Proof.Machine.execMotorStartTimeout s
  | .motorReadyDrop => Sys2Proof.Machine.execMotorReadyDrop s
  | .motorOffTimerExpiry => Sys2Proof.Machine.execMotorOffTimerExpiry s
  | .printerTake => Sys2Proof.Machine.execPrinterTake s
  | .printCycleEnd => Sys2Proof.Machine.execPrintCycleEnd s
  | .encoderPulse => Sys2Proof.Machine.execEncoderPulse s
  | .stepTimeout => Sys2Proof.Machine.execStepTimeout s
  | .returnComplete => Sys2Proof.Machine.execReturnComplete s
  | .returnTimeout => Sys2Proof.Machine.execReturnTimeout s
  | .lineFeedComplete => Sys2Proof.Machine.execLineFeedComplete s
  | .bellPulseEnd => Sys2Proof.Machine.execBellPulseEnd s
  | .paperOut => Sys2Proof.Machine.execPaperOut s
  | .paperBack => Sys2Proof.Machine.execPaperBack s
  | .punchTakeEntry => Sys2Proof.Machine.execPunchTakeEntry s
  | .punchCycleEnd => Sys2Proof.Machine.execPunchCycleEnd s
  | .punchJobStart => Sys2Proof.Machine.execPunchJobStart s
  | .tapeLowAsserted => Sys2Proof.Machine.execTapeLowAsserted s
  | .tapeLowClear => Sys2Proof.Machine.execTapeLowClear s
  | .refreshTimer => Sys2Proof.Machine.execRefreshTimer s
  | .memoryInitComplete => Sys2Proof.Machine.execMemoryInitComplete s
  | .dramGrant => Sys2Proof.Machine.execDramGrant s
  | .dramAccessComplete => Sys2Proof.Machine.execDramAccessComplete s
  | .writeQueueClaim => Sys2Proof.Machine.execWriteQueueClaim s
  | .writeThrough => Sys2Proof.Machine.execWriteThrough s
  | .filteredTransition date s1 s2 s3 => Sys2Proof.Machine.execFilteredTransition date s1 s2 s3 s
  | .startUnitCheck => Sys2Proof.Machine.execStartUnitCheck s
  | .linkByteReceived byte => Sys2Proof.Machine.execLinkByteReceived byte s
  | .rightwardStep => Sys2Proof.Machine.execRightwardStep s

end Sys2Proof.Machine
end

