-- ==== Sys2Proof/Machine/Tick.lean ====
section
/-! DEFINITION. One supervision tick, in the order that the model fixes (00 section 3; log 2). -/

namespace Sys2Proof.Machine

/-- A timer counts down one tick: what is left of it, and whether it expires. -/
def countDown : Option Nat → Option Nat × Bool
  | none => (none, false)
  | some n => if n ≤ 1 then (none, true) else (some (n - 1), false)

/-- The receiver's space count at a tick with loop current present (R32). -/
def Receiver.countSpace (r : Receiver) : Receiver :=
  match r.level with
  | .space => { r with lossCount := 0, spaceCount := min 255 (r.spaceCount + 1) }
  | .mark => { r with lossCount := 0 }

/-- A threshold acts at a tick with its mark ready and the count at or above its setting (R32). -/
def breakTick (s : State) : State :=
  if s.rx.level = .space ∧ s.rx.breakReady ∧ s.rx.brk ≤ s.rx.spaceCount then breakThreshold s else s

/-- The clear threshold likewise (R34). -/
def clearTick (s : State) : State :=
  if s.rx.level = .space ∧ s.rx.clearReady ∧ s.rx.clr ≤ s.rx.spaceCount then clearThreshold s else s

/-- The line conditions at a tick in AGREEING or CONNECTED (R32 to R35). -/
def lineTick (s : State) : State :=
  if s.pins.loopSense then clearTick (breakTick { s with rx := s.rx.countSpace })
  else if s.rx.lossCount + 1 < Config.lossTicks then { s with rx := { s.rx with lossCount := s.rx.lossCount + 1 } }
  else loopLost s

/-- The agreement timer at a tick (R60). -/
def agreementTick (s : State) : State :=
  let s1 := { s with agr := { s.agr with timer := s.agr.timer + 1 } }
  if s1.agr.timer = Config.agreementShortTicks ∧ s1.agr.offerSeen = false then fallBack .plain s1
  else if s1.agr.timer = Config.agreementLongTicks ∧ s1.agr.rxSwitched = false then fallBack .fault s1
  else s1

/-- The idle-clear timer at a tick (R151). -/
def idleClearTick (s : State) : State :=
  let t := countDown s.call.idleTimer
  if t.2 then enterClearing .idleTimeout s else { s with call := { s.call with idleTimer := t.1 } }

/-- The answer-wait timer at a tick (R143). -/
def answerWaitTick (s : State) : State :=
  let t := countDown s.call.answerWait
  if t.2 then refuseRing .notAnswered s else { s with call := { s.call with answerWait := t.1 } }

/-- The loop at a tick: loop current connects, else the loop timer runs (R145). -/
def loopTick (s : State) : State :=
  if s.pins.loopSense then connect s
  else
    let t := countDown s.call.loopTimer
    if t.2 then enterClearing .noLoop s else { s with call := { s.call with loopTimer := t.1 } }

/-- The standby-after timer at a tick (R157). -/
def standbyTick (s : State) : State :=
  let t := countDown s.call.standbyTimer
  if t.2 then standbyExpiry s else { s with call := { s.call with standbyTimer := t.1 } }

/-- The loss count of CLEARING at a tick (R154). -/
def clearingTick (s : State) : State :=
  if s.pins.loopSense then { s with call := { s.call with lossCount := 0 } }
  else if s.call.lossCount + 1 < Config.lossTicks then { s with call := { s.call with lossCount := s.call.lossCount + 1 } }
  else callEnd s

/-- The signal in progress at a tick (R48, R51). -/
def signalTick (s : State) : State :=
  match s.tx.signal with
  | .none => s
  | .brk n => if n + 1 < Config.breakTicks then { s with tx := { s.tx with signal := .brk (n + 1) } } else endBreak s
  | .clr n => if n + 1 < Config.clearTicks then { s with tx := { s.tx with signal := .clr (n + 1) } } else callEnd s

/-- A part of the tick that belongs to a call state acts while the call is still in it. -/
def whileIn (st : CallState) (f : State → State) (s : State) : State := if s.call.state = st then f s else s

/-- What a tick does in the call state it finds. -/
def callTick (s : State) : State :=
  match s.call.state with
  | .agreeing => whileIn .agreeing agreementTick (lineTick s)
  | .connected => whileIn .connected idleClearTick (lineTick s)
  | .ringCheck => if s.call.attendedWait then answerWaitTick s else s
  | .answering => loopTick s
  | .originating => loopTick s
  | .idle => standbyTick s
  | .clearing => clearingTick s
  | .starting => s
  | .standby => s

/-- The fast oscillator's cycles pass for the character on the line, the print cycle and the punch cycle, each to its next unit,
hammer or magnet change at the latest, HOME is read in a return, and the motor-off timer counts; in STANDBY the oscillator
stands (R39, R98, R101, R103, R121; log 21, log 57, log 68). -/
def passCycles (s : State) : State :=
  if s.call.state = .standby then s
  else motorOffTick (homeTick { s with tx := s.tx.advance, pr := s.pr.advance, pu := s.pu.advance })

/-- One supervision tick: the outputs, HOME in a return, WAKE, LOOPSENSE at the level last told (log 65), the signal in
progress, the counts and timers of the call state that the tick found, RING (log 2). A state entered within the tick counts
from the next one on. -/
def tick (s : State) : State :=
  ringTick s.pins.ring (whileIn s.call.state callTick
    (signalTick { wakeTick (passCycles s) with rx := { s.rx with loopCurrent := s.pins.loopSense } }))

end Sys2Proof.Machine
end

