-- ==== Sys2Proof/Safety.lean ====
section
/-! DEFINITION. The words that statements about the part are written in: when a request can be taken, which bodies fit a
request, what a matcher count stands for, and the invariants of the state. -/

namespace Sys2Proof.Machine

/-! ### Requests -/

/-- A request with a body can be taken in `s`, and `s0` is `s` with its frame at the head of the input holding: the frame is
held there, or it arrives now and the request is taken at once (R184; log 4). -/
def State.asked (s : State) (kind : Byte) (body : List Byte) (s0 : State) : Prop :=
  s.linkFree = true ∧ s.takes? kind body = some s0

/-- The KIND and the body of a request (10 section 10.4). -/
def request? : Instr → Option (Byte × List Byte)
  | .setStation b => some (0x01#8, b)
  | .setLine b => some (0x02#8, b)
  | .loadCodeTable b => some (0x03#8, b)
  | .loadKeymap b => some (0x04#8, b)
  | .setAnswerback b => some (0x05#8, b)
  | .setEom b => some (0x06#8, b)
  | .setRoutes b => some (0x07#8, b)
  | .setPrinter b => some (0x08#8, b)
  | .setPunch b => some (0x09#8, b)
  | .answer b => some (0x10#8, b)
  | .call b => some (0x11#8, b)
  | .clear b => some (0x12#8, b)
  | .sendBreak b => some (0x13#8, b)
  | .sendAnswerback b => some (0x14#8, b)
  | .standby b => some (0x15#8, b)
  | .linkText b => some (0x20#8, b)
  | .playback b => some (0x21#8, b)
  | .playbackResume b => some (0x22#8, b)
  | .playbackCancel b => some (0x23#8, b)
  | .storeOpen b => some (0x30#8, b)
  | .storeAppend b => some (0x31#8, b)
  | .storeClose b => some (0x32#8, b)
  | .readMessage b => some (0x33#8, b)
  | .release b => some (0x34#8, b)
  | .listDirectory b => some (0x35#8, b)
  | .printMessage b => some (0x40#8, b)
  | .printerRestart b => some (0x41#8, b)
  | .punchMessage b => some (0x42#8, b)
  | .punchControlContinue b => some (0x43#8, b)
  | .punchControlCancel b => some (0x43#8, b)
  | .punchControlFeed b => some (0x43#8, b)
  | .status b => some (0x50#8, b)
  | .fetchReport b => some (0x51#8, b)
  | .resetStation b => some (0x52#8, b)
  | _ => none

/-- Whether the length of a body fits the request's kind (10 section 10.4; LOAD-KEYMAP: log 10). -/
def lengthFits (kind : Byte) (body : List Byte) : Bool :=
  if kind = 0x01#8 then decide (body.length = 7)
  else if kind = 0x02#8 then decide (body.length = 14)
  else if kind = 0x03#8 then decide (body.length = 35)
  else if kind = 0x04#8 then keymapFits body
  else if kind = 0x05#8 then decide (body.length ≤ 20)
  else if kind = 0x06#8 then decide (body.length ≤ 8)
  else if kind = 0x07#8 then decide (body.length = 6)
  else if kind = 0x08#8 then decide (body.length = 5)
  else if kind = 0x09#8 then decide (body.length = 3)
  else if kind = 0x20#8 ∨ kind = 0x31#8 then decide (body.length ≤ 240)
  else if kind = 0x21#8 ∨ kind = 0x40#8 then decide (body.length = 5)
  else if kind = 0x33#8 then decide (body.length = 6)
  else if kind = 0x34#8 ∨ kind = 0x43#8 then decide (body.length = 2)
  else if kind = 0x35#8 then decide (body.length = 1)
  else if kind = 0x42#8 then decide (body.length = 9)
  else body.isEmpty

/-! ### The EOM matcher (R14) -/

/-- `m` is the length of the longest beginning of the sequence, shorter than the whole, that ends the text. -/
def LongestMatch (eom text : List StationCode) (m : Nat) : Prop :=
  m < eom.length ∧ eom.take m <:+ text ∧ ∀ k, k < eom.length → eom.take k <:+ text → k ≤ m

/-! ### The numbers of messages (R170) -/

/-- The number that comes `k` numbers after `n`, 1 following 65535. -/
def numberAfter (n k : Nat) : Nat := (n - 1 + k) % 65535 + 1

/-- `n` is the next number, or the first after it that no entry of the directory holds, within 65 tries. -/
def Store.firstFree (st : Store) (n : Nat) : Prop :=
  ∃ k, k ≤ 64 ∧ n = numberAfter st.nextNumber k ∧ (∀ e ∈ st.dir, e.number ≠ n)
    ∧ ∀ j, j < k → ∃ e ∈ st.dir, e.number = numberAfter st.nextNumber j

/-! ### Invariants -/

/-- The call states in which LOOP-CLOSE is asserted (R140). -/
def CallState.closesLoop : CallState → Bool
  | .answering => true
  | .originating => true
  | .agreeing => true
  | .connected => true
  | .clearing => true
  | _ => false

/-- A clear signal is being sent. -/
def Signal.isClear : Signal → Bool
  | .clr _ => true
  | _ => false

/-- LOOP-CLOSE stands as R140 says; the rate agreement unit is active only in AGREEING, the attended wait runs only in
RING-CHECK, a wake only in STANDBY, a clear signal only in CLEARING. -/
def State.callInv (s : State) : Prop :=
  s.call.loopClose = s.call.state.closesLoop
    ∧ (s.agr.active = true → s.call.state = .agreeing)
    ∧ (s.call.attendedWait = true → s.call.state = .ringCheck)
    ∧ (s.call.waking = true → s.call.state = .standby)
    ∧ (s.tx.signal.isClear = true → s.call.state = .clearing)

/-- The figures, counts and settings of the line receiver lie in their ranges (R24, R26, R29, R32, R36). -/
def Receiver.inv (r : Receiver) : Prop :=
  r.q ≤ 4096 ∧ r.n ≤ 65535 ∧ (-47 ≤ r.a ∧ r.a ≤ 47) ∧ (-6 ≤ r.s ∧ r.s ≤ 6) ∧ (-6 ≤ r.s0 ∧ r.s0 ≤ 6)
    ∧ r.spaceCount ≤ 255 ∧ r.lossCount < 4 ∧ (4 ≤ r.brk ∧ r.brk ≤ 32) ∧ (48 ≤ r.clr ∧ r.clr ≤ 255)
    ∧ (256 ≤ r.qt ∧ r.qt ≤ 4096) ∧ r.measured.length ≤ 6 ∧ ∀ m ∈ r.measured, -16 ≤ m.2 ∧ m.2 ≤ 15

/-- The report queue holds at most 24 reports, at most 12 of the counted kinds, and no two status reports of one kind; an idle
transmitter has no reply waiting (R184, R186). -/
def Link.reportsInv (l : Link) : Prop :=
  l.reports.length ≤ 24 ∧ countedReports l.reports ≤ 12 ∧ ((l.reports.filter Report.isStatus).map Report.kind).Nodup
    ∧ (l.sending = none → l.replies = [])

/-- A cell write holds at most the 8 bytes of a cell (R169). -/
def CellWrite.fits (w : CellWrite) : Prop := w.bytes.length ≤ 8

/-- The write of an access, if it is one, holds at most 8 bytes. -/
def Access.fits (a : Access) : Prop :=
  match a.work with
  | .write w => w.fits
  | _ => True

/-- The DRAM's list is in its canonical form, and nothing that is to be written is longer than a cell (R161, R168, R169). -/
def State.memInv (s : State) : Prop :=
  Memory.wf s.mem = true ∧ (∀ w ∈ s.store.queue, w.fits) ∧ (∀ a ∈ s.store.access, a.fits)
    ∧ s.store.inCell.chars.length ≤ 8 ∧ s.store.outCell.chars.length ≤ 8

/-- No cursor of an entry is beyond its length (R171). -/
def Entry.cursorsOk (e : Entry) : Prop :=
  e.print ≤ e.length ∧ e.punch ≤ e.length ∧ e.sent ≤ e.length ∧ e.delivered ≤ e.length

/-- No cursor of the directory is beyond its entry's length (R171). -/
def Store.cursorInv (st : Store) : Prop := ∀ e ∈ st.dir, e.cursorsOk

/-- The entries stand in the ring one after another from cell `h` on, and cell `t` follows the last of them (R167). -/
def laidOut (t : Nat) : Nat → List Entry → Prop
  | h, [] => h = t
  | h, e :: rest => e.header = h ∧ laidOut t ((h + e.cells) % Config.cells) rest

/-- Every cell of the ring is free or belongs to one entry, the entries stand in it from the head to the tail, and the oldest
is not RELEASED (R167, R180). -/
def Store.ringInv (st : Store) : Prop :=
  st.free + (st.dir.map Entry.cells).sum = Config.cells ∧ st.head < Config.cells ∧ laidOut st.tail st.head st.dir
    ∧ ∀ e, st.dir.head? = some e → e.state ≠ .released

/-- No two entries hold the same number, and numbers lie in 1..65535 (R170). -/
def Store.numberInv (st : Store) : Prop :=
  (st.dir.map Entry.number).Nodup ∧ (∀ e ∈ st.dir, 1 ≤ e.number ∧ e.number ≤ 65535)
    ∧ 1 ≤ st.nextNumber ∧ st.nextNumber ≤ 65535

/-- A FILLING assembly cell holds the begun cell of its direction's OPEN entry; with none FILLING that entry has no begun cell
(R168, R173). -/
def Store.asmInv (d : Dir) (st : Store) : Prop :=
  ((st.asm d).state = .filling → ∃ e, st.open? d = some e ∧ (st.asm d).number = e.number
      ∧ (st.asm d).target = bodyCell e.header e.length ∧ 1 ≤ (st.asm d).chars.length
      ∧ (st.asm d).chars.length = e.length % 8)
    ∧ ((st.asm d).state ≠ .filling → ∀ e, st.open? d = some e → e.length % 8 = 0)

/-- The ring, the numbers and the assembly cells are in order, and no entry but the newest is OPEN, so that at most one is
(R167, R168, R170, R172, R180). -/
def Store.layoutInv (st : Store) : Prop :=
  st.ringInv ∧ st.numberInv ∧ st.asmInv .in ∧ st.asmInv .out ∧ ∀ e ∈ st.dir.dropLast, e.state ≠ .open

/-- The store is laid out in order, and an IN entry is OPEN only in CONNECTED (R172). -/
def State.storeInv (s : State) : Prop :=
  s.store.layoutInv ∧ ∀ e ∈ s.store.dir, e.dir = .in → e.state = .open → s.call.state = .connected

/-- A message that a print job, a punch job, the printer's tracked or catch-up message, a RUNNING or PAUSED playback or a
READ-MESSAGE being served names (log 34) stands in the directory and is not RELEASED (R178). -/
def State.namedInv (s : State) : Prop := ∀ n, s.named n = true → ∃ e ∈ s.store.dir, e.number = n ∧ e.state ≠ .released

/-- Queues, lists and counts are within their capacities; while the punch waits for a read it has room for the eight characters
of a cell, and a job to put them to; the motor-off timer stands below its 10 s (R69, R81, R82, R89, R91, R98, R107, R111, R122,
R125, R127, R141, R163, R169, R170, R182; log 68). -/
def State.capInv (s : State) : Prop :=
  s.router.linkText.length ≤ 64 ∧ s.kb.list.length ≤ 4 ∧ s.kb.buffer.length ≤ 32 ∧ s.pr.queue.length ≤ 64
    ∧ s.pr.jobs.length ≤ 4 ∧ s.pu.chain.length ≤ 8 ∧ s.call.ringCount ≤ 16 ∧ s.store.debt ≤ 8
    ∧ s.store.queue.length ≤ 4 ∧ s.store.dir.length ≤ 64 ∧ s.link.holding.length ≤ 2
    ∧ s.conv.answerback.length ≤ 20 ∧ s.conv.eom.length ≤ 8 ∧ s.pu.queue.length ≤ 32
    ∧ (s.store.punchRead.isSome = true → s.pu.queue.length ≤ 24 ∧ s.pu.chain ≠ [])
    ∧ s.pr.offTicks < 640 ∧ s.kb.count ≤ 72 ∧ (∀ n ∈ s.kb.agree.toList, n ≤ 2) ∧ s.kb.pos < 64

end Sys2Proof.Machine
end

