-- ==== Sys2Proof/Certificates/Slice0/Obligations.lean ====
section
/-! DEFINITION. The statements about the part that are to be proved. `s0` is the state in which a request's frame stands at the
head of the input holding, `s1` the state after its taking has set the standby-after timer afresh (R157). Numbers of log
entries are those of notes/assumptions. -/

open Sys2Proof Sys2Proof.Machine

/-! ### Steps -/

/-- A step runs the command at the front of the queue on the state with the rest of the queue; on an empty queue it is one
supervision tick, in the order that the model fixes (log 2): the outputs of the three units that the fast oscillator times (log
21), HOME (log 57), the motor-off timer (log 68), WAKE while it stands asserted (log 61) and LOOPSENSE, the signal in progress,
what belongs to the call state that the tick found and still finds, RING. What each call state does at a tick is opened in the
statements about it. -/
def Obligations.StepRunsFrontCommand : Prop :=
  (∀ (s : State) (c : Instr) (rest : List Instr), s.pending = c :: rest → step s = exec c { s with pending := rest })
    ∧ (∀ s : State, s.pending = [] →
        let s1 := signalTick { wakeTick (passCycles s) with rx := { s.rx with loopCurrent := s.pins.loopSense } }
        (s1.call.state = s.call.state → step s = .next (ringTick s.pins.ring (callTick s1)))
        ∧ (s1.call.state ≠ s.call.state → step s = .next (ringTick s.pins.ring s1)))
    ∧ (∀ s : State,
        (s.call.state = .standby → passCycles s = s)
        ∧ (s.call.state ≠ .standby →
            passCycles s = motorOffTick (homeTick { s with tx := s.tx.advance, pr := s.pr.advance, pu := s.pu.advance }))
        ∧ (s.pins.wake = false → wakeTick s = s)
        ∧ (s.pins.wake = true → wakeTick s = { s with
            pins := { s.pins with wake := Config.freeReading s.freeCount }, freeCount := s.freeCount + 1 }))
    ∧ ∀ s : State,
        (s.call.state = .agreeing →
          let t := lineTick s
          callTick s = if t.call.state = .agreeing then agreementTick t else t)
        ∧ (s.call.state = .connected →
          let t := lineTick s
          callTick s = if t.call.state = .connected then idleClearTick t else t)
        ∧ (s.call.state = .ringCheck → callTick s = if s.call.attendedWait then answerWaitTick s else s)
        ∧ (s.call.state = .answering ∨ s.call.state = .originating → callTick s = loopTick s)
        ∧ (s.call.state = .idle → callTick s = standbyTick s)
        ∧ (s.call.state = .clearing → callTick s = clearingTick s)
        ∧ (s.call.state = .starting ∨ s.call.state = .standby → callTick s = s)

/-- No command touches the queue, and only the end of a DRAM access and power-on write the DRAM's contents. Nothing is refused,
and only the grant and the end of a DRAM access can fault. -/
def Obligations.CommandsKeepQueueAndMemory : Prop :=
  (∀ (c : Instr) (s t : State), exec c s = .next t →
      t.pending = s.pending ∧ (c ≠ .dramAccessComplete → c ≠ .powerOn → t.mem = s.mem))
    ∧ (∀ (c : Instr) (s : State),
      (∀ r, exec c s ≠ .refused r) ∧ (∀ r, exec c s = .fault r → c = .dramGrant ∨ c = .dramAccessComplete))

/-! ### Requests in general -/

/-- A request that cannot be taken now changes nothing (log 1, log 4); RESET-STATION, which need not wait behind a
READ-MESSAGE, has its own statement. A body whose length does not fit its kind is answered BAD-VALUE, whatever position that
result then carries (log 7), before anything else is tested, MEMORY-INIT included (log 10), and nothing but the standby-after
timer, the count of free values and the link changes. -/
def Obligations.UntakenAndMalformedRequests : Prop :=
  (∀ (c : Instr) (kind : Byte) (body : List Byte) (s : State),
      request? c = some (kind, body) → kind ≠ 0x52#8 → s.linkFree = false ∨ s.takes? kind body = none → exec c s = .next s)
    ∧ (∀ (c : Instr) (kind : Byte) (body : List Byte) (s s0 : State),
      request? c = some (kind, body) → lengthFits kind body = false → s.asked kind body s0 →
        ∃ p, exec c s = .next (reply kind ⟨.badValue p, []⟩ (useFree (touchStandby s0))))

/-! ### Resets -/

/-- POWER_ON puts every block in its power-on state; the outside goes on driving the pins (log 29). -/
def Obligations.PowerOnState : Prop :=
  ∀ s : State, ∃ t, exec .powerOn s = .next t
    ∧ t = { State.reset with pins := s.pins, pending := s.pending, freeCount := s.freeCount }
    ∧ t.call.state = .idle ∧ t.call.loopClose = false ∧ t.call.configured = false ∧ t.call.mode = .attended
    ∧ t.call.ringCount = 0 ∧ t.call.lockout = false ∧ t.call.play.state = .idle ∧ t.call.rate = none
    ∧ t.call.idleClear = 3840 ∧ t.call.standbyAfter = 19200 ∧ t.call.autoRelease = false
    ∧ t.call.standbyTimer = some 19200
    ∧ t.conv.valid = false ∧ t.conv.rxPlane = .letters ∧ t.conv.txPlane = .unknown ∧ t.conv.m = 0
    ∧ t.rx.state = .hunt ∧ t.rx.level = .mark ∧ t.rx.rate = .r50 ∧ t.rx.q = 0 ∧ t.rx.n = 0 ∧ t.rx.a = 0 ∧ t.rx.s = 0
    ∧ t.tx.front = none ∧ t.tx.next = none ∧ t.tx.txd = .mark ∧ t.tx.duty = .none ∧ t.tx.rate = .r50
    ∧ t.agr.active = false ∧ t.agr.ceiling = .r300 ∧ t.agr.cfgMax = .r300
    ∧ t.router.linkText = [] ∧ t.kb.buffer = [] ∧ t.kb.list = [] ∧ t.kb.hold = .absent
    ∧ t.pr.state = .off ∧ t.pr.mode = .direct ∧ t.pr.queue = [] ∧ t.pr.jobs = [] ∧ t.pr.column = 1
    ∧ t.pr.columnKnown = false ∧ t.pr.offTicks = 0 ∧ t.pu.state = .off ∧ t.pu.queue = [] ∧ t.pu.chain = [] ∧ t.pu.shift = .unknown
    ∧ t.store.memInit = true ∧ t.store.dir = [] ∧ t.store.head = 0 ∧ t.store.tail = 0 ∧ t.store.free = 524288
    ∧ t.store.queue = [] ∧ t.store.nextNumber = 1 ∧ t.store.debt = 0
    ∧ t.link.rx = .hunt ∧ t.link.holding = [] ∧ t.link.replies = [] ∧ t.link.reports = [] ∧ t.link.mode = .push
    ∧ t.link.sending = none ∧ t.latches = ⟨false, false, false, false, false, false⟩

/-- RESET-STATION acts on every block and is answered OK last; behind a READ-MESSAGE that waits on the store it is taken at
once, after that request has been answered BUSY and the message it protected (log 34) tested for release. The soft reset closes
the OPEN entry TRUNCATED and keeps its text; only an incoming one can then be released automatically. What it clears and keeps
is listed block by block; that the link receiver stays as it is, is the model's choice (log 11). -/
def Obligations.ResetStationIsSoftReset : Prop :=
  (∀ s s0 : State, s.asked 0x52#8 [] s0 →
      exec (.resetStation []) s = .next (reply 0x52#8 (ok []) (softReset (touchStandby s0))))
    ∧ (∀ (s : State) (h : HostRead) (f : Frame), s.store.hostRead = some h → s.link.holding = [f, ⟨0x52#8, []⟩] →
        s.link.replies.any OutFrame.isReply = false → s.link.rx ≠ .stopped →
          exec (.resetStation []) s = .next (reply 0x52#8 (ok []) (softReset (autoReleaseTest h.number
            (reply 0x33#8 (plainAnswer .busy) { s with store := { s.store.abandon .host with hostRead := none } })))))
    ∧ (∀ s : State, s.store.layoutInv →
        (∀ x ∈ (softReset s).store.dir, x.state ≠ .open)
        ∧ ∀ e ∈ s.store.dir, e.state = .open →
          (∀ x ∈ (softReset s).store.dir, x.number = e.number → x.flags.truncated = true ∧ x.length = e.length)
          ∧ (s.call.autoRelease = false ∨ e.dir = .out → ∃ x ∈ (softReset s).store.dir,
              x.number = e.number ∧ x.state = .closed ∧ x.flags.truncated = true ∧ x.length = e.length))
    ∧ ∀ s : State,
        (softReset s).store.memInit = s.store.memInit ∧ (softReset s).store.tail = s.store.tail
        ∧ (softReset s).call.state = .idle ∧ (softReset s).call.loopClose = false ∧ (softReset s).call.ringCount = 0
        ∧ (softReset s).call.lockout = false ∧ (softReset s).call.play.state = .idle ∧ (softReset s).call.rate = none
        ∧ (softReset s).call.mode = s.call.mode ∧ (softReset s).call.configured = s.call.configured
        ∧ (softReset s).conv = { s.conv with rxPlane := .letters, txPlane := .unknown, m := 0, held := none }
        ∧ (softReset s).rx.state = .hunt ∧ (softReset s).rx.rate = .r50 ∧ (softReset s).rx.sense = s.rx.cfgSense
        ∧ (softReset s).rx.level = s.rx.level ∧ (softReset s).rx.q = 0 ∧ (softReset s).rx.n = 0 ∧ (softReset s).rx.a = 0
        ∧ (softReset s).rx.s = (if s.rx.orientation then 0 else s.rx.s0)
        ∧ (softReset s).tx.front = none ∧ (softReset s).tx.next = none ∧ (softReset s).tx.txd = .mark
        ∧ (softReset s).tx.signal = .none ∧ (softReset s).tx.duty = .none ∧ (softReset s).tx.rate = .r50
        ∧ (softReset s).agr.ceiling = s.agr.ceiling ∧ (softReset s).agr.active = false
        ∧ (softReset s).router = { s.router with linkText := [] }
        ∧ (softReset s).kb.keymap = s.kb.keymap ∧ (softReset s).kb.buffer = [] ∧ (softReset s).kb.list = []
        ∧ (softReset s).kb.fresh = true
        ∧ (softReset s).pr.queue = [] ∧ (softReset s).pr.jobs = [] ∧ (softReset s).pr.mode = .direct
        ∧ (softReset s).pr.tracked = none ∧ (softReset s).pr.unavailable = false ∧ (softReset s).pr.columnKnown = false
        ∧ (softReset s).pr.offTicks = 0
        ∧ (softReset s).pr.state = (if s.pr.paper then .off else .paperOut)
        ∧ (softReset s).pu.state = .off ∧ (softReset s).pu.queue = [] ∧ (softReset s).pu.chain = []
        ∧ (softReset s).pu.shift = .unknown ∧ (softReset s).pu.tapeLow = false
        ∧ (softReset s).store.nextNumber = s.store.nextNumber ∧ (softReset s).store.banks = s.store.banks
        ∧ (softReset s).store.debt = s.store.debt ∧ (softReset s).store.playRead = none
        ∧ (softReset s).store.printRead = none ∧ (softReset s).store.punchRead = none
        ∧ (softReset s).link.reports = [] ∧ (softReset s).link.mode = s.link.mode
        ∧ ((s.link.sending = none → s.link.replies = []) → (softReset s).link.replies = s.link.replies)
        ∧ (softReset s).link.rx = s.link.rx
        ∧ (softReset s).link.holding = s.link.holding ∧ (softReset s).latches = Latches.reset
        ∧ (softReset s).mem = s.mem ∧ (softReset s).pins = s.pins

/-! ### Settings, tables and strings -/

/-- SET-STATION with every enumeration in its list: the settings are applied, the timers clamped, the body as applied comes
back; turning auto-release on makes the test for every message; that the taking itself restarts the standby-after timer with
the old time is the model's choice (log 66). Another value is BAD-VALUE and changes no setting (R139, R179, R184, R187; the
bytes of on and off: log 8). -/
def Obligations.SetStationApplies : Prop :=
  (∀ (s s0 : State) (body : List Byte) (m : Mode) (ar : Bool) (rm : ReportMode), s.asked 0x01#8 body s0 → body.length = 7 →
      mode? (field1 body 0) = some m → onOff? (field1 body 5) = some ar → reportMode? (field1 body 6) = some rm →
        let s1 := touchStandby s0
        let ic := clampTimer (field2 body 1)
        let sa := clampTimer (field2 body 3)
        let t : State := { s1 with
          call := { s1.call with mode := m, idleClear := ic, standbyAfter := sa, autoRelease := ar }
          link := { s1.link with mode := rm } }
        exec (.setStation body) s = .next (reply 0x01#8
          (ok (put1 m.number ++ put2 ic ++ put2 sa ++ put1 (onOffByte ar) ++ put1 rm.number))
          (if ar then givenUp (t.store.dir.map Entry.number) t else t)))
    ∧ ∀ (s s0 : State) (body : List Byte), s.asked 0x01#8 body s0 → body.length = 7 →
      mode? (field1 body 0) = none ∨ onOff? (field1 body 5) = none ∨ reportMode? (field1 body 6) = none →
        ∃ p, exec (.setStation body) s = .next (reply 0x01#8 (badValue p) (touchStandby s0))

/-- SET-LINE with every enumeration in its list: the settings of four blocks are applied, the numeric ones clamped; with
orientation off s becomes s0; a ceiling above the new maximum comes down to it. Another value is BAD-VALUE and changes no
setting (R10, R30, R36, R53, R62, R185; the bytes of on and off: log 8). -/
def Obligations.SetLineApplies : Prop :=
  (∀ (s s0 : State) (body : List Byte) (ap : Bool) (se : Sense) (ori : Bool) (sl : StopLength) (aoc : Bool) (mx : Rate)
        (us : Bool), s.asked 0x02#8 body s0 → body.length = 14 →
      onOff? (field1 body 4) = some ap → sense? (field1 body 5) = some se → onOff? (field1 body 6) = some ori →
      stopLength? (field1 body 10) = some sl → onOff? (field1 body 11) = some aoc → Rate.ofIndex? (field1 body 12) = some mx →
      onOff? (field1 body 13) = some us →
        let s1 := touchStandby s0
        let brk := clampNat 4 32 (field2 body 0)
        let clr := clampNat 48 255 (field2 body 2)
        let o := clampInt (-6) 6 (fieldS body 7)
        let qt := clampNat 256 4096 (field2 body 8)
        exec (.setLine body) s = .next (reply 0x02#8
          (ok (put2 brk ++ put2 clr ++ put1 (onOffByte ap) ++ put1 se.number ++ put1 (onOffByte ori) ++ [BitVec.ofInt 8 o]
            ++ put2 qt ++ put1 sl.number ++ put1 (onOffByte aoc) ++ put1 mx.index ++ put1 (onOffByte us)))
          { s1 with
            rx := { s1.rx with
              brk := brk, clr := clr, autoPolarity := ap, cfgSense := se, orientation := ori, s0 := o, qt := qt
              s := if ori then s1.rx.s else o }
            tx := { s1.tx with stopLength := sl, answerbackOnConnect := aoc }
            agr := { s1.agr with cfgMax := mx, ceiling := if mx.index ≤ s1.agr.ceiling.index then mx else s1.agr.ceiling }
            conv := { s1.conv with unshift := us } }))
    ∧ ∀ (s s0 : State) (body : List Byte), s.asked 0x02#8 body s0 → body.length = 14 →
        onOff? (field1 body 4) = none ∨ sense? (field1 body 5) = none ∨ onOff? (field1 body 6) = none
          ∨ stopLength? (field1 body 10) = none ∨ onOff? (field1 body 11) = none ∨ Rate.ofIndex? (field1 body 12) = none
          ∨ onOff? (field1 body 13) = none →
        ∃ p, exec (.setLine body) s = .next (reply 0x02#8 (badValue p) (touchStandby s0))

/-- LOAD-CODE-TABLE: the four tests of R3 in their order, a refused load changing nothing, and the load itself with the
validity test of R4; a code that the punch still holds between two cycles refuses no load (log 58). The position a BAD-VALUE
carries is that of the first field at fault (log 6), and the validity is sent as 0 for VALID (log 9): all three are the
model's. -/
def Obligations.LoadCodeTableFollowsR3 : Prop :=
  ∀ (s s0 : State) (body : List Byte), s.asked 0x03#8 body s0 → body.length = 35 →
    (∀ p, firstFault (tableFields body) = some p →
      exec (.loadCodeTable body) s = .next (reply 0x03#8 (badValue p) (touchStandby s0)))
    ∧ ((plane? (field1 body 0) = none ∨ rawCode? (body.getD 1 0) = none ∨ rawCode? (body.getD 2 0) = none
          ∨ ∃ i, i < 32 ∧ tableEntry? (body.getD (3 + i) 0) = none) → ∃ p, firstFault (tableFields body) = some p)
    ∧ ∀ (p : Plane) (ltrs figs : RawCode), plane? (field1 body 0) = some p → rawCode? (body.getD 1 0) = some ltrs →
      rawCode? (body.getD 2 0) = some figs → (∀ i, i < 32 → (tableEntry? (body.getD (3 + i) 0)).isSome) →
        let s1 := touchStandby s0
        let cv : Converter :=
          { s1.conv.setTable p ⟨loadedEntries body, true⟩ with ltrsShift := some ltrs, figsShift := some figs }
        let v := cv.valid || (cv.letters.loaded && cv.figures.loaded && cv.holdsAskId)
        if s1.call.state ≠ .idle ∨ s1.kb.buffer ≠ [] ∨ s1.pu.queue ≠ [] ∨ s1.pu.chain ≠ [] then
          exec (.loadCodeTable body) s = .next (reply 0x03#8 (plainAnswer .wrongState) s1)
        else if ltrs = figs then exec (.loadCodeTable body) s = .next (reply 0x03#8 (plainAnswer .tableConflict) s1)
        else if (s1.conv.table p.other).loaded = true ∧ cv.holdsAskId = false then
          exec (.loadCodeTable body) s = .next (reply 0x03#8 (plainAnswer .tableConflict) s1)
        else
          exec (.loadCodeTable body) s = .next (reply 0x03#8 (ok (put1 (validityByte v)))
            { s1 with conv := { cv with valid := v }, call := { s1.call with configured := s1.call.configured || v } })

/-- LOAD-KEYMAP: entries in range replace those of their keys and no others; a count, a key number, a kind or a code out of
range is refused and the keymap kept (R86). -/
def Obligations.LoadKeymapReplaces : Prop :=
  ∀ (s s0 : State) (body : List Byte), s.asked 0x04#8 body s0 → keymapFits body = true →
    let s1 := touchStandby s0
    let first := field1 body 0
    let count := field1 body 1
    ((count < 1 ∨ 64 < count ∨ 64 < first + count ∨ ∃ i, i < count ∧ loadedKey body i = none) →
      ∃ p, exec (.loadKeymap body) s = .next (reply 0x04#8 (badValue p) s1))
    ∧ (1 ≤ count → count ≤ 64 → first + count ≤ 64 → (∀ i, i < count → (loadedKey body i).isSome) →
      ∃ km : Vector KeymapEntry 64,
        exec (.loadKeymap body) s = .next (reply 0x04#8 (ok []) { s1 with kb := { s1.kb with keymap := km } })
        ∧ (∀ i, i < count → km[first + i]? = loadedKey body i)
        ∧ ∀ k, k < first ∨ first + count ≤ k → km[k]? = s1.kb.keymap[k]?)

/-- The answerback string: empty after power-on, kept by soft reset, call clear and standby; SET-ANSWERBACK refuses more than
20 codes, a code out of range, and any string while an answerback waits or is sent, and else replaces the string whole. -/
def Obligations.AnswerbackStringFollowsR11 : Prop :=
  State.reset.conv.answerback = []
    ∧ (∀ s : State, (softReset s).conv.answerback = s.conv.answerback ∧ (callEnd s).conv.answerback = s.conv.answerback
        ∧ (enterStandby s).conv.answerback = s.conv.answerback)
    ∧ ∀ (s s0 : State) (body : List Byte), s.asked 0x05#8 body s0 →
        let s1 := touchStandby s0
        (20 < body.length → ∃ p, exec (.setAnswerback body) s = .next (reply 0x05#8 ⟨.badValue p, []⟩ (useFree s1)))
        ∧ (body.length ≤ 20 → (∃ b ∈ body, 128 ≤ b.toNat) →
            ∃ p, exec (.setAnswerback body) s = .next (reply 0x05#8 ⟨.badValue p, []⟩ s1))
        ∧ (body.length ≤ 20 → (∀ b ∈ body, b.toNat < 128) → s1.tx.duty ≠ .none →
            exec (.setAnswerback body) s = .next (reply 0x05#8 ⟨.wrongState, []⟩ s1))
        ∧ (body.length ≤ 20 → (∀ b ∈ body, b.toNat < 128) → s1.tx.duty = .none →
            exec (.setAnswerback body) s = .next (reply 0x05#8 ⟨.ok, []⟩
              { s1 with conv := { s1.conv with answerback := body.map (BitVec.setWidth 7) } }))

/-- The EOM sequence: empty after power-on, kept by soft reset, call clear and standby; SET-EOM refuses more than 8 codes or a
code out of range, and else replaces the sequence whole in every call state and sets m to 0; while the sequence is empty m
stays 0 and nothing completes. -/
def Obligations.EomSequenceFollowsR13 : Prop :=
  State.reset.conv.eom = []
    ∧ (∀ s : State, (softReset s).conv.eom = s.conv.eom ∧ (callEnd s).conv.eom = s.conv.eom
        ∧ (enterStandby s).conv.eom = s.conv.eom)
    ∧ (∀ (m : Nat) (c : StationCode), eomMatch [] m c = (0, false))
    ∧ ∀ (s s0 : State) (body : List Byte), s.asked 0x06#8 body s0 →
        let s1 := touchStandby s0
        (8 < body.length → ∃ p, exec (.setEom body) s = .next (reply 0x06#8 ⟨.badValue p, []⟩ (useFree s1)))
        ∧ (body.length ≤ 8 → (∃ b ∈ body, 128 ≤ b.toNat) →
            ∃ p, exec (.setEom body) s = .next (reply 0x06#8 ⟨.badValue p, []⟩ s1))
        ∧ (body.length ≤ 8 → (∀ b ∈ body, b.toNat < 128) →
            exec (.setEom body) s = .next (reply 0x06#8 ⟨.ok, []⟩
              { s1 with conv := { s1.conv with eom := body.map (BitVec.setWidth 7), m := 0 } }))

/-- SET-ROUTES: the six tests of R65 and the replacement of the whole set; set 0 is LOCAL, 1 CALL-ATTENDED, 2
CALL-UNATTENDED. -/
def Obligations.SetRoutesFollowsR65 : Prop :=
  ∀ (s s0 : State) (body : List Byte), s.asked 0x07#8 body s0 → body.length = 6 →
    let s1 := touchStandby s0
    let set := field1 body 0
    ((2 < set ∨ ∃ i, i < 5 ∧ 32 ≤ field1 body (1 + i)) →
      ∃ p, exec (.setRoutes body) s = .next (reply 0x07#8 (badValue p) s1))
    ∧ ∀ li kb lt pl ab : Row, set ≤ 2 → row? (body.getD 1 0) = some li → row? (body.getD 2 0) = some kb →
      row? (body.getD 3 0) = some lt → row? (body.getD 4 0) = some pl → row? (body.getD 5 0) = some ab →
        if li.lineOut = true ∨ pl.store = true ∨ (li.punch = true ∧ li.store = false)
            ∨ (set = 0 ∧ (li.lineOut = true ∨ kb.lineOut = true ∨ lt.lineOut = true ∨ pl.lineOut = true ∨ ab.lineOut = true
              ∨ pl ≠ ⟨false, false, false, false, false⟩))
            ∨ (set ≠ 0 ∧ (pl.lineOut = false ∨ ab.lineOut = false)) then
          exec (.setRoutes body) s = .next (reply 0x07#8 (plainAnswer .tableConflict) s1)
        else
          exec (.setRoutes body) s = .next (reply 0x07#8 (ok []) { s1 with
            router :=
              if set = 0 then { s1.router with localSet := ⟨li, kb, lt, pl, ab⟩ }
              else if set = 1 then { s1.router with attended := ⟨li, kb, lt, pl, ab⟩ }
              else { s1.router with unattended := ⟨li, kb, lt, pl, ab⟩ } })

/-- SET-PRINTER: the settings applied and clamped, the margin within the new line length, and the line-end mark set by a line
length below the column and cleared by a longer one above it. A policy outside its list or a LOST code out of range is
BAD-VALUE and changes no setting (R102, R118). That the line length is a field of 1 byte, and the body one of 5, is the model's
choice (log 64). -/
def Obligations.SetPrinterApplies : Prop :=
  (∀ (s s0 : State) (body : List Byte) (po : Policy) (lost : StationCode), s.asked 0x08#8 body s0 → body.length = 5 →
      policy? (field1 body 2) = some po → stationCode? (body.getD 4 0) = some lost →
        let s1 := touchStandby s0
        let l := clampNat 20 132 (field1 body 0)
        let m := clampNat 0 l (field1 body 1)
        let h := clampNat 1 15 (field1 body 3)
        exec (.setPrinter body) s = .next (reply 0x08#8
          (ok (put1 l ++ put1 m ++ put1 po.number ++ put1 h ++ [codeByte lost]))
          { s1 with pr := { s1.pr with
              lineLength := l, margin := m, policy := po, intensityReq := h, lostCode := lost
              lineEnd :=
                if l < s1.pr.column then true
                else if s1.pr.lineLength < l ∧ s1.pr.column < l then false else s1.pr.lineEnd } }))
    ∧ ∀ (s s0 : State) (body : List Byte), s.asked 0x08#8 body s0 → body.length = 5 →
        policy? (field1 body 2) = none ∨ stationCode? (body.getD 4 0) = none →
        ∃ p, exec (.setPrinter body) s = .next (reply 0x08#8 (badValue p) (touchStandby s0))

/-- SET-PUNCH and its settings: clamped and echoed in every state; power-on values; kept by soft reset, call clear and
standby; the on-time taken at the start of a cycle, the defaults by jobs that join afterwards. -/
def Obligations.SetPunchFollowsR136 : Prop :=
  (∀ (s s0 : State) (body : List Byte), s.asked 0x09#8 body s0 → body.length = 3 →
      let s1 := touchStandby s0
      let n := clampNat 4 10 (field1 body 0)
      exec (.setPunch body) s = .next (reply 0x09#8 (ok (put1 n ++ put1 (field1 body 1) ++ put1 (field1 body 2)))
        { s1 with pu := { s1.pu with onTimeReq := n, defLeader := field1 body 1, defTrailer := field1 body 2 } }))
    ∧ (State.reset.pu.onTimeReq = 8 ∧ State.reset.pu.defLeader = 16 ∧ State.reset.pu.defTrailer = 16)
    ∧ (∀ s : State,
        ((softReset s).pu.onTimeReq = s.pu.onTimeReq ∧ (softReset s).pu.defLeader = s.pu.defLeader
          ∧ (softReset s).pu.defTrailer = s.pu.defTrailer)
        ∧ (callEnd s).pu = s.pu ∧ (enterStandby s).pu = s.pu)
    ∧ (∀ (st : PuState) (r : RawCode) (c : Option (Option Tag)) (p : Punch), (p.startCycle st r c).onTime = p.onTimeReq)
    ∧ (∀ (n : Nat) (s : State), s.pu.chain.length < 8 →
        (followMessage n s).pu.chain = s.pu.chain ++ [⟨n, 0, s.pu.defLeader, s.pu.defTrailer, true, 0, 0⟩])
    ∧ ∀ (d : Nat) (body : List Byte) (i : Nat), field1 body i = 1 → countField? d body i = some d

/-! ### Calls -/

/-- ANSWER acts in an attended wait only: with the store check passed STARTING is entered and the printer asked to start, else
the ring is refused STORE-FULL. CALL acts in IDLE of a configured station only: it enters ORIGINATING and closes the loop with
the loop timer. CLEAR by call state: a ring waiting for ANSWER is declined, a call that waits for the printer ends at once (its
verdict: log 25), a call with the loop closed is cleared, a clearing goes on, and elsewhere the state is wrong; what the request
itself reports is raised before its reply joins, which is the model's choice (log 69) (R140, R142 to R145, R152). -/
def Obligations.CallRequests : Prop :=
  ((∀ s s0 : State, s.asked 0x10#8 [] s0 →
        let s1 := touchStandby s0
        (s1.call.attendedWait = false → exec (.answer []) s = .next (reply 0x10#8 (plainAnswer .wrongState) s1))
        ∧ (s1.call.attendedWait = true → s1.store.memInit = true ∨ s1.store.free < 1024 ∨ 64 ≤ s1.store.dir.length →
            exec (.answer []) s = .next (reply 0x10#8 (plainAnswer .full) (raise (.ringRefused .storeFull)
              { s1 with call := { s1.call with
                  state := .idle, ringCount := 0, attendedWait := false, answerWait := none, callMode := none
                  standbyTimer := timerOf s1.call.standbyAfter } })))
        ∧ (s1.call.attendedWait = true → s1.store.memInit = false → 1024 ≤ s1.store.free → s1.store.dir.length < 64 →
            exec (.answer []) s = .next (reply 0x10#8 (ok []) (requestStart
              { s1 with call := { s1.call with state := .starting, attendedWait := false, answerWait := none } }))))
      ∧ ∀ s s0 : State, s.asked 0x11#8 [] s0 →
          let s1 := touchStandby s0
          (s1.call.state ≠ .idle ∨ s1.call.configured = false →
            exec (.call []) s = .next (reply 0x11#8 (plainAnswer .wrongState) s1))
          ∧ (s1.call.state = .idle → s1.call.configured = true →
              exec (.call []) s = .next (reply 0x11#8 (ok []) { s1 with call := { s1.call with
                state := .originating, callMode := some s1.call.mode, loopClose := true, loopTimer := some 320
                standbyTimer := none } })))
    ∧ (∀ s s0 : State, s.asked 0x12#8 [] s0 →
      let s1 := touchStandby s0
      let idle : CallCtl := { s1.call with
        state := .idle, ringCount := 0, attendedWait := false, answerWait := none, callMode := none
        standbyTimer := timerOf s1.call.standbyAfter }
      (s1.call.state = .ringCheck → s1.call.attendedWait = true →
        exec (.clear []) s = .next (reply 0x12#8 (ok []) (raise (.ringRefused .declined) { s1 with call := idle })))
      ∧ (s1.call.state = .ringCheck → s1.call.attendedWait = false →
        exec (.clear []) s = .next (reply 0x12#8 (plainAnswer .wrongState) s1))
      ∧ (s1.call.state = .starting →
        exec (.clear []) s = .next (reply 0x12#8 (ok [])
          (raise (.callEnded .clearRequest none none .neutral s1.agr.ceiling)
            { s1 with call := idle, pr := { s1.pr with startPending := false } })))
      ∧ (s1.call.state = .answering ∨ s1.call.state = .originating ∨ s1.call.state = .agreeing ∨ s1.call.state = .connected →
        exec (.clear []) s = .next (reply 0x12#8 (ok []) (enterClearing .clearRequest s1)))
      ∧ (s1.call.state = .clearing → exec (.clear []) s = .next (reply 0x12#8 (ok []) s1))
      ∧ (s1.call.state = .idle ∨ s1.call.state = .standby →
        exec (.clear []) s = .next (reply 0x12#8 (plainAnswer .wrongState) s1)))

/-- Entry to CLEARING: the cause, the verdict and the ceiling it leaves are kept, the ceiling moves on the verdict, the
transmitter is flushed and sends the clear signal, the duty and the agreement end, a playback is cancelled, Q, N, A and s stay;
the open incoming message is closed ENDED-BY-CLEAR, on a POOR verdict POOR-LINE too; a lost line ends the call at once (R28,
R44, R46, R51, R62, R150, R153, R154, R156). -/
def Obligations.EntryToClearing : Prop :=
  (∀ (cause : Cause) (s : State), s.call.autoRelease = false → ∀ e, s.store.open? .in = some e →
    let t := enterClearing cause s
    (∀ x ∈ t.store.dir, x.number = e.number → x.state ≠ .open)
    ∧ ∃ x ∈ t.store.dir, x.number = e.number ∧ x.state = .closed ∧ x.length = e.length ∧ x.flags.endedByClear = true
        ∧ x.flags.poorLine = (e.flags.poorLine || decide (s.clearingVerdict = .poor)) ∧ x.flags.complete = e.flags.complete)
  ∧ (∀ (cause : Cause) (s : State),
    let s1 := closeOpen .in ⟨false, true, false, decide (s.clearingVerdict = .poor), false, false⟩ (cancelPlayback { s with
      call := { s.call with
        state := .clearing, cause := cause, verdict := s.clearingVerdict
        ceilingLeft := (s.agr.moveCeiling s.clearingVerdict).ceiling, lossCount := 0, loopTimer := none, idleTimer := none }
      rx := { s.rx with spaceCount := 0, lossCount := 0 }
      agr := { s.agr.moveCeiling s.clearingVerdict with active := false }
      tx := { s.tx with duty := .none, given := 0, counted := 0, passed := [] } })
    (cause ≠ .lineLost →
      enterClearing cause s = { flush .space s1 with tx := { (flush .space s1).tx with signal := .clr 0 } })
    ∧ (cause = .lineLost →
      enterClearing cause s = callEnd { flush .mark s1 with tx := { (flush .mark s1).tx with signal := .none } }))
  ∧ ∀ (cause : Cause) (s : State),
    let t := enterClearing cause s
    let v : Verdict :=
      if s.call.state = .agreeing ∨ s.call.state = .connected then
        if s.rx.qt ≤ s.rx.q then .poor else if s.rx.q < s.rx.qt / 2 ∧ 64 ≤ s.rx.n then .good else .neutral
      else .neutral
    t.call.cause = cause ∧ t.call.verdict = v ∧ t.call.loopTimer = none ∧ t.call.idleTimer = none ∧ t.call.lossCount = 0
    ∧ t.agr.active = false
    ∧ t.agr.ceiling =
        (match v with
          | .poor => s.agr.ceiling.down
          | .good => s.agr.cfgMax.lower s.agr.ceiling.up
          | .neutral => s.agr.ceiling)
    ∧ t.call.ceilingLeft = t.agr.ceiling
    ∧ t.tx.front = none ∧ t.tx.next = none ∧ t.conv.held = none ∧ t.tx.duty = .none ∧ t.tx.rate = s.tx.rate
    ∧ t.rx.q = s.rx.q ∧ t.rx.n = s.rx.n ∧ t.rx.a = s.rx.a ∧ t.rx.s = s.rx.s ∧ t.rx.rate = s.rx.rate
    ∧ t.rx.spaceCount = 0 ∧ t.rx.lossCount = 0
    ∧ (s.call.play.state = .running ∨ s.call.play.state = .paused → t.call.play.state = .cancelled)
    ∧ (s.call.play.state ≠ .running → s.call.play.state ≠ .paused → t.call.play.state = s.call.play.state)
    ∧ t.kb = s.kb ∧ t.router = s.router ∧ t.mem = s.mem
    ∧ (cause ≠ .lineLost →
        t.call.state = .clearing ∧ t.tx.signal = .clr 0 ∧ t.tx.txd = .space ∧ t.call.loopClose = s.call.loopClose
        ∧ t.conv = { s.conv with held := none } ∧ t.rx = { s.rx with spaceCount := 0, lossCount := 0 })
    ∧ (cause = .lineLost →
        t.call.state = .idle ∧ t.tx.signal = .none ∧ t.tx.txd = .mark ∧ t.call.loopClose = false ∧ t.rx.state = .hunt
        ∧ t.conv.txPlane = .unknown)

/-- RING_ASSERTED and RING_ABSENT: the lockout counts 128 ticks of absence; a ring tick in IDLE fixes the call mode and enters
RING-CHECK; in RING-CHECK 15 further ticks qualify the ring, an absent one returns to IDLE; in STANDBY a ring wakes the part,
and there and in a wake the first ring tick fixes the call mode (R138, R141, R142, R157, R159; the count of a wake and a ring
lost within it: log 37). -/
def Obligations.RingReadings : Prop :=
  (∀ s : State,
      let s1 : State := { s with pins := { s.pins with ring := true } }
      (s.call.lockout = true → exec .ringAsserted s = .next { s1 with call := { s1.call with quiet := 0 } })
      ∧ (s.call.lockout = false → s.call.state = .idle →
          exec .ringAsserted s = .next { s1 with call := { s1.call with
            state := .ringCheck, ringCount := 1, callMode := some s.call.mode, standbyTimer := none } })
      ∧ (s.call.lockout = false → s.call.state = .ringCheck → s.call.ringCount < 15 →
          exec .ringAsserted s = .next { s1 with call := { s1.call with ringCount := s.call.ringCount + 1 } })
      ∧ (s.call.lockout = false → s.call.state = .ringCheck → 15 ≤ s.call.ringCount →
          exec .ringAsserted s = .next (qualifyRing s1))
      ∧ (s.call.lockout = false → s.call.state = .standby → s.call.waking = false →
          exec .ringAsserted s = .next { s1 with call := { s1.call with
            ringCount := 1, callMode := some s.call.mode, waking := true } })
      ∧ (s.call.lockout = false → s.call.state = .standby → s.call.waking = true → s.call.ringCount = 0 →
          exec .ringAsserted s = .next { s1 with call := { s1.call with ringCount := 1, callMode := some s.call.mode } })
      ∧ (s.call.lockout = false → s.call.state = .standby → s.call.waking = true → 1 ≤ s.call.ringCount →
          exec .ringAsserted s = .next { s1 with call := { s1.call with ringCount := min 15 (s.call.ringCount + 1) } })
      ∧ (s.call.lockout = false → s.call.state ≠ .idle → s.call.state ≠ .ringCheck → s.call.state ≠ .standby →
          exec .ringAsserted s = .next s1))
    ∧ ∀ s : State,
        let s1 : State := { s with pins := { s.pins with ring := false } }
        (s.call.lockout = true → s.call.quiet < 127 →
          exec .ringAbsent s = .next { s1 with call := { s1.call with quiet := s.call.quiet + 1 } })
        ∧ (s.call.lockout = true → 127 ≤ s.call.quiet → exec .ringAbsent s = .next (clearLockout s1))
        ∧ (s.call.lockout = false → s.call.state = .ringCheck →
            exec .ringAbsent s = .next { s1 with call := { s1.call with
              state := .idle, ringCount := 0, attendedWait := false, answerWait := none, callMode := none
              standbyTimer := timerOf s.call.standbyAfter } })
        ∧ (s.call.lockout = false → s.call.state = .standby →
            exec .ringAbsent s = .next { s1 with call := { s1.call with ringCount := 0, callMode := none } })
        ∧ (s.call.lockout = false → s.call.state ≠ .ringCheck → s.call.state ≠ .standby → exec .ringAbsent s = .next s1)

/-- RING_QUALIFIED sets the lockout and has its four outcomes: refused NOT-CONFIGURED, refused STORE-FULL, STARTING in an
unattended call, the attended wait with its RING report and its timer. The lockout clears with RING_LOCKOUT_CLEAR, ending an
attended wait unanswered, as ANSWER_WAIT_EXPIRY does; a tick of the wait takes one from its timer, the last ends it (R141 to
R144). -/
def Obligations.RingQualifiedAndWait : Prop :=
  (∀ s : State, s.call.state = .ringCheck → s.call.attendedWait = false → s.call.lockout = false →
      let q : CallCtl := { s.call with ringCount := 16, lockout := true, quiet := 0 }
      let idle : CallCtl := { q with
        state := .idle, ringCount := 0, answerWait := none, callMode := none, standbyTimer := timerOf s.call.standbyAfter }
      (s.call.configured = false →
        exec .ringQualified s = .next (raise (.ringRefused .notConfigured) { s with call := idle }))
      ∧ (s.call.configured = true → s.store.memInit = true ∨ s.store.free < 1024 ∨ 64 ≤ s.store.dir.length →
        exec .ringQualified s = .next (raise (.ringRefused .storeFull) { s with call := idle }))
      ∧ (s.call.configured = true → s.store.memInit = false → 1024 ≤ s.store.free → s.store.dir.length < 64 →
          (s.call.callMode = some .unattended →
            exec .ringQualified s = .next (requestStart { s with call := { q with state := .starting, answerWait := none } }))
          ∧ (s.call.callMode ≠ some .unattended →
            exec .ringQualified s = .next (raise .ring
              { s with call := { q with attendedWait := true, answerWait := some 1920 } }))))
    ∧ (∀ s : State, s.call.lockout = true → s.call.attendedWait = false →
        exec .ringLockoutClear s = .next { s with call := { s.call with lockout := false, quiet := 0 } })
    ∧ (∀ s : State, s.call.lockout = true → s.call.attendedWait = true →
        exec .ringLockoutClear s = .next (raise (.ringRefused .notAnswered) { s with call := { s.call with
          lockout := false, quiet := 0, state := .idle, ringCount := 0, attendedWait := false, answerWait := none
          callMode := none, standbyTimer := timerOf s.call.standbyAfter } }))
    ∧ (∀ s : State, s.call.attendedWait = true →
        exec .answerWaitExpiry s = .next (raise (.ringRefused .notAnswered) { s with call := { s.call with
          state := .idle, ringCount := 0, attendedWait := false, answerWait := none, callMode := none
          standbyTimer := timerOf s.call.standbyAfter } }))
    ∧ ∀ (s : State) (n : Nat), s.call.answerWait = some n →
        (2 ≤ n → answerWaitTick s = { s with call := { s.call with answerWait := some (n - 1) } })
        ∧ (n ≤ 1 → answerWaitTick s = raise (.ringRefused .notAnswered) { s with call := { s.call with
            state := .idle, ringCount := 0, attendedWait := false, answerWait := none, callMode := none
            standbyTimer := timerOf s.call.standbyAfter } })

/-- LOOP_CURRENT_PRESENT connects a call that waits for loop current: receiver, transmitter, planes, matcher and the agreement
unit start at 50 units/s; LOOP_TIMER_EXPIRY clears it NO-LOOP. CLEAR_SIGNAL_COMPLETE and CLEARING_LOSS_COUNT end the call:
LOOP-CLOSE released, the line idle, the receiver in HUNT, the UNAVAILABLE mark cleared, the standby-after timer set, and
CALL-ENDED raised last, with the ceiling as the verdict left it; CLEARING_LOSS_COUNT reads loop current absent. The level of
LOOPSENSE stays as last told (log 65), and at a tick the loop connects or its timer runs, the clear signal counts to 128, and
the loss count of CLEARING rises or returns to 0 (R17, R31, R38, R51, R54, R110, R145, R146, R154, R157). -/
def Obligations.LoopAndCallEnds : Prop :=
  (∀ s : State, s.call.state = .answering ∨ s.call.state = .originating →
      exec .loopCurrentPresent s = .next { s with
        conv := { s.conv with rxPlane := .letters, txPlane := .unknown, m := 0 }
        rx := { s.rx with
          rate := .r50, sense := s.rx.cfgSense, loopCurrent := true, q := 0, n := 0, a := 0
          s := if s.rx.orientation then 0 else s.rx.s0
          goodSeen := false, inversionMade := false, spaceCount := 0, lossCount := 0, breakReady := true, clearReady := true }
        tx := { s.tx with rate := .r50 }
        agr := { Agreement.reset with
          active := true, localTop := s.agr.cfgMax.lower s.agr.ceiling, localQuality := decide (s.agr.ceiling = s.agr.cfgMax)
          ceiling := s.agr.ceiling, cfgMax := s.agr.cfgMax }
        call := { s.call with
          state := .agreeing, loopTimer := none, rate := none, outcome := none, partnerQuality := none, reached := false
          play := { s.call.play with state := .idle } }
        pins := { s.pins with loopSense := true } }
      ∧ exec .loopTimerExpiry s = .next (enterClearing .noLoop s))
    ∧ (∀ (s : State) (n : Nat), s.call.state = .clearing → s.tx.signal = .clr n →
      exec .clearSignalComplete s = .next (callEnd s)
      ∧ exec .clearingLossCount s = .next (callEnd { s with
          rx := { s.rx with loopCurrent := false }, pins := { s.pins with loopSense := false } }))
    ∧ (∀ s : State,
        (s.pins.loopSense = true → loopTick s = connect s)
        ∧ (s.pins.loopSense = false → ∀ n, s.call.loopTimer = some n →
            (2 ≤ n → loopTick s = { s with call := { s.call with loopTimer := some (n - 1) } })
            ∧ (n ≤ 1 → loopTick s = enterClearing .noLoop s))
        ∧ (s.pins.loopSense = true → clearingTick s = { s with call := { s.call with lossCount := 0 } })
        ∧ (s.pins.loopSense = false → s.call.lossCount < 3 →
            clearingTick s = { s with call := { s.call with lossCount := s.call.lossCount + 1 } })
        ∧ (s.pins.loopSense = false → 3 ≤ s.call.lossCount → clearingTick s = callEnd s)
        ∧ ∀ n, s.tx.signal = .clr n →
            (n < 127 → signalTick s = { s with tx := { s.tx with signal := .clr (n + 1) } })
            ∧ (127 ≤ n → signalTick s = callEnd s))
    ∧ ∀ s : State,
      let t := callEnd s
      t.call = { s.call with
            state := .idle, loopClose := false, callMode := none, ringCount := 0, lossCount := 0, reached := false
            standbyTimer := timerOf s.call.standbyAfter }
        ∧ t.tx = { s.tx with signal := .none, txd := .mark }
        ∧ t.rx = { s.rx with state := .hunt, edges := [], measured := [] } ∧ t.pins = s.pins
        ∧ t.conv = { s.conv with txPlane := .unknown } ∧ t.pr.unavailable = false ∧ t.pr.queue = s.pr.queue
        ∧ t.agr = s.agr ∧ t.router = s.router ∧ t.kb = s.kb ∧ t.pu = s.pu ∧ t.mem = s.mem
        ∧ t.link.reports = (({ s.link with
            reports := (joinReports (.callEnded s.call.cause (if s.call.reached then s.call.rate else none)
              (if s.call.reached then s.call.outcome else none) s.call.verdict s.call.ceilingLeft) s.link.reports).1 }).kick).reports

/-- IDLE_CLEAR_EXPIRY clears a connected call; STANDBY_AFTER_EXPIRY in IDLE enters STANDBY when every condition holds and else
sets the timer afresh; entry to STANDBY stops the scan and the link, and leaves the DRAM in self-refresh with every bank
CLOSED and debt 0. A tick takes one from the timer that runs (R95, R120, R137, R151, R157, R158, R165; the conditions of the
punch and the link: log 28; an access in progress: log 40). -/
def Obligations.IdleClearAndStandbyAfter : Prop :=
  (∀ s : State, s.call.state = .connected → s.call.idleTimer.isSome = true →
      exec .idleClearExpiry s = .next (enterClearing .idleTimeout s))
    ∧ (∀ s : State, s.call.state = .idle → s.call.standbyTimer.isSome = true →
        (s.standbyOk = true → exec .standbyAfterExpiry s = .next (enterStandby s))
        ∧ (s.standbyOk = false → exec .standbyAfterExpiry s = .next { s with call := { s.call with
            standbyTimer := timerOf s.call.standbyAfter } }))
    ∧ (∀ s : State, s.standbyOk = true ↔
        s.call.state = .idle ∧ s.pr.state = .off ∧ s.pu.queue = [] ∧ s.pu.chain = []
        ∧ (s.pu.state = .off ∨ s.pu.state = .tapeLowHold) ∧ s.kb.buffer = []
        ∧ s.router.linkText = [] ∧ s.tx.duty = .none ∧ s.link.reports = [] ∧ s.link.replies = [] ∧ s.link.holding = []
        ∧ (∀ bs, s.link.rx ≠ .inFrame bs) ∧ s.store.allWritten = true ∧ s.store.playRead = none ∧ s.store.printRead = none
        ∧ s.store.punchRead = none ∧ s.store.hostRead = none ∧ s.store.memInit = false ∧ s.pins.wake = false)
    ∧ (∀ s : State,
        (s.call.idleTimer = none → idleClearTick s = s) ∧ (s.call.standbyTimer = none → standbyTick s = s)
        ∧ ∀ n,
          (s.call.idleTimer = some n → 2 ≤ n →
            idleClearTick s = { s with call := { s.call with idleTimer := some (n - 1) } })
          ∧ (s.call.idleTimer = some n → n ≤ 1 → idleClearTick s = enterClearing .idleTimeout s)
          ∧ (s.call.standbyTimer = some n → 2 ≤ n →
            standbyTick s = { s with call := { s.call with standbyTimer := some (n - 1) } })
          ∧ (s.call.standbyTimer = some n → n ≤ 1 →
            standbyTick s = if s.standbyOk then enterStandby s else touchStandby s))
    ∧ ∀ s : State, enterStandby s = { s with
        store := { s.store with access := none, banks := Vector.replicate 4 .closed, selfRefresh := true, debt := 0 }
        kb := { s.kb with
          hold := .absent, count := 0, target := none, timer := none, keys := Vector.replicate 64 .up
          agree := Vector.replicate 64 0, pos := 0, list := [], heldFull := [], running := false, fresh := false
          noted := s.pins.sense }
        link := { s.link with rx := .stopped }
        call := { s.call with state := .standby, standbyTimer := none, waking := false } }

/-- STANDBY is answered OK when the conditions hold, its own frame apart, and STANDBY is entered once that reply has been sent
and they still hold; else WRONG-STATE. A second STANDBY reply that waits then goes on waiting. Any other frame that has been
sent leaves the choice of the next to the transmitter (R157, R184, R187; the STANDBY request's own frame and a frame being sent
are no conditions: log 28; a reply leaves its queue as its sending begins: log 5). -/
def Obligations.StandbyAndFramesSent : Prop :=
  (∀ s s0 : State, s.asked 0x15#8 [] s0 →
      let s1 := touchStandby s0
      let free := ({ s1 with link := { s1.link with holding := s1.link.holding.tail } }).standbyOk
      (free = true → exec (.standby []) s =
        .next (reply 0x15#8 (ok []) { s1 with call := { s1.call with standbyPending := true } }))
      ∧ (free = false → exec (.standby []) s = .next (reply 0x15#8 (plainAnswer .wrongState) (touchStandby s1))))
    ∧ (∀ s : State, s.call.standbyPending = true → s.link.sending = some (.reply 0x15#8 (ok [])) →
        let s1 : State :=
          { s with
            link := { s.link with sending := none }
            call := { s.call with standbyPending := s.link.replies.any OutFrame.isStandbyOk } }
        (s1.standbyOk = true → exec .linkFrameSent s = .next (enterStandby s1))
        ∧ (s1.standbyOk = false → exec .linkFrameSent s = .next (touchStandby { s1 with link := s1.link.kick })))
    ∧ (∀ (s : State) (f : OutFrame), s.link.sending = some f →
        s.call.standbyPending = false ∨ (∀ a : Answer, f = .reply 0x15#8 a → a.result ≠ .ok) →
        exec .linkFrameSent s = .next { s with link := ({ s.link with sending := none }).kick })
    ∧ (∀ f : OutFrame, f.isStandbyOk = true ↔ ∃ a : Answer, f = .reply 0x15#8 a ∧ a.result = .ok)
    ∧ (∀ l : Link, l.sending = none → ∀ f rest, l.replies = f :: rest → l.kick = { l with sending := some f, replies := rest })
    ∧ (∀ l : Link, l.sending = none → l.replies = [] → l.mode = .push → ∀ r, headReport? l.reports = some r →
        l.kick = { l with sending := some (.report r), reports := dropHead r l.reports })
    ∧ ∀ l : Link, l.sending = none → l.replies = [] → l.mode = .pull ∨ l.reports = [] → l.kick = l

/-- WAKE_EVENT begins a wake in STANDBY by a ring outside the lockout, which fixes the call mode, by WAKE, or by sense lines
that differ from those noted. Within a wake a further event has no effect; that the assertion of WAKE there and out of STANDBY
still sets the level of the pin, which the standby conditions read, is the model's choice (log 61). WAKE_COMPLETE ends the wake
in RING-CHECK with a ring counted and the call mode as it was fixed, else in IDLE (log 37), with the DRAM out of self-refresh,
the scan starting afresh and the link hunting; that the DRAM stays in self-refresh until then is the model's choice (log 67)
(R85, R95, R141, R158, R159, R165). -/
def Obligations.WakeEvents : Prop :=
  (∀ s : State, s.call.state = .standby → s.call.waking = false →
      (s.call.lockout = false → exec (.wakeEvent .ring) s = .next { s with
        call := { s.call with ringCount := 1, callMode := some s.call.mode, waking := true }
        pins := { s.pins with ring := true } })
      ∧ (s.call.lockout = true → exec (.wakeEvent .ring) s = .next s)
      ∧ exec (.wakeEvent .wakeInput) s = .next { s with
          call := { s.call with waking := true }, pins := { s.pins with wake := true } }
      ∧ (∀ sense : BitVec 8, sense ≠ s.kb.noted →
          exec (.wakeEvent (.keyboard sense)) s = .next { s with
            call := { s.call with waking := true }, pins := { s.pins with sense := sense } })
      ∧ exec (.wakeEvent (.keyboard s.kb.noted)) s = .next s)
    ∧ (∀ s : State, s.call.state ≠ .standby ∨ s.call.waking = true →
        exec (.wakeEvent .wakeInput) s = .next { s with pins := { s.pins with wake := true } }
        ∧ exec (.wakeEvent .ring) s = .next s
        ∧ ∀ sense : BitVec 8, exec (.wakeEvent (.keyboard sense)) s = .next s)
    ∧ ∀ s : State, s.call.state = .standby → s.call.waking = true →
        ∃ t, exec .wakeComplete s = .next t
          ∧ t.call = (if 1 ≤ s.call.ringCount then
              { s.call with state := .ringCheck, waking := false, standbyTimer := none }
            else { s.call with state := .idle, waking := false, standbyTimer := timerOf s.call.standbyAfter })
          ∧ t.store = { s.store with selfRefresh := false, debt := 0, banks := Vector.replicate 4 .closed }
          ∧ t.kb.fresh = true ∧ t.kb.running = true ∧ t.kb.pos = 0 ∧ t.kb.list = [] ∧ t.kb.keymap = s.kb.keymap
          ∧ t.kb.buffer = s.kb.buffer ∧ t.link = { s.link with rx := .hunt } ∧ t.rx = { s.rx with level := .mark }
          ∧ t.conv = s.conv ∧ t.tx = s.tx ∧ t.agr = s.agr ∧ t.router = s.router ∧ t.pr = s.pr ∧ t.pu = s.pu ∧ t.mem = s.mem

/-! ### The transmitter, the answerback and rate agreement -/

/-- SEND-BREAK: space from now, the slots and the held code flushed, the transmit plane UNKNOWN, the duty cancelled, a running
playback paused at its sent cursor; BUSY during a signal, WRONG-STATE out of CONNECTED. BREAK_SIGNAL_END returns the line to
mark, as the twentieth tick of the break does (R44, R46, R48, R50). -/
def Obligations.BreakSent : Prop :=
  (∀ s s0 : State, s.asked 0x13#8 [] s0 →
      let s1 := touchStandby s0
      (s1.call.state ≠ .connected → exec (.sendBreak []) s = .next (reply 0x13#8 (plainAnswer .wrongState) s1))
      ∧ (s1.call.state = .connected → s1.tx.signal ≠ .none →
          exec (.sendBreak []) s = .next (reply 0x13#8 (plainAnswer .busy) s1))
      ∧ (s1.call.state = .connected → s1.tx.signal = .none →
          ∃ t, exec (.sendBreak []) s = .next (reply 0x13#8 (ok []) t)
            ∧ t.tx = { s1.tx with
                front := none, next := none, txd := .space, signal := .brk 0, duty := .none, given := 0, counted := 0
                passed := [] }
            ∧ t.conv = { s1.conv with txPlane := .unknown, held := none }
            ∧ (s1.call.play.state ≠ .running → t.call = s1.call ∧ t.store = s1.store)
            ∧ (s1.call.play.state = .running →
                t.call = { s1.call with play := { s1.call.play with
                  state := .paused, readPos := s1.sentCursor, buf := [], skipped := [] } }
                ∧ t.store.playRead = none ∧ t.store.dir = s1.store.dir ∧ t.store.queue = s1.store.queue)
            ∧ t.rx = s1.rx ∧ t.router = s1.router ∧ t.kb = s1.kb ∧ t.pr = s1.pr ∧ t.pu = s1.pu ∧ t.link = s1.link
            ∧ t.latches = s1.latches ∧ t.mem = s1.mem))
    ∧ ∀ (s : State) (n : Nat), s.tx.signal = .brk n →
        exec .breakSignalEnd s = .next { s with tx := { s.tx with signal := .none, txd := .mark } }
        ∧ (n < 19 → signalTick s = { s with tx := { s.tx with signal := .brk (n + 1) } })
        ∧ (19 ≤ n → signalTick s = { s with tx := { s.tx with signal := .none, txd := .mark } })

/-- SEND-ANSWERBACK acts in IDLE, AGREEING and CONNECTED only, and is BUSY while a duty exists; a trigger out of those states or
within a duty does nothing. A trigger with no string raises NO-ANSWERBACK; with one it sets the duty, which in IDLE the router
takes to its end at once: CR LF, the string, CR LF, one character after another, before the reply (log 69) (R12, R45, R46, R47;
IDLE: log 20). -/
def Obligations.SendAnswerback : Prop :=
  (∀ s s0 : State, s.asked 0x14#8 [] s0 →
    let s1 := touchStandby s0
    (s1.call.state ≠ .idle → s1.call.state ≠ .agreeing → s1.call.state ≠ .connected →
      exec (.sendAnswerback []) s = .next (reply 0x14#8 (plainAnswer .wrongState) s1))
    ∧ (s1.call.state = .idle ∨ s1.call.state = .agreeing ∨ s1.call.state = .connected →
        (s1.tx.duty ≠ .none → exec (.sendAnswerback []) s = .next (reply 0x14#8 (plainAnswer .busy) s1))
        ∧ (s1.tx.duty = .none →
            exec (.sendAnswerback []) s = .next (reply 0x14#8 (ok []) (triggerAnswerback s1)))))
  ∧ (∀ s : State,
      let want (d : Duty) : State := { s with tx := { s.tx with duty := d, given := 0, counted := 0, passed := [] } }
      (s.tx.duty ≠ .none → triggerAnswerback s = s)
      ∧ (s.call.state ≠ .idle → s.call.state ≠ .agreeing → s.call.state ≠ .connected → triggerAnswerback s = s)
      ∧ (s.call.state = .idle ∨ s.call.state = .agreeing ∨ s.call.state = .connected → s.tx.duty = .none →
          (s.conv.answerback = [] → triggerAnswerback s = raise .noAnswerback s)
          ∧ (s.conv.answerback ≠ [] → s.call.state ≠ .idle → triggerAnswerback s = want .pending)
          ∧ (s.conv.answerback ≠ [] → s.call.state = .idle →
              let t := takeAnswerback ([0x03#7, 0x04#7] ++ s.conv.answerback ++ [0x03#7, 0x04#7]) (want .sending)
              triggerAnswerback s = { t with tx := { t.tx with duty := .none, given := 0, counted := 0, passed := [] } })))
  ∧ ∀ s : State, takeAnswerback [] s = s
      ∧ ∀ c rest, takeAnswerback (c :: rest) s = takeAnswerback rest (routerTake .answerback c s)

/-- SENT_POINT begins the stop at mark, sets the idle-clear timer afresh, and gives the source its notice: an acknowledged
offer counts, an answerback character counts, a playback's character raises its sent cursor. FRONT_STOP_END empties FRONT, into
which NEXT moves with a space. TXD carries a start unit of space, unit k from bit k − 1, a stop of mark, at 32 samples a unit;
a tick brings it up to date, to the beginning of the next unit at the latest (log 21). The sent cursor and the answerback count
pass the unsendable characters that stand there; at the length the playback is DONE, at n + 4 the duty ends (R39 to R41, R46,
R50, R151, R156). -/
def Obligations.SentPointAndStop : Prop :=
  (∀ (s : State) (f : Front), s.tx.front = some f → f.sent = false →
      let s1 : State := { s with
        tx := { s.tx with front := some { f with sent := true, cycles := 192 * sampleCycles f.rate }, txd := .mark }
        call := if s.call.state = .connected then { s.call with idleTimer := timerOf s.call.idleClear } else s.call }
      (f.slot.source = .offer → f.slot.kind = .offerCode 3 true → s.agr.active = true →
        exec .sentPoint s = .next (makeSwitches { s1 with agr := { s1.agr with sent := s.agr.sent + 1 } }))
      ∧ (f.slot.source = .offer → f.slot.kind ≠ .offerCode 3 true ∨ s.agr.active = false → exec .sentPoint s = .next s1)
      ∧ (f.slot.source = .answerback → f.slot.kind = .char → s.tx.duty ≠ .none →
        exec .sentPoint s = .next (countAnswerback (s.tx.counted + 1) s1))
      ∧ (f.slot.source = .playback → f.slot.kind = .char → s.call.play.state = .running → s.call.play.run = f.slot.run →
        exec .sentPoint s = .next (advanceSent (f.slot.index + 1) s1))
      ∧ (f.slot.source = .keyboard ∨ f.slot.source = .linkText ∨ f.slot.kind = .shift → exec .sentPoint s = .next s1))
    ∧ (∀ (s : State) (f : Front), s.tx.front = some f → f.sent = true →
        (∀ x, s.tx.next = some x →
          exec .frontStopEnd s = .next { s with
            tx := { s.tx with front := some ⟨x, false, s.tx.rate, s.tx.stopLength, 0⟩, next := s.conv.held, txd := .space }
            conv := { s.conv with held := none } })
        ∧ (∀ x, s.tx.next = none → s.conv.held = some x →
          exec .frontStopEnd s = .next { s with
            tx := { s.tx with front := some ⟨x, false, s.tx.rate, s.tx.stopLength, 0⟩, txd := .space }
            conv := { s.conv with held := none } })
        ∧ (s.tx.next = none → s.conv.held = none →
            exec .frontStopEnd s = .next { s with tx := { s.tx with front := none } }))
    ∧ ((sampleCycles .r50 = 2304 ∧ sampleCycles .r75 = 1536 ∧ sampleCycles .r100 = 1152 ∧ sampleCycles .r150 = 768
          ∧ sampleCycles .r200 = 576 ∧ sampleCycles .r300 = 384)
      ∧ (StopLength.samples .one = 32 ∧ StopLength.samples .oneAndHalf = 48 ∧ StopLength.samples .two = 64)
      ∧ (∀ f : Front,
          (∀ n, n < 32 → f.level n = .space) ∧ (∀ n, 192 ≤ n → f.level n = .mark)
          ∧ ∀ k n, 1 ≤ k → k ≤ 5 → 32 * k ≤ n → n < 32 * (k + 1) →
              f.level n = if f.slot.code.getLsbD (k - 1) then .mark else .space)
      ∧ (∀ t : Transmitter, t.front = none → t.advance = t)
      ∧ ∀ (t : Transmitter) (f : Front), t.front = some f →
          let limit := (if f.sent then 192 + f.stop.samples else 192) * sampleCycles f.rate - 1
          let unit := (f.cycles / (32 * sampleCycles f.rate) + 1) * (32 * sampleCycles f.rate)
          let c := min limit (min unit (f.cycles + 57600))
          t.advance = { t with front := some { f with cycles := c }, txd := f.level (c / sampleCycles f.rate) })
    ∧ (∀ (s : State) (v : Nat),
        let p := s.call.play
        (∃ w, v ≤ w ∧ (∀ i, v ≤ i → i < w → i ∈ p.skipped) ∧ w ∉ p.skipped ∧
          let s1 : State := { s with
            store := { s.store with dir := s.store.dir.map fun e =>
              if e.number = p.number then { e with sent := min e.length w } else e }
            call := { s.call with play := { p with skipped := p.skipped.filter fun x => decide (w ≤ x) } } }
          (w < s.store.lengthOf p.number → advanceSent v s = s1)
          ∧ (s.store.lengthOf p.number ≤ w → advanceSent v s = autoReleaseTest p.number
              (raise (.playbackDone p.number .done w)
                { s1 with call := { s1.call with play := { s1.call.play with state := .done } } })))
        ∧ (s.sentCursor = v → skipPlayback v s = advanceSent (v + 1) s)
        ∧ (s.sentCursor ≠ v →
            skipPlayback v s = { s with call := { s.call with play := { p with skipped := p.skipped ++ [v] } } }))
    ∧ ∀ (s : State) (v : Nat),
        (∃ w, v ≤ w ∧ (∀ i, v ≤ i → i < w → i ∈ s.tx.passed) ∧ w ∉ s.tx.passed
          ∧ (w < s.conv.answerback.length + 4 → countAnswerback v s = { s with tx := { s.tx with counted := w } })
          ∧ (s.conv.answerback.length + 4 ≤ w → countAnswerback v s =
              { s with tx := { s.tx with duty := .none, given := 0, counted := 0, passed := [] } }))
        ∧ (s.tx.counted = v → skipAnswerback v s = countAnswerback (v + 1) s)
        ∧ (s.tx.counted ≠ v → skipAnswerback v s = { s with tx := { s.tx with passed := s.tx.passed ++ [v] } })

/-- ARBITER_FILL fills an empty NEXT: the held code first; in AGREEING the codes of the offer, up to two acknowledged offers; in
CONNECTED the answerback, the playback, the keyboard and the link text, in that order. A character of a source is taken by the
other sinks of its row and then encoded: a shift code goes before it when the plane must change; an unsendable one is reported,
before the end of a playback that it brings (log 70), and the arbiter chooses again at once (R8, R42, R55, R67, R71). -/
def Obligations.ArbiterFill : Prop :=
  (∀ s : State, s.tx.next.isSome = true ∨ s.txOpen = false → exec .arbiterFill s = .next s)
    ∧ (∀ (s : State) (x : Slot), s.tx.next = none → s.txOpen = true → s.conv.held = some x →
        (s.tx.front.isSome = true → exec .arbiterFill s = .next
          { s with tx := { s.tx with next := some x }, conv := { s.conv with held := none } })
        ∧ (s.tx.front = none → exec .arbiterFill s = .next { s with
            tx := { s.tx with front := some ⟨x, false, s.tx.rate, s.tx.stopLength, 0⟩, txd := .space }
            conv := { s.conv with held := none } }))
    ∧ (∀ s : State, s.tx.next = none → s.txOpen = true → s.conv.held = none → s.call.state = .agreeing →
        (s.agr.active = true → s.agr.formed < 2 →
          exec .arbiterFill s = .next (enterNext s.agr.give.1 { s with agr := s.agr.give.2 }))
        ∧ (s.agr.active = false ∨ 2 ≤ s.agr.formed → exec .arbiterFill s = .next s))
    ∧ (∀ a : Agreement,
        (a.nextCode = 0 → a.give.1.code = 0 ∧ a.give.2 = { a with nextCode := 1 })
        ∧ (a.nextCode = 1 → a.give.1.code = 0 ∧ a.give.2 = { a with nextCode := 2 })
        ∧ (a.nextCode = 2 → (∀ i, i < 5 → a.give.1.code.getLsbD i = decide (i < a.localTop.index))
            ∧ a.give.2 = { a with nextCode := 3 })
        ∧ (a.nextCode = 3 → a.give.1.code.getLsbD 0 = a.partnerMask.isSome ∧ a.give.1.code.getLsbD 1 = a.localQuality
            ∧ a.give.1.code.toNat < 4
            ∧ a.give.2 = { a with nextCode := 0, formed := a.formed + bit a.partnerMask.isSome }))
    ∧ (∀ (s : State) (n : Nat), exec .arbiterFill s = .next (refill 256 s) ∧ refill 0 s = s
        ∧ ((chooseNext s).2 = false → refill (n + 1) s = (chooseNext s).1)
        ∧ ((chooseNext s).2 = true → refill (n + 1) s = refill n (chooseNext s).1))
    ∧ (∀ s : State, s.tx.next = none → s.txOpen = true → s.conv.held = none → s.call.state = .connected →
        let text : List StationCode := [0x03#7, 0x04#7] ++ s.conv.answerback ++ [0x03#7, 0x04#7]
        let duty : Bool := decide (s.tx.duty ≠ .none) && decide (s.tx.given < text.length)
        let play : Bool := decide (s.call.play.state = .running) && !s.call.play.buf.isEmpty
        let keys : Bool := !s.kb.buffer.isEmpty && (s.row .keyboard).lineOut && s.sinksReady .keyboard
        let link : Bool := !s.router.linkText.isEmpty && (s.row .linkText).lineOut && s.sinksReady .linkText
        (∀ c, duty = true → text[s.tx.given]? = some c →
          chooseNext s = winTake .answerback .answerback s.tx.given 0 c (skipAnswerback s.tx.given)
            { s with tx := { s.tx with duty := .sending, given := s.tx.given + 1 } })
        ∧ (∀ c rest, duty = false → play = true → s.call.play.buf = c :: rest →
          let w := winTake .playback .playback s.call.play.readPos s.call.play.run c (skipPlayback s.call.play.readPos)
            { s with call := { s.call with play := { s.call.play with buf := rest, readPos := s.call.play.readPos + 1 } } }
          chooseNext s = (playbackAsk w.1, w.2))
        ∧ (∀ c rest, duty = false → play = false → keys = true → s.kb.buffer = c :: rest →
          chooseNext s = winTake .keyboard .keyboard 0 0 c id { s with kb := { s.kb with buffer := rest } })
        ∧ (∀ c rest, duty = false → play = false → keys = false → link = true → s.router.linkText = c :: rest →
          chooseNext s = winTake .linkText .linkText 0 0 c id { s with router := { s.router with linkText := rest } })
        ∧ (duty = false → play = false → keys = false → link = false → exec .arbiterFill s = .next s))
    ∧ ∀ (src : Source) (sl : SlotSource) (i n : Nat) (c : StationCode) (f : State → State) (s : State),
        let r := takeAt src (s.row src) c s
        (r.1.conv.encode r.1.conv.txPlane c = none →
          winTake src sl i n c f s = (storeFullAct r.2 (f (raise (.unsendable c) r.1)), true))
        ∧ (∀ e, r.1.conv.encode r.1.conv.txPlane c = some e → e.shift = none →
          winTake src sl i n c f s = (storeFullAct r.2
            (enterNext ⟨e.code, sl, .char, i, n⟩ { r.1 with conv := { r.1.conv with txPlane := e.plane } }), false))
        ∧ ∀ e sh, r.1.conv.encode r.1.conv.txPlane c = some e → e.shift = some sh →
          winTake src sl i n c f s = (storeFullAct r.2
            (enterNext ⟨sh, sl, .shift, i, n⟩
              { r.1 with conv := { r.1.conv with txPlane := e.plane, held := some ⟨e.code, sl, .char, i, n⟩ } }), false)

/-- Rate agreement. The offer parser reads preamble, preamble, M1 and M2; what does not fit makes a plain machine before any
complete offer, and else counts as an inconsistent offer. A complete offer is judged: the second equal M1 in a row fixes the
partner mask, an acknowledged offer counts. The agreed rate is the highest in both masks. The switches are made as the counts
call for them, and with both agreement ends AGREED. The two timers, 3 s with no complete partner offer and 7 s with no receive
switch, connect the call at 50 units/s, PLAIN or FAULT; FAULT sets its latch and raises AGREEMENT-FAULT before CALL-CONNECTED
(R56 to R60, R147; log 48; the 7 s timer with no complete offer: log 49). -/
def Obligations.AgreementTimers : Prop :=
  (∀ s : State, s.call.state = .agreeing → s.agr.offerSeen = false → s.agr.timer < 192 →
      exec .agreementTimer3s s = .next (callConnected .r50 .plain none
        { s with agr := { s.agr with timer := 192 }, tx := { s.tx with rate := .r50 } }))
    ∧ (∀ s : State, s.call.state = .agreeing → s.agr.rxSwitched = false →
      exec .agreementTimer7s s = .next (callConnected .r50 .fault none (raise .agreementFault
        { s with
          agr := { s.agr with timer := 448 }, tx := { s.tx with rate := .r50 }
          latches := { s.latches with agreementFault := true } })))
    ∧ (∀ (r : Rate) (o : AgreeOutcome) (q : Option Bool) (s : State),
        let s1 := raise (.callConnected r o q) { s with
          agr := { s.agr with active := false }
          call := { s.call with
            state := .connected, rate := some r, outcome := some o, partnerQuality := q, reached := true
            idleTimer := timerOf s.call.idleClear } }
        callConnected r o q s = if s.tx.answerbackOnConnect then triggerAnswerback s1 else s1)
    ∧ (∀ s : State,
        let s1 : State := { s with agr := { s.agr with timer := s.agr.timer + 1 } }
        (s.agr.timer = 191 → s.agr.offerSeen = false → agreementTick s = fallBack .plain s1)
        ∧ (s.agr.timer = 447 → s.agr.rxSwitched = false → agreementTick s = fallBack .fault s1)
        ∧ (s.agr.timer ≠ 191 ∨ s.agr.offerSeen = true → s.agr.timer ≠ 447 ∨ s.agr.rxSwitched = true →
            agreementTick s = s1)
        ∧ fallBack .plain s = callConnected .r50 .plain none { s with tx := { s.tx with rate := .r50 } }
        ∧ fallBack .fault s = callConnected .r50 .fault none (raise .agreementFault { s with
            tx := { s.tx with rate := .r50 }, latches := { s.latches with agreementFault := true } }))
    ∧ (∀ s : State,
        (s.agr.offerSeen = false → misfit s = (fallBack .plain s, true))
        ∧ (s.agr.offerSeen = true → misfit s = ({ s with agr := { s.agr with
            parser := .first, keptM1 := if s.agr.partnerMask.isSome then s.agr.keptM1 else none } }, false))
        ∧ agreementTake none s = misfit s
        ∧ ∀ r : RawCode,
          (s.agr.parser = .first → agreementTake (some r) s =
            if r = 0 then ({ s with agr := { s.agr with parser := .second } }, false) else misfit s)
          ∧ (s.agr.parser = .second → agreementTake (some r) s =
            if r = 0 then ({ s with agr := { s.agr with parser := .m1 } }, false) else misfit s)
          ∧ (s.agr.parser = .m1 → agreementTake (some r) s = ({ s with agr := { s.agr with parser := .m2 r } }, false))
          ∧ ∀ m1, s.agr.parser = .m2 m1 →
              agreementTake (some r) s = (makeSwitches { s with agr := s.agr.judge m1 r }, false))
    ∧ (∀ (a : Agreement) (m1 m2 : RawCode),
        let a1 : Agreement := { a with parser := .first, offerSeen := true }
        let a2 : Agreement := { a1 with partnerQuality := some (m2.getLsbD 1) }
        let count : Nat := a.rcvd + if m2.getLsbD 0 then 1 else 0
        (4 ≤ m2.toNat → a.judge m1 m2 = { a1 with keptM1 := if a.partnerMask.isSome then a.keptM1 else none })
        ∧ (m2.toNat < 4 →
          (∀ m, a.partnerMask = some m → a.judge m1 m2 = if m = m1 then { a2 with rcvd := count } else a2)
          ∧ (a.partnerMask = none → a.keptM1 = some m1 →
            a.judge m1 m2 = { a2 with partnerMask := some m1, rcvd := count })
          ∧ (a.partnerMask = none → a.keptM1 ≠ some m1 → a.judge m1 m2 = { a2 with keptM1 := some m1 })))
    ∧ (∀ a : Agreement, (a.partnerMask = none → a.agreedRate = .r50)
        ∧ ∀ m, a.partnerMask = some m →
          a.agreedRate.index ≤ a.localTop.index
          ∧ (a.agreedRate = .r50 ∨ m.getLsbD (a.agreedRate.index - 1) = true)
          ∧ ∀ r : Rate, r.index ≤ a.localTop.index → r = .r50 ∨ m.getLsbD (r.index - 1) = true →
              r.index ≤ a.agreedRate.index)
    ∧ ∀ s : State,
        let tx : Bool := !s.agr.txSwitched && decide (2 ≤ s.agr.sent) && decide (1 ≤ s.agr.rcvd)
        let rx : Bool := !s.agr.rxSwitched && decide (2 ≤ s.agr.rcvd)
        let t : State := { s with
          tx := { s.tx with rate := if tx then s.agr.agreedRate else s.tx.rate }
          rx :=
            if rx then { s.rx with
              q := 0, n := 0, a := 0, s := if s.rx.orientation then 0 else s.rx.s0, rate := s.agr.agreedRate }
            else s.rx
          agr := { s.agr with txSwitched := s.agr.txSwitched || tx, rxSwitched := s.agr.rxSwitched || rx } }
        (t.agr.txSwitched = true → t.agr.rxSwitched = true →
          makeSwitches s = callConnected s.agr.agreedRate .agreed s.agr.partnerQuality t)
        ∧ (t.agr.txSwitched = false ∨ t.agr.rxSwitched = false → makeSwitches s = t)

/-! ### The line receiver -/

/-- FILTERED_TRANSITION: three equal samples of the level opposite to the filtered one change it, and mark ends the run of
space; in HUNT a space begins a character in a call state that assembles, in START-CHECK and ASSEMBLE the transition is kept
with its date and in ASSEMBLE measured, in WAIT-MARK mark returns to HUNT. Within a character a transition comes three samples
after the last one at the earliest, another is no transition. START_UNIT_CHECK goes on with space and back to HUNT with mark
(R17 to R20, R22, R24, R32; dates with no character in progress: log 22). -/
def Obligations.ReceiverEvents : Prop :=
  (∀ (s : State) (date : Nat) (l : Level), l = s.rx.level.flip → s.rx.dateFits date = true → s.call.state ≠ .standby →
      let raw : Level := if s.rx.sense = .normal then l else l.flip
      let r : Receiver :=
        if l = .mark then { s.rx with level := .mark, spaceCount := 0, breakReady := true, clearReady := true }
        else { s.rx with level := .space }
      let t (x : Receiver) : State := { s with rx := x, pins := { s.pins with rxd := raw } }
      (s.rx.state = .hunt → l = .space → s.call.state.assembles = true →
        exec (.filteredTransition date raw raw raw) s =
          .next (t { r with state := .startCheck, sc := s.rx.s, edges := [(0, .space)], measured := [] }))
      ∧ (s.rx.state = .hunt → l = .mark ∨ s.call.state.assembles = false →
        exec (.filteredTransition date raw raw raw) s = .next (t r))
      ∧ (s.rx.state = .startCheck →
        exec (.filteredTransition date raw raw raw) s = .next (t { r with edges := s.rx.edges ++ [(date, l)] }))
      ∧ (s.rx.state = .assemble →
        exec (.filteredTransition date raw raw raw) s = .next (t
          { r with
            edges := s.rx.edges ++ [(date, l)]
            measured :=
              if (date : Int) < 208 + s.rx.sc ∧ 17 ≤ date ∧ s.rx.measured.length < 6
                  ∧ s.rx.measured.all (fun x => x.1 != 32 * ((date + 16) / 32)) = true then
                s.rx.measured ++ [(32 * ((date + 16) / 32), (date : Int) - (32 * ((date + 16) / 32) : Nat))]
              else s.rx.measured }))
      ∧ (s.rx.state = .waitMark → l = .mark →
        exec (.filteredTransition date raw raw raw) s = .next (t { r with state := .hunt }))
      ∧ (s.rx.state = .waitMark → l = .space → exec (.filteredTransition date raw raw raw) s = .next (t r)))
    ∧ (∀ (r : Receiver) (date : Nat),
        (r.state = .hunt ∨ r.state = .waitMark → r.dateFits date = true)
        ∧ (r.state = .startCheck → (r.dateFits date = true ↔ r.lastDate + 3 ≤ date ∧ date ≤ 16))
        ∧ (r.state = .assemble →
            (r.dateFits date = true ↔ r.lastDate + 3 ≤ date ∧ 17 ≤ date ∧ (date : Int) ≤ 208 + r.sc))
        ∧ ∀ (es : List (Nat × Level)) (x : Nat × Level), r.edges = es ++ [x] → r.lastDate = x.1)
    ∧ (∀ (s : State) (date : Nat) (l : Level), s.rx.dateFits date = false →
        exec (.filteredTransition date l l l) s = .next s)
    ∧ (∀ (s : State) (date : Nat) (a b c : Level), ¬(a = c ∧ b = c) → exec (.filteredTransition date a b c) s = .next s)
    ∧ ∀ s : State, s.rx.state = .startCheck →
        (s.rx.level = .space → exec .startUnitCheck s = .next { s with rx := { s.rx with state := .assemble } })
        ∧ (s.rx.level = .mark →
            exec .startUnitCheck s = .next { s with rx := { s.rx with state := .hunt, edges := [], measured := [] } })

/-- CHARACTER_RECEIVED: the figures Q, N, A and s of a character of AGREEING or CONNECTED, the state afterward, Q handed to the
open incoming message, and the delivery: to the offer parser in AGREEING, to the code converter in CONNECTED, where the
idle-clear timer is set afresh, and in CLEARING, where nothing is measured. With orientation on and a transition measured, A
takes the sum of the displacements and is then brought within −47..+47 in steps of 48, each of which moves s by 1, held at −6
and +6; else A and s stay. In AGREEING a preamble, M1 or M2 goes on in the offer, and a misfit makes a plain machine before any
complete offer, else an inconsistent offer (R21 to R23, R25 to R30, R56, R70, R151). -/
def Obligations.CharacterReceived : Prop :=
  ∀ s : State, s.rx.state = .assemble →
    let good : Bool := decide (levelAt s.rx.edges (208 + s.rx.sc) = .mark)
    let code : Option RawCode := if good then some s.rx.rawCode else none
    let p : Nat := if good then (s.rx.measured.map fun x => x.2.natAbs).foldl max 0 else 16
    let drift : Int × Int := s.rx.drift
    let s2 : State := { s with
      rx := { s.rx with
        state := if good then .hunt else .waitMark, edges := [], measured := []
        q := (clampInt 0 4096 ((s.rx.q : Int) + Int.tdiv (256 * (p : Int) - (s.rx.q : Int)) 8)).toNat
        n := min 65535 (s.rx.n + 1), a := drift.1, s := drift.2, goodSeen := s.rx.goodSeen || good }
      store := s.store.handQ (nextQ s.rx.q p) }
    (s.call.state = .agreeing →
      let r : State × Bool :=
        match code, s2.agr.parser with
        | some c, .first => if c = 0 then ({ s2 with agr := { s2.agr with parser := .second } }, false) else misfit s2
        | some c, .second => if c = 0 then ({ s2 with agr := { s2.agr with parser := .m1 } }, false) else misfit s2
        | some c, .m1 => ({ s2 with agr := { s2.agr with parser := .m2 c } }, false)
        | some c, .m2 m => (makeSwitches { s2 with agr := s2.agr.judge m c }, false)
        | none, _ => misfit s2
      (r.2 = false → exec .characterReceived s = .next r.1)
      ∧ (r.2 = true → exec .characterReceived s = .next (converterTake code r.1)))
    ∧ (s2.agr.offerSeen = true → misfit s2 = ({ s2 with agr := { s2.agr with
        parser := .first, keptM1 := if s2.agr.partnerMask.isSome then s2.agr.keptM1 else none } }, false))
    ∧ (s2.agr.offerSeen = false → misfit s2 =
        (callConnected .r50 .plain none { s2 with tx := { s2.tx with rate := .r50 } }, true))
    ∧ (s.call.state = .connected → exec .characterReceived s = .next (converterTake code
        { s2 with call := { s2.call with idleTimer := timerOf s.call.idleClear } }))
    ∧ (s.call.state = .clearing → exec .characterReceived s = .next (converterTake code
        { s with rx := { s.rx with state := if good then .hunt else .waitMark, edges := [], measured := [] } }))
    ∧ (∀ q : Nat, s.store.open? .in = none → s.store.handQ q = s.store)
    ∧ (∀ (q : Nat) (e : Entry), s.store.open? .in = some e → s.store.handQ q = { s.store with
        dir := s.store.dir.map fun x => if x.number = e.number then { x with peakQ := max x.peakQ q } else x })
    ∧ (∀ i, i < 5 → s.rx.rawCode.getLsbD i = decide (levelAt s.rx.edges (32 * (i + 1) + 16 + s.rx.sc) = .mark))
    ∧ (s.rx.orientation = false ∨ s.rx.measured = [] → drift = (s.rx.a, s.rx.s))
    ∧ (s.rx.orientation = true → s.rx.measured ≠ [] →
        let t : Int := s.rx.a + (s.rx.measured.map Prod.snd).sum
        let o : Int := s.rx.s
        (-6 ≤ o) → o ≤ 6 → (-143 ≤ t) → t ≤ 143 →
          drift =
            if t ≤ -96 then (t + 96, max (o - 2) (-6))
            else if t ≤ -48 then (t + 48, max (o - 1) (-6))
            else if t ≤ 47 then (t, o)
            else if t ≤ 95 then (t - 48, min (o + 1) 6)
            else (t - 96, min (o + 2) 6))
    ∧ (s.rx.inv → s.rx.measured ≠ [] →
        let t : Int := s.rx.a + (s.rx.measured.map Prod.snd).sum
        (-143 ≤ t) ∧ t ≤ 143 ∧ (-6 ≤ s.rx.s) ∧ s.rx.s ≤ 6)

/-- What the code converter does with a character in CONNECTED: a designated code sets the receive plane and delivers nothing,
an UNASSIGNED entry delivers the ERROR mark and counts an error, any other entry is the LINE-IN character; a framing error
delivers the ERROR mark. A LINE-IN character goes to the matcher, an ASK-ID then triggers the answerback, the sinks take the
character, and a completed sequence closes the incoming message COMPLETE. The store takes it into the open incoming message, or
opens one, or is full. That the trigger comes before the take is the model's choice (log 44). The encoder has the five cases of
R8: the lowest raw code of the plane in force, of the other plane after its shift code, of both planes with the plane UNKNOWN,
of LETTERS and else of FIGURES after the shift code, and none for an unsendable code; unshift-on-space ends in LETTERS (R6, R8
to R10, R14, R15, R45, R70, R72, R148, R149). -/
def Obligations.ConverterTakes : Prop :=
  (∀ (s : State) (r : RawCode), s.conv.ltrsShift = some r →
      converterTake (some r) s = { s with conv := { s.conv with rxPlane := .letters } })
    ∧ (∀ (s : State) (r : RawCode), s.conv.ltrsShift ≠ some r → s.conv.figsShift = some r →
      converterTake (some r) s = { s with conv := { s.conv with rxPlane := .figures } })
    ∧ (∀ (s : State) (r : RawCode) (c : StationCode), s.conv.designated r = false → s.call.state = .connected →
        (s.conv.table s.conv.rxPlane).entry r = some c →
      converterTake (some r) s = lineInTake c false { s with conv := { s.conv with
        rxPlane := if s.conv.unshift = true ∧ c = 0x20#7 then .letters else s.conv.rxPlane } })
    ∧ (∀ (s : State) (r : RawCode), s.conv.designated r = false → s.call.state = .connected →
        (s.conv.table s.conv.rxPlane).entry r = none → converterTake (some r) s = lineInTake 0x7F#7 true s)
    ∧ (∀ s : State, s.call.state = .connected → converterTake none s = lineInTake 0x7F#7 true s)
    ∧ (∀ (c : StationCode) (err : Bool) (s : State),
        let m := eomMatch s.conv.eom s.conv.m c
        let s1 : State := { s with conv := { s.conv with m := m.1 } }
        let s2 := if c = 0x01#7 then triggerAnswerback s1 else s1
        let r := takeAt .lineIn (s2.row .lineIn) c s2
        let s3 := storeFullAct r.2 (if err then { r.1 with store := r.1.store.countError } else r.1)
        (m.2 = false → lineInTake c err s = s3)
        ∧ (m.2 = true → lineInTake c err s = closeOpen .in ⟨true, false, false, false, false, false⟩ s3))
    ∧ (∀ (cv : Converter) (c : StationCode),
        let stands (p : Plane) (r : RawCode) : Prop :=
          cv.ltrsShift ≠ some r ∧ cv.figsShift ≠ some r ∧ (cv.table p).entry r = some c
        let both (r : RawCode) : Prop := stands .letters r ∧ stands .figures r
        let lowest (q : RawCode → Prop) (r : RawCode) : Prop := q r ∧ ∀ x, q x → r.toNat ≤ x.toNat
        let plane (p : Shift) : Shift := if cv.unshift = true ∧ c = 0x20#7 then .letters else p
        (∀ r, lowest (stands .letters) r → cv.encode .letters c = some ⟨none, r, plane .letters⟩)
        ∧ (∀ r, lowest (stands .figures) r → cv.encode .figures c = some ⟨none, r, plane .figures⟩)
        ∧ (∀ r, (∀ x, ¬stands .letters x) → lowest (stands .figures) r →
            cv.encode .letters c = some ⟨cv.figsShift, r, plane .figures⟩)
        ∧ (∀ r, (∀ x, ¬stands .figures x) → lowest (stands .letters) r →
            cv.encode .figures c = some ⟨cv.ltrsShift, r, plane .letters⟩)
        ∧ (∀ r, lowest both r → cv.encode .unknown c = some ⟨none, r, plane .unknown⟩)
        ∧ (∀ r, (∀ x, ¬both x) → lowest (stands .letters) r →
            cv.encode .unknown c = some ⟨cv.ltrsShift, r, plane .letters⟩)
        ∧ (∀ r, (∀ x, ¬stands .letters x) → lowest (stands .figures) r →
            cv.encode .unknown c = some ⟨cv.figsShift, r, plane .figures⟩)
        ∧ ((∀ x, ¬stands .letters x ∧ ¬stands .figures x) → ∀ p : Shift, cv.encode p c = none))
    ∧ ∀ (row : Row) (c : StationCode) (s : State),
        (row.store = false → deliverStore .lineIn row c s = ⟨s, none, false⟩)
        ∧ (row.store = true → ∀ e, s.store.open? .in = some e → deliverStore .lineIn row c s = deliverInto e c s)
        ∧ (row.store = true → s.store.open? .in = none → 64 ≤ s.store.dir.length ∨ s.store.free < 2 →
            deliverStore .lineIn row c s = ⟨s, none, true⟩)
        ∧ (row.store = true → s.store.open? .in = none → s.store.dir.length < 64 → 2 ≤ s.store.free →
            ∀ e, (openIncoming row s).store.open? .in = some e →
              deliverStore .lineIn row c s = deliverInto e c (openIncoming row s))

/-- The line conditions: BREAK_THRESHOLD sets its latch, flushes, takes lost offers back, pauses a playback, its read
abandoned, and raises BREAK-RECEIVED, and before the receive switch ends agreement in FAULT, the break's own effects first (log
19); CLEAR_THRESHOLD inverts the sense once when no good character was seen, else clears the call; both come at a tick that
reads loop current present, so that the loss count is 0; LOOP_CURRENT_LOST clears it with a lost line. At a tick the space
count rises in a run of space while loop current is present and the loss count while it is absent, and each threshold acts once
in a run, at its setting (R17, R32 to R35, R44, R46, R49, R50, R55, R60). -/
def Obligations.LineConditions : Prop :=
  (∀ s : State, s.rx.level = .space → s.rx.breakReady = true →
      let s1 := receivedBreak { s with
        rx := { s.rx with
          loopCurrent := true, lossCount := 0, spaceCount := max s.rx.spaceCount s.rx.brk, breakReady := false }
        pins := { s.pins with loopSense := true }
        latches := { s.latches with breakSeen := true } }
      (s.call.state = .connected → exec .breakThreshold s = .next s1)
      ∧ (s.call.state = .agreeing → s.agr.rxSwitched = true → exec .breakThreshold s = .next s1)
      ∧ (s.call.state = .agreeing → s.agr.rxSwitched = false → exec .breakThreshold s = .next (fallBack .fault s1)))
    ∧ (∀ s : State,
        let lost : List Bool :=
          (match s.tx.front with
            | some f => if f.sent then [] else f.slot.lostOffer
            | none => [])
          ++ (match s.tx.next with
            | some x => x.lostOffer
            | none => [])
        receivedBreak s = raise .breakReceived { s with
          tx := { s.tx with
            front := none, next := none, txd := if s.tx.signal = .none then .mark else s.tx.txd, duty := .none, given := 0
            counted := 0, passed := [] }
          conv := { s.conv with held := none, txPlane := .unknown }
          agr :=
            if s.agr.active = true ∧ lost ≠ [] then
              { s.agr with nextCode := 0, formed := s.agr.formed - lost.count true }
            else s.agr
          call :=
            if s.call.play.state = .running then { s.call with play := { s.call.play with
              state := .paused, readPos := s.sentCursor, buf := [], skipped := [] } }
            else s.call
          store :=
            if s.call.play.state = .running then { s.store with
              playRead := none, access := s.store.access.map (Access.disown .playback) }
            else s.store })
    ∧ (∀ x : Slot,
        (∀ i acked, x.kind = .offerCode i acked → x.lostOffer = [decide (i = 3) && acked])
        ∧ ((∀ i acked, x.kind ≠ .offerCode i acked) → x.lostOffer = []))
    ∧ (∀ s : State, s.call.state = .agreeing ∨ s.call.state = .connected → s.rx.level = .space → s.rx.clearReady = true →
        s.rx.breakReady = false →
        (s.rx.goodSeen = false → s.rx.autoPolarity = true → s.rx.inversionMade = false →
          exec .clearThreshold s = .next { s with
            rx := { s.rx with
              loopCurrent := true, lossCount := 0, sense := s.rx.sense.flip, inversionMade := true, spaceCount := 0
              breakReady := true, clearReady := true }
            pins := { s.pins with loopSense := true }
            latches := { s.latches with polarityReversed := true } })
        ∧ (s.rx.goodSeen = true ∨ s.rx.autoPolarity = false ∨ s.rx.inversionMade = true →
          exec .clearThreshold s = .next (enterClearing .remoteClear { s with
            rx := { s.rx with loopCurrent := true, lossCount := 0, clearReady := false }
            pins := { s.pins with loopSense := true } })))
    ∧ (∀ s : State,
        (s.pins.loopSense = true → lineTick s = clearTick (breakTick { s with rx := { s.rx with
          lossCount := 0
          spaceCount := if s.rx.level = .space then min 255 (s.rx.spaceCount + 1) else s.rx.spaceCount } }))
        ∧ (s.pins.loopSense = false → s.rx.lossCount < 3 →
            lineTick s = { s with rx := { s.rx with lossCount := s.rx.lossCount + 1 } })
        ∧ (s.pins.loopSense = false → 3 ≤ s.rx.lossCount → lineTick s = enterClearing .lineLost { s with
            rx := { s.rx with state := .hunt, edges := [], measured := [] }
            latches := { s.latches with lineLost := true } })
        ∧ (s.rx.level = .space ∧ s.rx.breakReady = true ∧ s.rx.brk ≤ s.rx.spaceCount →
            breakTick s =
              let t := receivedBreak { s with
                rx := { s.rx with spaceCount := max s.rx.spaceCount s.rx.brk, breakReady := false }
                latches := { s.latches with breakSeen := true } }
              if s.call.state = .agreeing ∧ s.agr.rxSwitched = false then fallBack .fault t else t)
        ∧ (¬(s.rx.level = .space ∧ s.rx.breakReady = true ∧ s.rx.brk ≤ s.rx.spaceCount) → breakTick s = s)
        ∧ (s.rx.level = .space ∧ s.rx.clearReady = true ∧ s.rx.clr ≤ s.rx.spaceCount →
            clearTick s =
              if s.rx.goodSeen = false ∧ s.rx.autoPolarity = true ∧ s.rx.inversionMade = false then { s with
                rx := { s.rx with
                  sense := s.rx.sense.flip, inversionMade := true, spaceCount := 0, breakReady := true, clearReady := true }
                latches := { s.latches with polarityReversed := true } }
              else enterClearing .remoteClear { s with rx := { s.rx with clearReady := false } })
        ∧ (¬(s.rx.level = .space ∧ s.rx.clearReady = true ∧ s.rx.clr ≤ s.rx.spaceCount) → clearTick s = s))
    ∧ ∀ s : State, s.call.state = .agreeing ∨ s.call.state = .connected →
        exec .loopCurrentLost s = .next (enterClearing .lineLost { s with
          rx := { s.rx with loopCurrent := false, state := .hunt, edges := [], measured := [] }
          latches := { s.latches with lineLost := true }
          pins := { s.pins with loopSense := false } })

/-- The EOM matcher finds the longest beginning: with `m` the length of the longest beginning of the sequence that ends the
text taken so far, one more character completes the sequence exactly when the text then ends with the whole of it, and
otherwise the count is again that of the longest beginning (R14). -/
def Obligations.MatcherFindsLongest : Prop :=
  ∀ (eom text : List StationCode) (m : Nat) (c : StationCode), LongestMatch eom text m →
    ((eomMatch eom m c).2 = true ↔ eom <:+ text ++ [c])
    ∧ ((eomMatch eom m c).2 = true → (eomMatch eom m c).1 = 0)
    ∧ ((eomMatch eom m c).2 = false → LongestMatch eom (text ++ [c]) (eomMatch eom m c).1)

/-! ### The router -/

/-- HOLDING_SOURCE_TAKE: the head of a holding source whose row holds no LINE-OUT leaves it and is taken by the sinks of its
row, once every one of them has room; else nothing moves. LOST_MARK_JOIN: a due LOST mark joins the printer queue once it has
room. At the sinks an untagged character for the printer is discarded, queued, or dropped with a LOST mark due; a tagged one is
queued, or begins catch-up from a full queue; the punch punches direct text only with no job, never LINE-IN text; LINK joins
the newest TEXT report or begins one, or sets LINK-TEXT-LOST (a take whose own STORE delivery fills the report queue: log 50).
A take reaches STORE, PRINTER, PUNCH and LINK in that order and then acts on STORE-FULL; what STORE puts into the tracked
message is printed with its tag and what it puts into a followed one is punched from there (R66 to R68, R72 to R76, R78, R79,
R131, R149). -/
def Obligations.HoldingSourcesAndSinks : Prop :=
  ((∀ (src : Source) (c : StationCode) (s : State),
      let row := s.row src
      let d := deliverStore src row c s
      let t := touchStandby (deliverLink src row c (deliverPunch src row c d.stored (deliverPrinter row c d.stored d.state)))
      takeAt src row c s = (t, d.full)
      ∧ (d.full = true → t.call.state = .connected → t.call.callMode = some .unattended →
          routerTake src c s = enterClearing .storeFull t)
      ∧ (d.full = false ∨ t.call.state ≠ .connected ∨ t.call.callMode ≠ some .unattended → routerTake src c s = t))
    ∧ (∀ (s : State) (src : Source),
        (s.call.state = .standby ∨ s.call.state = .idle ∨ s.call.state = .ringCheck → s.row src = s.router.localSet.row src)
        ∧ (s.call.state ≠ .standby → s.call.state ≠ .idle → s.call.state ≠ .ringCheck →
            s.row src = (if s.call.callMode = some .unattended then s.router.unattended else s.router.attended).row src))
    ∧ (∀ (src : Source) (row : Row) (c : StationCode) (s : State),
        (row.store = false ∨ src = .playback → deliverStore src row c s = ⟨s, none, false⟩)
        ∧ (row.store = true → src = .answerback →
            (s.store.open? .in = none → deliverStore src row c s = ⟨s, none, false⟩)
            ∧ ∀ e, s.store.open? .in = some e → deliverStore src row c s = deliverInto e c s)
        ∧ (row.store = true → src = .keyboard ∨ src = .linkText →
            (s.store.open? .out = none → deliverStore src row c s = ⟨s, none, false⟩)
            ∧ ∀ e, s.store.open? .out = some e → deliverStore src row c s = deliverInto e c s))
    ∧ (∀ (e : Entry) (c : StationCode) (s : State),
        let r := s.store.storeChar e.dir e c
        (∀ pos, r.2 = .at pos →
          deliverInto e c s = ⟨punchSettle { s with store := r.1 }, some ⟨e.number, pos⟩, false⟩)
        ∧ (r.2 = .blocked → e.dir = .out → deliverInto e c s = ⟨s, none, false⟩)
        ∧ (r.2 = .blocked → e.dir = .in → deliverInto e c s = ⟨{ s with store := { s.store with
            dir := s.store.dir.map fun x =>
              if x.number = e.number then { x with flags := { x.flags with truncated := true }, headerDue := true } else x } },
            none, false⟩)
        ∧ (r.2 = .ringOut → deliverInto e c s =
            ⟨closeMessage e ⟨false, false, true, false, false, false⟩ s, none, decide (e.dir = .in)⟩))
    ∧ (∀ (row : Row) (c : StationCode) (t : Tag) (s : State),
        (s.pr.tracked = some t.number → deliverPrinter row c (some t) s = deliverTagged c t s)
        ∧ (s.pr.tracked ≠ some t.number → deliverPrinter row c (some t) s = deliverPrinter row c none s)
        ∧ deliverPrinter row c none s = (if row.printer then deliverUntagged c s else s))
    ∧ (∀ (src : Source) (row : Row) (c : StationCode) (t : Tag) (s : State),
        ((∃ j ∈ s.pu.chain, j.follow = true ∧ j.number = t.number) → deliverPunch src row c (some t) s = s)
        ∧ ((∀ j ∈ s.pu.chain, j.follow = true → j.number ≠ t.number) →
            deliverPunch src row c (some t) s = deliverPunch src row c none s)))
  ∧ ((∀ s : State, s.call.state ≠ .standby →
        (∀ c rest, s.kb.buffer = c :: rest → (s.row .keyboard).lineOut = false → s.sinksReady .keyboard = true →
          exec (.holdingSourceTake .keyboard) s =
            .next (routerTake .keyboard c { s with kb := { s.kb with buffer := rest } }))
        ∧ (∀ c rest, s.router.linkText = c :: rest → (s.row .linkText).lineOut = false → s.sinksReady .linkText = true →
          exec (.holdingSourceTake .linkText) s =
            .next (routerTake .linkText c { s with router := { s.router with linkText := rest } }))
        ∧ (s.kb.buffer = [] ∨ (s.row .keyboard).lineOut = true ∨ s.sinksReady .keyboard = false →
          exec (.holdingSourceTake .keyboard) s = .next s)
        ∧ (s.router.linkText = [] ∨ (s.row .linkText).lineOut = true ∨ s.sinksReady .linkText = false →
          exec (.holdingSourceTake .linkText) s = .next s))
      ∧ (∀ (s : State) (src : Source), s.sinksReady src = true ↔
          ((s.row src).store = true →
            s.store.queue.length ≤ 2 ∧ ¬((s.store.open? .out).isSome = true ∧ s.store.outCell.state = .waiting))
          ∧ ((s.row src).printer = true → s.pr.unavailable = true ∨ s.pr.queue.length < 64)
          ∧ ((s.row src).punch = true → s.pu.chain = [] ∧ s.pu.queue.length < 32)
          ∧ ((s.row src).link = true → s.link.joinsText src = true ∨ s.link.reports.length < 24))
      ∧ (∀ s : State, s.pr.lostPending = true → s.pr.queue.length < 64 →
          exec .lostMarkJoin s = .next (noteLiveWork { s with pr := { s.pr with
            queue := s.pr.queue ++ [⟨s.pr.lostCode, none⟩], lostPending := false } }))
      ∧ ∀ s : State, s.pr.lostPending = false ∨ 64 ≤ s.pr.queue.length → exec .lostMarkJoin s = .next (noteLiveWork s))
    ∧ ((∀ (c : StationCode) (s : State),
        (s.pr.unavailable = true → deliverUntagged c s = s)
        ∧ (s.pr.unavailable = false → s.pr.queue.length < 64 →
            deliverUntagged c s = noteLiveWork { s with pr := { s.pr with queue := s.pr.queue ++ [⟨c, none⟩] } })
        ∧ (s.pr.unavailable = false → 64 ≤ s.pr.queue.length →
            deliverUntagged c s = { s with pr := { s.pr with lostPending := true } }))
      ∧ (∀ (c : StationCode) (t : Tag) (s : State),
          (s.pr.mode = .catchUp → deliverTagged c t s = s)
          ∧ (s.pr.mode = .direct → s.pr.queue.length < 64 →
              deliverTagged c t s = noteLiveWork { s with pr := { s.pr with queue := s.pr.queue ++ [⟨c, some t⟩] } })
          ∧ (s.pr.mode = .direct → 64 ≤ s.pr.queue.length →
              deliverTagged c t s = offComparison (noteLiveWork
                { s with pr := { s.pr with mode := .catchUp, catchUp := some t.number } })))
      ∧ (∀ (src : Source) (row : Row) (c : StationCode) (s : State),
          (row.punch = true → src ≠ .lineIn → s.pu.chain = [] → s.pu.queue.length < 32 →
            deliverPunch src row c none s =
              punchSettle { s with pu := { s.pu with queue := s.pu.queue ++ [.text c none] } })
          ∧ (row.punch = false ∨ src = .lineIn ∨ s.pu.chain ≠ [] ∨ 32 ≤ s.pu.queue.length →
            deliverPunch src row c none s = s))
      ∧ (∀ (src : Source) (row : Row) (c : StationCode) (s : State),
          (row.link = false → deliverLink src row c s = s)
          ∧ (row.link = true → s.link.joinsText src = true →
              deliverLink src row c s = { s with link := { s.link with reports := appendText c s.link.reports } })
          ∧ (row.link = true → s.link.joinsText src = false → s.link.reports.length < 24 →
              deliverLink src row c s = raise (.text src [c]) s)
          ∧ (row.link = true → s.link.joinsText src = false → 24 ≤ s.link.reports.length →
              deliverLink src row c s = { s with latches := { s.latches with linkTextLost := true } }))
      ∧ ∀ (pre post : List Report) (src : Source) (codes : List StationCode) (c : StationCode),
          (∀ r ∈ post, r.isText = false) →
            appendText c (pre ++ .text src codes :: post) = pre ++ .text src (codes ++ [c]) :: post)

/-- The link-text holding: emptied by power-on and soft reset, kept by call clear and standby; LINK-TEXT takes as many codes as
there is room for, in order, behind those that wait. -/
def Obligations.LinkTextFollowsR69 : Prop :=
  State.reset.router.linkText = []
    ∧ (∀ s : State, (powerOn s).router.linkText = [] ∧ (softReset s).router.linkText = []
        ∧ (callEnd s).router = s.router ∧ (∀ cause, (enterClearing cause s).router = s.router)
        ∧ (enterStandby s).router = s.router)
    ∧ (∀ (s : State) (c : StationCode) (rest : List StationCode), s.router.linkText = c :: rest →
        (dropLinkText s).router.linkText = rest)
    ∧ (∀ (s s0 t : State) (body : List Byte), s.asked 0x20#8 body s0 → s0.router.linkText.length ≤ 64 →
        exec (.linkText body) s = .next t → t.router.linkText.length ≤ 64)
    ∧ ∀ (s s0 : State) (body : List Byte), s.asked 0x20#8 body s0 → body.length ≤ 240 →
        let s1 := touchStandby s0
        let held := s1.router.linkText
        let codes : List StationCode := body.map (BitVec.setWidth 7)
        ((∃ b ∈ body, 128 ≤ b.toNat) → ∃ p, exec (.linkText body) s = .next (reply 0x20#8 ⟨.badValue p, []⟩ s1))
        ∧ ((∀ b ∈ body, b.toNat < 128) →
            (body = [] → exec (.linkText body) s = .next (reply 0x20#8 (ok [0]) s1))
            ∧ (body ≠ [] → held.length + body.length ≤ 64 →
                exec (.linkText body) s = .next (reply 0x20#8 (ok [BitVec.ofNat 8 body.length])
                  { s1 with router := { s1.router with linkText := held ++ codes } }))
            ∧ (held.length < 64 → 64 < held.length + body.length →
                exec (.linkText body) s = .next (reply 0x20#8
                  ⟨.part (64 - held.length), [BitVec.ofNat 8 (64 - held.length)]⟩
                  { s1 with router := { s1.router with linkText := held ++ codes.take (64 - held.length) } }))
            ∧ (body ≠ [] → 64 ≤ held.length →
                exec (.linkText body) s = .next (reply 0x20#8 (plainAnswer .full) s1)))

/-! ### The keyboard -/

/-- KEY_DOWN is a run of readings in which the key reads down. A reading that matches the key's stable level sets its agreement
count to 0, one that differs raises it, and the third in a row changes the level and sets the count to 0. The keys are read in
ascending order round the scan; those passed on the way read their stable levels (log 22). A key whose level becomes DOWN and
that closes a rectangle is HELD-GHOST, one that finds the list full HELD-FULL, any other is recognised and acts by its keymap
entry: a character joins the buffer or is refused with a bell; REPT begins a hold; BREAK sends a break in CONNECTED; HERE-IS
triggers the answerback; LOCAL-LINE is reported (R80 to R83, R87, R88, R90, R92 to R94, R157). -/
def Obligations.KeyDownActs : Prop :=
  (∀ (s : State) (key : Nat), s.kb.running = true → s.kb.fresh = false → key < 64 →
      exec (.keyDown ⟨key, 0⟩) s = .next s
      ∧ (∀ n, exec (.keyDown ⟨key, n⟩) s = .next (readKeys key true n s)
          ∧ readKeys key true (n + 1) s = readKeys key true n (readKey key true s))
      ∧ let s1 := scanTo key true s
        (s.kb.stateOf key ≠ .up →
          exec (.keyDown ⟨key, 1⟩) s = .next { s1 with kb := { s1.kb with agree := s1.kb.agree.setIfInBounds key 0 } })
        ∧ (s.kb.stateOf key = .up → s.kb.agreeOf key < 2 → exec (.keyDown ⟨key, 1⟩) s = .next { s1 with
            kb := { s1.kb with agree := s1.kb.agree.setIfInBounds key (s.kb.agreeOf key + 1) } })
        ∧ (s.kb.stateOf key = .up → 2 ≤ s.kb.agreeOf key → exec (.keyDown ⟨key, 1⟩) s = .next (pressKey key s1)))
    ∧ (∀ (s : State) (key : Nat) (down : Bool), key < 64 →
        let t := scanTo key down s
        let passed (i : Nat) : Prop := if s.kb.pos ≤ key then s.kb.pos ≤ i ∧ i < key else s.kb.pos ≤ i ∨ i < key
        t = { s with
          kb := { s.kb with pos := (key + 1) % 64, agree := t.kb.agree }
          pins := { s.pins with keys := t.pins.keys, sense := t.pins.sense } }
        ∧ (∀ i, i < 64 →
            (passed i → t.kb.agreeOf i = 0) ∧ (¬passed i → t.kb.agreeOf i = s.kb.agreeOf i)
            ∧ (i = key → t.pins.keys[i]? = some down)
            ∧ (i ≠ key → passed i → t.pins.keys[i]? = some (decide (s.kb.stateOf i ≠ .up)))
            ∧ (i ≠ key → ¬passed i → t.pins.keys[i]? = s.pins.keys[i]?))
        ∧ ∀ j, j < 8 → (t.pins.sense.getLsbD j = true ↔ ∃ d, d < 8 ∧ t.pins.keys[8 * d + j]? = some true))
    ∧ (∀ (s : State) (key : Nat),
        let s1 := touchStandby s
        let down (st : KeyState) : Keyboard :=
          { s.kb with keys := s.kb.keys.setIfInBounds key st, agree := s.kb.agree.setIfInBounds key 0 }
        let counted : Keyboard := { s.kb with agree := s.kb.agree.setIfInBounds key 0 }
        (s.kb.inRectangle key = true → pressKey key s = { s1 with kb := down .heldGhost })
        ∧ (s.kb.inRectangle key = false → 4 ≤ s.kb.list.length →
            pressKey key s = { s1 with kb := { down .heldFull with heldFull := s.kb.heldFull ++ [key] } })
        ∧ (s.kb.inRectangle key = false → s.kb.list.length < 4 →
            pressKey key s = recognise key { s1 with kb := counted }))
    ∧ (∀ (k : Keyboard) (key : Nat), key < 64 → (k.inRectangle key = true ↔
        ∃ d t, d < 8 ∧ t < 8 ∧ d ≠ key / 8 ∧ t ≠ key % 8 ∧ k.stateOf (8 * (key / 8) + t) ≠ .up
          ∧ k.stateOf (8 * d + key % 8) ≠ .up ∧ k.stateOf (8 * d + t) ≠ .up))
    ∧ ∀ (s : State) (key : Nat),
        let entry := (s.kb.keymap[key]?).getD .none
        let listed (kind : KeyKind) (code : Option StationCode) : Keyboard :=
          { s.kb with keys := s.kb.keys.setIfInBounds key .recognised, list := s.kb.list ++ [⟨key, kind, code⟩] }
        (∀ u f, entry = .char u f →
          let c := if s.kb.list.any (fun d => d.kind == .shift) then f else u
          let k : Keyboard :=
            if s.kb.hold = .active then { listed .char (some c) with target := some (key, c), timer := some 500 }
            else listed .char (some c)
          (s.kb.buffer.length < 32 → recognise key s = { s with kb := { k with buffer := s.kb.buffer ++ [c] } })
          ∧ (32 ≤ s.kb.buffer.length →
            recognise key s = raise (.keyRefused key c false) { s with kb := k, pr := { s.pr with bell := true } }))
        ∧ (entry = .shift → recognise key s = { s with kb := listed .shift none })
        ∧ (entry = .none → recognise key s = { s with kb := listed .none none })
        ∧ (entry = .rept → s.kb.list.any (fun d => d.kind == .rept) = true →
            recognise key s = { s with kb := listed .rept none })
        ∧ (entry = .rept → s.kb.list.any (fun d => d.kind == .rept) = false →
            recognise key s = { s with kb := { listed .rept none with
              hold := .active, count := 0, target := (listed .rept none).lastChar?
              timer := (listed .rept none).lastChar?.map fun _ => 500 } })
        ∧ (entry = .brk → s.call.state = .connected → s.tx.signal = .none →
            recognise key s = sendBreak { s with kb := listed .brk none })
        ∧ (entry = .brk → s.call.state ≠ .connected ∨ s.tx.signal ≠ .none →
            recognise key s = { s with kb := listed .brk none })
        ∧ (entry = .hereIs → recognise key s = triggerAnswerback { s with kb := listed .hereIs none })
        ∧ (entry = .localLine → recognise key s = raise (.localLine key) { s with kb := listed .localLine none })

/-- KEY_UP is a run of readings in which the key reads up; the keys passed on the way read their stable levels (log 22). A key
whose level becomes UP frees its place in the list, ends its part as the target of the repeat and, as the last REPT key of the
list, the hold. The held keys are then re-examined: a ghost hold stays just while it stands in a rectangle and else is UP with
its agreement count 0; while the list has room the full hold that is held longest is tested, and becomes a ghost hold or is
recognised, its agreement count as it was. REPEAT_TIMER_EXPIRY offers the target's code again, 72 times at most in a hold;
that one which finds no timer running, no target or no ACTIVE hold, and so cannot occur, changes nothing is the model's choice
(log 1). FRESH_START_SCAN makes every key that reads down SPENT (R80 to R82, R84, R85, R90, R91, R95, R157). -/
def Obligations.KeysRepeatsAndScan : Prop :=
  (∀ (s : State) (key : Nat), s.kb.running = true → s.kb.fresh = false → key < 64 →
      exec (.keyUp ⟨key, 0⟩) s = .next s
      ∧ (∀ n, exec (.keyUp ⟨key, n⟩) s = .next (readKeys key false n s)
          ∧ readKeys key false (n + 1) s = readKeys key false n (readKey key false s))
      ∧ let s1 := scanTo key false s
        (s.kb.stateOf key = .up →
          exec (.keyUp ⟨key, 1⟩) s = .next { s1 with kb := { s1.kb with agree := s1.kb.agree.setIfInBounds key 0 } })
        ∧ (s.kb.stateOf key ≠ .up → s.kb.agreeOf key < 2 → exec (.keyUp ⟨key, 1⟩) s = .next { s1 with
            kb := { s1.kb with agree := s1.kb.agree.setIfInBounds key (s.kb.agreeOf key + 1) } })
        ∧ (s.kb.stateOf key ≠ .up → 2 ≤ s.kb.agreeOf key → exec (.keyUp ⟨key, 1⟩) s = .next (releaseKey key s1)))
    ∧ (∀ (s : State) (key : Nat),
        let left := s.kb.list.filter fun d => d.key != key
        let ended : Bool := s.kb.list.any (fun d => d.kind == .rept) && !left.any fun d => d.kind == .rept
        let lost : Bool := ended || s.kb.target.any fun t => t.1 == key
        let k : Keyboard := { s.kb with
          keys := s.kb.keys.setIfInBounds key .up, agree := s.kb.agree.setIfInBounds key 0, list := left
          heldFull := s.kb.heldFull.filter fun x => x != key
          hold := if ended then .absent else s.kb.hold, count := if ended then 0 else s.kb.count
          target := if lost then none else s.kb.target, timer := if lost then none else s.kb.timer }
        releaseKey key s = freeFulls 64 { touchStandby s with kb := k.freeGhosts 64 })
    ∧ (∀ k : Keyboard,
        let t := k.freeGhosts 64
        t = { k with keys := t.keys, agree := t.agree }
        ∧ ∀ key, key < 64 →
            (k.stateOf key ≠ .heldGhost → t.stateOf key = k.stateOf key ∧ t.agreeOf key = k.agreeOf key)
            ∧ (k.stateOf key = .heldGhost → t.inRectangle key = true →
                t.stateOf key = .heldGhost ∧ t.agreeOf key = k.agreeOf key)
            ∧ (k.stateOf key = .heldGhost → t.inRectangle key = false → t.stateOf key = .up ∧ t.agreeOf key = 0))
    ∧ (∀ (n : Nat) (s : State),
        (s.kb.heldFull = [] ∨ 4 ≤ s.kb.list.length → freeFulls (n + 1) s = s)
        ∧ ∀ key rest, s.kb.heldFull = key :: rest → s.kb.list.length < 4 →
            (s.kb.inRectangle key = true → freeFulls (n + 1) s = freeFulls n { s with kb := { s.kb with
              keys := s.kb.keys.setIfInBounds key .heldGhost, heldFull := rest } })
            ∧ (s.kb.inRectangle key = false →
                freeFulls (n + 1) s = freeFulls n (recognise key { s with kb := { s.kb with heldFull := rest } })))
    ∧ (∀ s : State, s.kb.target = none ∨ s.kb.timer = none ∨ s.kb.hold ≠ .active → exec .repeatTimerExpiry s = .next s)
    ∧ (∀ (s : State) (key : Nat) (code : StationCode) (n : Nat), s.kb.hold = .active → s.kb.target = some (key, code) →
        s.kb.timer = some n →
        let s1 : State := if s.kb.buffer.length < 32 then { s with kb := { s.kb with buffer := s.kb.buffer ++ [code] } }
          else raise (.keyRefused key code true) { s with pr := { s.pr with bell := true } }
        (s.kb.count < 71 →
          exec .repeatTimerExpiry s = .next { s1 with kb := { s1.kb with count := s.kb.count + 1, timer := some 100 } })
        ∧ (71 ≤ s.kb.count → exec .repeatTimerExpiry s = .next { s1 with kb := { s1.kb with
            count := 72, hold := .exhausted, target := none, timer := none } }))
    ∧ (∀ (s : State) (scan : BitVec 64), s.kb.running = true → s.kb.fresh = true →
        ∃ (keys : Vector KeyState 64) (read : Vector Bool 64),
          exec (.freshStartScan scan) s = .next { s with
            kb := { s.kb with keys := keys, fresh := false, pos := 0 }
            pins := { s.pins with keys := read, sense := senseLines read } }
          ∧ ∀ k : Fin 64, keys[k] = (if scan.getLsbD k then .spent else .up) ∧ read[k] = scan.getLsbD k)
    ∧ ∀ k : Keyboard, (k.running = false → k.driveLines = 0xFF#8)
        ∧ (k.running = true → k.pos < 64 → ∀ d, d < 8 → k.driveLines.getLsbD d = decide (d = k.pos / 8))

/-! ### The printer -/

/-- A start request is answered at once but in OFF and STARTING, and any answer lets a call in STARTING on to ANSWERING; that it
sets the motor-off timer afresh is the model's choice (log 68). The printer has work exactly when the queue holds an entry, or
in CATCH-UP the catch-up or the tracked message has text left to print, or a job may run, or a start request is pending, or a
character waits for the printer's own newline (log 41), or in READY the column is not known, which is no work in any other state
(log 15). MOTOR_START starts an OFF printer with work that is not UNAVAILABLE, out of STANDBY; MOTOR_READY answers the request
and first makes the homing return; a start that times out answers a pending request UNAVAILABLE, sets that mark and enters
CATCH-UP, and jams where none is pending; MOTOR-READY dropping jams a READY printer and marks one in operation, a line feed
being one (log 46), and in every state it lowers its pin. The motor-off timer runs just while the printer is READY in DIRECT
without work or a tracked message; its time left is what it has not counted of its 10 s, a tick counts one of 640 (log 68), and
the last of them, as MOTOR_OFF_TIMER_EXPIRY, stops the motor and leaves the printer OFF (R96 to R99, R111, R144). That
MOTOR_READY and MOTOR_START_TIMEOUT out of STARTING, and MOTOR_START and MOTOR_OFF_TIMER_EXPIRY where R97 and R98 let none
occur, change nothing is the model's choice (log 1). -/
def Obligations.MotorEvents : Prop :=
  (∀ s : State,
      (s.pr.state = .off ∨ s.pr.state = .starting →
        requestStart s = { s with pr := { s.pr with startPending := true, offTicks := 0 } })
      ∧ (s.pr.state ≠ .off → s.pr.state ≠ .starting → s.call.state = .starting →
        requestStart s = { s with
          pr := { s.pr with startPending := false, offTicks := 0 }
          call := { s.call with
            state := .answering, loopClose := true, loopTimer := some 320, attendedWait := false, answerWait := none } }))
    ∧ (∀ s : State, s.pr.state = .off → s.pr.unavailable = false → s.printerWork = true → s.call.state ≠ .standby →
        exec .motorStart s = .next { s with pr := { s.pr with state := .starting, motorOn := true } })
    ∧ (∀ s : State, s.pr.state ≠ .off ∨ s.pr.unavailable = true ∨ s.printerWork = false ∨ s.call.state = .standby →
        exec .motorStart s = .next s)
    ∧ (∀ s : State,
        let textLeft := ∃ n, (s.pr.catchUp = some n ∨ s.pr.tracked = some n) ∧ s.store.printOf n < s.store.lengthOf n
        let mayRun := s.pr.jobs ≠ [] ∧ s.pr.queue = [] ∧ s.pr.tracked = none ∧ s.pr.mode = .direct ∧ s.pr.unavailable = false
        let work := s.pr.queue ≠ [] ∨ (s.pr.mode = .catchUp ∧ textLeft) ∨ mayRun ∨ s.pr.startPending = true
          ∨ s.pr.waiting ≠ none
        (s.pr.state ≠ .ready → (s.printerWork = true ↔ work))
        ∧ (s.pr.state = .ready → (s.printerWork = true ↔ work ∨ s.pr.columnKnown = false)))
    ∧ (∀ s : State, s.pr.state = .starting →
        let s1 := answerStart { s with pr := { s.pr with state := .ready }, pins := { s.pins with motorReady := true } }
        (s.pr.columnKnown = false →
          exec .motorReady s = .next { s1 with pr := { s1.pr with state := .returning, ret := some ⟨none, [], false⟩ } })
        ∧ (s.pr.columnKnown = true → exec .motorReady s = .next (readyComparison s1)))
    ∧ (∀ s : State, s.pr.state ≠ .starting → exec .motorReady s = .next s ∧ exec .motorStartTimeout s = .next s)
    ∧ (∀ s : State, s.pr.state = .starting →
        (s.pr.startPending = false → exec .motorStartTimeout s = .next (jam .motor s))
        ∧ (s.pr.startPending = true → exec .motorStartTimeout s = .next (answerStart (enterCatchUp s.pr.tracked
            { s with pr := { s.pr with state := .off, motorOn := false, unavailable := true } }))))
    ∧ (∀ s : State,
        let s1 : State := { s with pins := { s.pins with motorReady := false } }
        (s.pr.state = .ready → exec .motorReadyDrop s = .next (jam .motor s1))
        ∧ (s.pr.state = .printing ∨ s.pr.state = .returning ∨ s.pr.state = .feeding →
            exec .motorReadyDrop s = .next { s1 with pr := { s1.pr with motorFailed := true } })
        ∧ (s.pr.state = .off ∨ s.pr.state = .starting ∨ s.pr.state = .paperOut ∨ s.pr.state = .jammed →
            exec .motorReadyDrop s = .next s1))
    ∧ ∀ s : State,
        let idle := s.pr.state = .ready ∧ s.printerWork = false ∧ s.pr.tracked = none ∧ s.pr.mode = .direct
        let off : State := { s with pr := { s.pr with state := .off, motorOn := false, offTicks := 0 } }
        (idle → exec .motorOffTimerExpiry s = .next off ∧ s.motorOffLeft = some (640 - s.pr.offTicks))
        ∧ (¬idle → exec .motorOffTimerExpiry s = .next s ∧ motorOffTick s = s ∧ s.motorOffLeft = none)
        ∧ (idle → s.pr.offTicks < 639 →
            motorOffTick s = { s with pr := { s.pr with offTicks := s.pr.offTicks + 1 } })
        ∧ (idle → 639 ≤ s.pr.offTicks → motorOffTick s = off)

/-- PRINTER_TAKE: a READY printer makes its homing return first, then prints the character that waits for its newline, then
takes the queue head, in DIRECT or while a tagged entry is queued; in RETURNING it takes only an LF, a further one once an
overlapped feed has ended too (log 52). With no live work the head job runs: its opening, or its resumption after a suspension,
ends the line when the column is above 1; then a character read for it is taken, or the read at its cursor is asked for, or at
its message's end the line is ended before it closes, or it ends at once. The character taken acts by its code: a glyph or SPACE
begins a print cycle, after the printer's own CR and LF at the line end with AUTO-NEWLINE; CR returns; LF feeds; BELL rings;
another control code only completes. Live work that appears stops the motor-off timer and suspends the running job, its closing
newline included, and abandons its read; the suspension ends the line before the live text is printed (R99, R100, R102 to R107,
R111 to R113; no LF is taken once MOTOR-READY has dropped: log 46). -/
def Obligations.PrinterTakes : Prop :=
  (∀ s : State, s.pr.state = .ready →
      (s.pr.columnKnown = false →
        exec .printerTake s = .next { s with pr := { s.pr with state := .returning, ret := some ⟨none, [], false⟩ } })
      ∧ (s.pr.columnKnown = true →
        (∀ c, s.pr.waiting = some c → exec .printerTake s = .next { s with pr := s.pr.startCycle c })
        ∧ (∀ e rest, s.pr.waiting = none → s.pr.jobRun ≠ .suspendDue → s.pr.mode = .direct ∨ s.pr.holdsTagged = true →
            s.pr.queue = e :: rest →
            exec .printerTake s = .next (readyComparison (takeChar ⟨e.code, .queue e.tag⟩
              { s with pr := ({ s.pr with queue := rest }).lostJoin })))
        ∧ (∀ c rest n, s.pr.waiting = none → s.pr.jobRun ≠ .suspendDue → s.pr.mode = .catchUp → s.pr.holdsTagged = false →
            s.pr.buf = c :: rest → s.pr.catchUp = some n →
            exec .printerTake s = .next (readyComparison (takeChar ⟨c, .catchUp ⟨n, s.pr.bufPos⟩⟩
              { s with pr := { s.pr with buf := rest, bufPos := s.pr.bufPos + 1 } })))
        ∧ (∀ j rest, s.pr.waiting = none → s.pr.jobs = j :: rest → s.pr.queue = [] → s.pr.tracked = none →
            s.pr.mode = .direct → s.pr.unavailable = false →
          (s.pr.jobRun = .notStarted ∨ s.pr.jobRun = .suspended → s.store.printRead = none →
            exec .printerTake s = .next { s with pr :=
              if 1 < s.pr.column then { s.pr with
                state := .returning, ret := some ⟨none, [], false⟩, feed := some ⟨none⟩, jobRun := .body }
              else { s.pr with jobRun := .body } })
          ∧ (∀ c more, s.pr.jobRun = .body → s.pr.buf = c :: more →
            s.pr.next? = some (⟨c, .job ⟨j.number, s.pr.bufPos⟩⟩, { s.pr with buf := more, bufPos := s.pr.bufPos + 1 })
            ∧ exec .printerTake s = .next (readyComparison (takeChar ⟨c, .job ⟨j.number, s.pr.bufPos⟩⟩
              { s with pr := { s.pr with buf := more, bufPos := s.pr.bufPos + 1 } })))
          ∧ (s.pr.jobRun = .body → s.pr.buf = [] → s.store.printRead = none →
            (j.cursor < s.store.lengthOf j.number → exec .printerTake s = .next (printerAsk j.number j.cursor s))
            ∧ (s.store.lengthOf j.number ≤ j.cursor → 1 < s.pr.column → exec .printerTake s = .next { s with pr := { s.pr with
                state := .returning, ret := some ⟨none, [], false⟩, feed := some ⟨none⟩, jobRun := .closing } })
            ∧ (s.store.lengthOf j.number ≤ j.cursor → s.pr.column ≤ 1 → exec .printerTake s = .next (endJob s)))
          ∧ (s.pr.jobRun = .body → s.pr.buf = [] → s.store.printRead ≠ none →
            exec .printerTake s = .next s))))
    ∧ (∀ s : State, s.pr.state ≠ .ready → s.pr.state ≠ .returning → exec .printerTake s = .next s)
    ∧ (∀ s : State, s.pr.state = .returning → s.pr.feed = none → s.pr.waiting = none → s.pr.jobRun ≠ .suspendDue →
        s.pr.paper = true → s.pr.motorFailed = false → ∀ c p, s.pr.next? = some (c, p) →
          exec .printerTake s =
            .next (if c.code = 0x04#7 then { s with pr := { p with feed := some ⟨some c⟩ } } else s))
    ∧ (∀ (c : PrChar) (s : State),
        (0x20 ≤ c.code.toNat → s.pr.lineEnd = true → s.pr.policy = .autoNewline →
          takeChar c s = { s with pr := { s.pr with
            state := .returning, ret := some ⟨none, [], false⟩, feed := some ⟨none⟩, waiting := some c } })
        ∧ (0x20 ≤ c.code.toNat → s.pr.lineEnd = false ∨ s.pr.policy = .overprint →
          takeChar c s = { s with pr := { s.pr with
            state := .printing, cycle := some ⟨c, false, false, s.pr.lineLength, 0⟩, hammer := decide (c.code ≠ 0x20#7)
            intensity := s.pr.intensityReq, waiting := none } })
        ∧ (c.code = 0x03#7 → takeChar c s = { s with pr := { s.pr with state := .returning, ret := some ⟨some c, [], false⟩ } })
        ∧ (c.code = 0x04#7 → takeChar c s = { s with pr := { s.pr with state := .feeding, feed := some ⟨some c⟩ } })
        ∧ (c.code = 0x02#7 → takeChar c s = completeChar c { s with pr := { s.pr with bell := true } })
        ∧ (c.code.toNat < 0x20 → c.code ≠ 0x02#7 → c.code ≠ 0x03#7 → c.code ≠ 0x04#7 → takeChar c s = completeChar c s))
    ∧ (∀ (c : PrChar) (s : State), (∀ t, c.origin ≠ .queue (some t)) → (∀ t, c.origin ≠ .catchUp t) →
        (∀ t, c.origin ≠ .job t) → completeChar c s = s)
    ∧ (∀ s : State,
        let live := s.pr.queue ≠ [] ∨ s.pr.tracked ≠ none ∨ s.pr.mode = .catchUp ∨ s.pr.unavailable = true
        let runs := s.pr.jobRun = .body ∨ s.pr.jobRun = .closing
        (live → runs → noteLiveWork s = { s with
          pr := { s.pr with jobRun := .suspendDue, buf := [], offTicks := 0 }
          store := { s.store with printRead := none, access := s.store.access.map (Access.disown .printer) } })
        ∧ (live → ¬runs → noteLiveWork s = { s with pr := { s.pr with offTicks := 0 } })
        ∧ (¬live → noteLiveWork s = s))
    ∧ ∀ s : State, s.pr.state = .ready → s.pr.columnKnown = true → s.pr.waiting = none → s.pr.jobRun = .suspendDue →
        (1 < s.pr.column → exec .printerTake s = .next { s with pr := { s.pr with
          state := .returning, ret := some ⟨none, [], false⟩, feed := some ⟨none⟩, jobRun := .suspended } })
        ∧ (s.pr.column ≤ 1 → exec .printerTake s = .next (readyComparison { s with pr := { s.pr with jobRun := .suspended } }))

/-- The print cycle: it keeps the line length in force at the character's take; in each of the hammer periods of 4 ms that a
glyph's train runs through HAMMER is driven for 0.25 ms for each step of the intensity in force, which takes the requested
value as a period begins; a tick goes on to the next such change (log 21). RIGHTWARD_STEP ends the train at 12 ms, takes the
requested intensity (log 16) and steps the carriage, at that line length only setting the line-end mark (log 53); ENCODER_PULSE
raises the column and rings the margin bell, or lowers it in a return, to 1 at the least, and leaves it otherwise (HOME: log
57); STEP_TIMEOUT jams; PRINT_CYCLE_END completes the character, with the motor failed too (log 46), and the printer is READY
again, or stops for its motor or its paper (both at once: log 18), a closing job ending first: it leaves the list, with the
test for the release of its message and no report. A tagged character that completes raises the print cursor, to the length at
the most; at the length PRINT-INCOMPLETE is cleared; a character of a job moves the job cursor too (R98 to R102, R105, R107,
R112, R114, R115, R117, R118). -/
def Obligations.PrintCycle : Prop :=
  (∀ (c : PrChar) (p : Printer), p.startCycle c = { p with
      state := .printing, cycle := some ⟨c, false, false, p.lineLength, 0⟩, hammer := decide (c.code ≠ 0x20#7)
      intensity := p.intensityReq, waiting := none })
    ∧ (∀ (s : State) (c : PrChar) (aw : Bool) (l n : Nat), s.pr.cycle = some ⟨c, false, aw, l, n⟩ →
      (s.pr.column < l → exec .rightwardStep s = .next { s with pr := { s.pr with
        hammer := false, intensity := s.pr.intensityReq, cycle := some ⟨c, true, true, l, 44237⟩ } })
      ∧ (l ≤ s.pr.column → exec .rightwardStep s = .next { s with pr := { s.pr with
        hammer := false, intensity := s.pr.intensityReq, cycle := some ⟨c, true, false, l, 44237⟩, lineEnd := true } }))
    ∧ (∀ (s : State) (c : PrChar) (st : Bool) (l n : Nat), s.pr.cycle = some ⟨c, st, true, l, n⟩ →
        exec .encoderPulse s = .next { s with
          pr := { s.pr with
            column := s.pr.column + 1, cycle := some ⟨c, st, false, l, n⟩
            bell := if s.pr.column + 1 = s.pr.margin then true else s.pr.bell }
          pins := { s.pins with home := false } }
        ∧ exec .stepTimeout s = .next (jam (if s.pr.motorFailed then .motor else .step) s))
    ∧ (∀ (s : State) (r : Carriage), s.pr.cycle = none → s.pr.ret = some r →
        exec .encoderPulse s = .next { s with pr := { s.pr with column := max 1 (s.pr.column - 1) } })
    ∧ (∀ s : State, (∀ c, s.pr.cycle = some c → c.awaiting = false) → s.pr.ret = none →
        exec .encoderPulse s = .next { s with pins := { s.pins with home := false } })
    ∧ (∀ (s : State) (c : PrChar) (l n : Nat), s.pr.cycle = some ⟨c, true, false, l, n⟩ →
        exec .printCycleEnd s =
          .next (afterOperation (completeChar c { s with pr := { s.pr with cycle := none, hammer := false } })))
    ∧ (∀ s : State, s.pr.jobRun = .closing → afterOperation s = afterOperation (endJob s))
    ∧ (∀ s : State,
        (s.pr.jobs = [] → endJob s = s)
        ∧ ∀ j rest, s.pr.jobs = j :: rest →
          endJob s = autoReleaseTest j.number { s with pr := { s.pr with jobs := rest, jobRun := .notStarted } }
          ∧ (endJob s).pr = { s.pr with jobs := rest, jobRun := .notStarted } ∧ (endJob s).link = s.link)
    ∧ (∀ s : State, s.pr.jobRun ≠ .closing →
        (s.pr.motorFailed = true → afterOperation s = jam .motor s)
        ∧ (s.pr.motorFailed = false → s.pr.paper = true → s.pr.mode = .direct →
            afterOperation s = { s with pr := { s.pr with state := .ready } })
        ∧ (s.pr.motorFailed = false → s.pr.paper = true → s.pr.mode = .catchUp →
            afterOperation s = readyComparison { s with pr := { s.pr with state := .ready } })
        ∧ (s.pr.motorFailed = false → s.pr.paper = false →
            afterOperation s = answerStart
              (raise .paperOut { s with pr := { s.pr with state := .paperOut, motorOn := false, offTicks := 0 } })))
    ∧ (∀ (code : StationCode) (t : Tag) (s : State),
        completeChar ⟨code, .queue (some t)⟩ s = setPrint t.number (t.pos + 1) s
        ∧ completeChar ⟨code, .catchUp t⟩ s = setPrint t.number (t.pos + 1) s
        ∧ ∀ j rest, s.pr.jobs = j :: rest → completeChar ⟨code, .job t⟩ s = setPrint t.number (t.pos + 1)
            { s with pr := { s.pr with jobs := { j with cursor := t.pos + 1 } :: rest } })
    ∧ (∀ (n v : Nat) (s : State), setPrint n v s = autoReleaseTest n { s with store := { s.store with
        dir := s.store.dir.map fun e =>
          if e.number = n then
            let p := min e.length (max e.print v)
            { e with
              print := p
              flags := { e.flags with printIncomplete := e.flags.printIncomplete && decide (p < e.length) }
              headerDue := e.headerDue || (e.flags.printIncomplete && decide (p = e.length)) }
          else e } })
    ∧ ∀ p : Printer,
        (p.cycle = none → p.advance = p ∧ p.hammerPulse = false)
        ∧ ∀ c, p.cycle = some c →
          let period (n : Nat) : Nat := 10 * n / 147456
          let pulse := (147456 * period c.cycles + 9216 * p.intensity + 9) / 10
          let next := if c.cycles < pulse then pulse else (147456 * (period c.cycles + 1) + 9) / 10
          let n := min (if c.stepped then 73728 else 44236) next
          (p.hammerPulse = true ↔ p.hammer = true ∧ 10 * c.cycles % 147456 < 9216 * p.intensity)
          ∧ p.advance = { p with
              cycle := some { c with cycles := n }
              intensity := if period n = period c.cycles then p.intensity else p.intensityReq }

/-- Returns and feeds: RETURN_COMPLETE puts the column at 1 with the mark known and the line-end mark clear, and completes the
CR and the feeds that waited for it; the carriage is driven leftward until HOME is asserted, which a tick of the return may find
(whatever it reads: log 57) and which puts the column at 1; RETURN_TIMEOUT jams with HOME not asserted (else nothing: log 1);
LINE_FEED_COMPLETE completes the LF, or lets it wait for the return it overlaps; BELL_PULSE_END ends the bell. A jam raises
JAMMED with its cause, that of a timeout being MOTOR once MOTOR-READY has dropped (log 18; R98). With MOTOR-READY dropped a
return goes on to its line feed and a line feed completes its LF all the same (log 46). A jam ends every operation, stops the
motor-off timer, clears the column-known mark and abandons the printer's read (log 45) (R99, R103 to R105, R112, R115). -/
def Obligations.ReturnsAndFeeds : Prop :=
  (∀ (s : State) (r : Carriage), s.pr.ret = some r →
      let s1 := completeChars (r.char.toList ++ r.feeds) { s with
        pr := { s.pr with ret := none, column := 1, lineEnd := false, columnKnown := true }
        pins := { s.pins with home := true } }
      (s.pr.feed = none → exec .returnComplete s = .next (afterOperation s1))
      ∧ (s.pr.feed.isSome = true → exec .returnComplete s = .next { s1 with pr := { s1.pr with state := .feeding } })
      ∧ (s.leftward = true → exec .returnTimeout s = .next (jam (if s.pr.motorFailed then .motor else .ret) s))
      ∧ (s.leftward = false → exec .returnTimeout s = .next s)
      ∧ ∀ f, s.pr.feed = some f → exec .lineFeedComplete s =
          .next { s with pr := { s.pr with feed := none, ret := some ⟨r.char, r.feeds ++ f.char.toList, r.homed⟩ } })
    ∧ (∀ (s : State) (f : Feed), s.pr.feed = some f → s.pr.ret = none →
        exec .lineFeedComplete s =
          .next (afterOperation (completeChars f.char.toList { s with pr := { s.pr with feed := none } })))
    ∧ (∀ s : State,
        (s.leftward = true ↔
          ∃ r, s.pr.ret = some r ∧ r.homed = false ∧ (s.pr.columnKnown = true → s.pins.home = false))
        ∧ (s.leftward = false → homeTick s = s)
        ∧ (s.leftward = true → homeTick s = if Config.freeReading s.freeCount then { s with
            pr := { s.pr with column := 1, ret := s.pr.ret.map fun r => { r with homed := true } }
            pins := { s.pins with home := true }, freeCount := s.freeCount + 1 }
          else { s with pins := { s.pins with home := false }, freeCount := s.freeCount + 1 }))
    ∧ (∀ s : State, exec .bellPulseEnd s = .next { s with pr := { s.pr with bell := false } })
    ∧ (∀ (cause : JamCause) (s : State), jam cause s = raise (.jammed cause) { s with
        pr := { s.pr with
          state := .jammed, motorOn := false, hammer := false, columnKnown := false, motorFailed := false
          jamTags := s.pr.jamTags ++ s.pr.inHand, cycle := none, ret := none, feed := none, waiting := none, buf := []
          jobRun := .notStarted, offTicks := 0 }
        store := { s.store with printRead := none, access := s.store.access.map (Access.disown .printer) } })
    ∧ ∀ (cause : JamCause) (s : State),
        let t := jam cause s
        t.pr.state = .jammed ∧ t.pr.motorOn = false ∧ t.pr.hammer = false ∧ t.pr.columnKnown = false ∧ t.pr.cycle = none
        ∧ t.pr.ret = none ∧ t.pr.feed = none ∧ t.pr.queue = s.pr.queue ∧ t.pr.column = s.pr.column
        ∧ t.pr.mode = s.pr.mode ∧ t.call = s.call ∧ t.store.printRead = none ∧ t.store.dir = s.store.dir ∧ t.mem = s.mem

/-- PAPER_OUT stops the printer at once in READY, STARTING and OFF, with its motor-off timer, and lets an operation end first
(paper that is back by then: log 59); PAPER_BACK leaves PAPER-OUT for OFF, and both raise their reports; PRINTER-RESTART empties
a JAMMED printer's queue, enters CATCH-UP for the first message that lost a tagged character (those a jam left incomplete first:
log 17), else for a tracked one with text unprinted, and leaves the printer OFF or PAPER-OUT, whose report is raised before the
reply joins (log 69); PRINT-MESSAGE appends a job with its start clamped to the length, which stops the motor-off timer (the
position 0 of BAD-VALUE: log 6). The comparison of cursors goes on with the catch-up message while text of it is unprinted, then
turns to the tracked message, and then the mode is DIRECT; in READY it asks for the read, in OFF it does not (R75, R97, R109 to
R111, R114, R116). -/
def Obligations.PaperRestartAndPrintJobs : Prop :=
  (∀ s : State, s.pr.paper = true → s.call.state ≠ .standby →
      let s1 : State := { s with pr := { s.pr with paper := false }, pins := { s.pins with paperOk := false } }
      (s.pr.state = .ready ∨ s.pr.state = .starting ∨ s.pr.state = .off →
        exec .paperOut s = .next (answerStart
          (raise .paperOut { s1 with pr := { s1.pr with state := .paperOut, motorOn := false, offTicks := 0 } })))
      ∧ (s.pr.state ≠ .ready → s.pr.state ≠ .starting → s.pr.state ≠ .off → exec .paperOut s = .next s1))
    ∧ (∀ s : State, s.pr.paper = false → s.call.state ≠ .standby →
        let s1 : State := { s with pr := { s.pr with paper := true }, pins := { s.pins with paperOk := true } }
        (s.pr.state = .paperOut →
          exec .paperBack s = .next (offComparison (raise .paperBack { s1 with pr := { s1.pr with state := .off } })))
        ∧ (s.pr.state = .jammed → exec .paperBack s = .next (raise .paperBack s1))
        ∧ (s.pr.state ≠ .paperOut → s.pr.state ≠ .jammed → exec .paperBack s = .next s1))
    ∧ (∀ s s0 : State, s.asked 0x41#8 [] s0 →
        let s1 := touchStandby s0
        (s1.pr.state ≠ .jammed → exec (.printerRestart []) s = .next (reply 0x41#8 (plainAnswer .wrongState) s1))
        ∧ (s1.pr.state = .jammed → ∃ t, exec (.printerRestart []) s = .next (reply 0x41#8 (ok []) t)
            ∧ t.pr.state = (if s1.pr.paper then .off else .paperOut)
            ∧ t.pr.queue = (if s1.pr.lostPending then [⟨s1.pr.lostCode, none⟩] else []) ∧ t.pr.lostPending = false
            ∧ t.pr.jobs = s1.pr.jobs ∧ t.pr.column = s1.pr.column ∧ t.pr.columnKnown = s1.pr.columnKnown
            ∧ t.mem = s1.mem
            ∧ t =
                let m := s1.restartMessage
                let lost : List PrEntry := if s1.pr.lostPending then [⟨s1.pr.lostCode, none⟩] else []
                let s2 : State := { s1 with pr := { s1.pr with queue := lost, lostPending := false, jamTags := [] } }
                let s3 := if m = none then s2 else enterCatchUp m s2
                if s1.pr.paper then offComparison { s3 with pr := { s3.pr with state := .off } }
                else answerStart
                  (raise .paperOut { s3 with pr := { s3.pr with state := .paperOut, motorOn := false, offTicks := 0 } })))
    ∧ (∀ s : State,
        let tags := s.pr.jamTags ++ s.pr.queue.filterMap fun e => e.tag.map Tag.number
        (∀ pre n post, tags = pre ++ n :: post → (∀ x ∈ pre, s.store.live? x = none) → s.store.live? n ≠ none →
          s.restartMessage = some n)
        ∧ ((∀ x ∈ tags, s.store.live? x = none) →
          (∀ n, s.pr.tracked = some n → s.store.printOf n < s.store.lengthOf n → s.restartMessage = some n)
          ∧ ((∀ n, s.pr.tracked = some n → s.store.lengthOf n ≤ s.store.printOf n) → s.restartMessage = none)))
    ∧ (∀ (m : Option Nat) (s : State),
        (s.pr.mode = .catchUp → enterCatchUp m s = s)
        ∧ (s.pr.mode = .direct →
          enterCatchUp m s = offComparison (noteLiveWork { s with pr := { s.pr with mode := .catchUp, catchUp := m } })))
    ∧ (∀ s : State,
        let off := s.pr.state = .off ∧ s.pr.unavailable = false ∧ s.pr.mode = .catchUp ∧ s.pr.holdsTagged = false
        let ready := s.pr.state = .ready ∧ s.pr.mode = .catchUp ∧ s.pr.holdsTagged = false ∧ s.pr.buf = []
          ∧ s.store.printRead = none ∧ s.pr.columnKnown = true ∧ s.pr.waiting = none ∧ s.pr.jobRun ≠ .suspendDue
        (off → offComparison s = compareCursors false s) ∧ (¬off → offComparison s = s)
        ∧ (ready → readyComparison s = compareCursors true s) ∧ (¬ready → readyComparison s = s))
    ∧ (∀ s : State,
        let left (n : Nat) : Prop := s.store.printOf n < s.store.lengthOf n
        (∀ n, s.pr.catchUp = some n → left n →
          compareCursors true s = printerAsk n (s.store.printOf n) s ∧ compareCursors false s = s)
        ∧ ((∀ n, s.pr.catchUp = some n → ¬left n) →
          (∀ n, s.pr.tracked = some n → left n →
            let s1 := givenUp s.pr.catchUp.toList { s with pr := { s.pr with catchUp := some n } }
            compareCursors true s = printerAsk n (s1.store.printOf n) s1 ∧ compareCursors false s = s1)
          ∧ ((∀ n, s.pr.tracked = some n → ¬left n) → ∀ reading, compareCursors reading s =
              givenUp s.pr.catchUp.toList { s with pr := { s.pr with mode := .direct, catchUp := none } })))
    ∧ (∀ (n pos : Nat) (e : Entry) (s : State), s.store.entry? n = some e →
        (s.store.staged (bodyCell e.header pos) = true → printerAsk n pos s = { s with pr := { s.pr with
          buf := s.store.cellChars s.mem e pos e.length, bufPos := pos } })
        ∧ (s.store.staged (bodyCell e.header pos) = false → printerAsk n pos s = { s with
          store := { s.store with printRead := some ⟨n, pos⟩ }, pr := { s.pr with buf := [], bufPos := pos } }))
    ∧ ∀ (s s0 : State) (body : List Byte), s.asked 0x40#8 body s0 → body.length = 5 →
        let s1 := touchStandby s0
        let n := field2 body 0
        (n = 0 → exec (.printMessage body) s = .next (reply 0x40#8 (badValue 0) s1))
        ∧ (n ≠ 0 → s1.store.live? n = none →
            exec (.printMessage body) s = .next (reply 0x40#8 (plainAnswer .noSuchMessage) s1))
        ∧ ∀ e, n ≠ 0 → s1.store.live? n = some e →
            (e.state = .open → exec (.printMessage body) s = .next (reply 0x40#8 (plainAnswer .wrongState) s1))
            ∧ (e.state ≠ .open → 4 ≤ s1.pr.jobs.length →
                exec (.printMessage body) s = .next (reply 0x40#8 (plainAnswer .full) s1))
            ∧ (e.state ≠ .open → s1.pr.jobs.length < 4 →
                let o := min e.length (field3 body 2)
                exec (.printMessage body) s = .next (reply 0x40#8 (ok (put3 o))
                  { s1 with pr := { s1.pr with jobs := s1.pr.jobs ++ [⟨n, o, o⟩], offTicks := 0 } }))

/-! ### The punch -/

/-- The punch's cycles: the codes held of a character go first; a RAW BLANK run gives one blank row a cycle, RAW LETTERS-SHIFT
its code, and none is given where no LTRS-SHIFT is designated; TEXT is encoded under the punch shift state, after a LTRS-SHIFT
code when that is UNKNOWN (three codes: log 55), and an unsendable character is reported and complete, a LTRS-SHIFT code that
it brought being punched all the same. PUNCH_CYCLE_END completes the character and enters a pending hold when no job runs, and
does nothing in STANDBY; PUNCH_JOB_START places the leader and the LTRS-SHIFT code. A completed character raises the punch
cursor, to the length at the most, and the cursor of its running job unless that job was cancelled during the cycle. In a cycle
the magnets of the units that are mark are energised at its start and the feed magnet at 10 ms, each for the on-time in force,
and the cycles of the fast oscillator pass with the ticks, to the next change of a magnet or the end of the cycle at the latest
(log 21) (R120 to R123, R126, R127, R132, R134). -/
def Obligations.PunchCycles : Prop :=
  (∀ s : State, s.pu.cycle = none → s.pu.state ≠ .tapeLowHold → s.call.state ≠ .standby →
      (∀ h r rest, s.pu.held = some h → h.codes = r :: rest →
        exec .punchTakeEntry s = .next { s with pu := { s.pu with
          state := .punching, onTime := s.pu.onTimeReq
          held := if rest = [] then none else some ⟨rest, h.tag⟩
          cycle := some ⟨r, if rest = [] then some h.tag else none, false, 0⟩ } })
      ∧ (s.pu.held = none →
        (s.pu.queue = [] → exec .punchTakeEntry s = .next (punchSettle s))
        ∧ (∀ n rest, s.pu.queue = .blank n :: rest →
          exec .punchTakeEntry s = .next (punchSettle { s with pu := { s.pu with
            state := .leader, onTime := s.pu.onTimeReq, cycle := some ⟨0, none, false, 0⟩
            queue := if n ≤ 1 then rest else .blank (n - 1) :: rest } }))
        ∧ (∀ rest r, s.pu.queue = .ltrs :: rest → s.conv.ltrsShift = some r →
          exec .punchTakeEntry s = .next (punchSettle { s with pu := { s.pu with
            state := .punching, onTime := s.pu.onTimeReq, cycle := some ⟨r, none, false, 0⟩, queue := rest, shift := .letters } }))
        ∧ (∀ rest, s.pu.queue = .ltrs :: rest → s.conv.ltrsShift = none →
          exec .punchTakeEntry s = .next (punchSettle { s with pu := { s.pu with queue := rest, shift := .letters } }))
        ∧ (∀ c tag rest, s.pu.queue = .text c tag :: rest →
          exec .punchTakeEntry s = .next (punchSettle (takeText c tag { s with pu := { s.pu with queue := rest } })))))
    ∧ (∀ (c : StationCode) (tag : Option Tag) (s : State), s.pu.shift ≠ .unknown →
        (∀ e, s.conv.encode s.pu.shift c = some e → e.shift = none →
          takeText c tag s = { s with pu := { s.pu with
            state := .punching, onTime := s.pu.onTimeReq, shift := e.plane, held := none
            cycle := some ⟨e.code, some tag, false, 0⟩ } })
        ∧ (∀ e sh, s.conv.encode s.pu.shift c = some e → e.shift = some sh →
          takeText c tag s = { s with pu := { s.pu with
            state := .punching, onTime := s.pu.onTimeReq, shift := e.plane, held := some ⟨[e.code], tag⟩
            cycle := some ⟨sh, none, false, 0⟩ } })
        ∧ (s.conv.encode s.pu.shift c = none → takeText c tag s = punchComplete false tag (raise (.unsendable c) s)))
    ∧ (∀ (c : StationCode) (tag : Option Tag) (s : State) (l : RawCode) (e : Encoded), s.pu.shift = .unknown →
        s.conv.ltrsShift = some l → s.conv.encode .letters c = some e →
          takeText c tag s = { s with pu := { s.pu with
            state := .punching, onTime := s.pu.onTimeReq, shift := e.plane, cycle := some ⟨l, none, false, 0⟩
            held := some ⟨e.shift.toList ++ [e.code], tag⟩ } })
    ∧ (∀ (c : StationCode) (tag : Option Tag) (s : State) (l : RawCode), s.pu.shift = .unknown →
        s.conv.ltrsShift = some l → s.conv.encode .letters c = none →
          let s1 := punchComplete false tag (raise (.unsendable c) { s with pu := { s.pu with shift := .letters } })
          takeText c tag s = { s1 with pu := { s1.pu with
            state := .punching, onTime := s1.pu.onTimeReq, cycle := some ⟨l, none, false, 0⟩ } })
    ∧ (∀ (c : StationCode) (tag : Option Tag) (s : State), s.pu.shift = .unknown → s.conv.ltrsShift = none →
        takeText c tag s = takeText c tag { s with pu := { s.pu with shift := .letters } })
    ∧ (∀ (s : State) (c : PunchCycle), s.pu.cycle = some c →
        (s.call.state = .standby → exec .punchCycleEnd s = .next s)
        ∧ (s.call.state ≠ .standby →
        let s1 : State := { s with pu := { s.pu with cycle := none, state := .ready } }
        let s2 := match c.completes with
          | some tag => punchComplete c.cancelled tag s1
          | none => s1
        (s.pu.holdPending = true → s.pu.stage = .none → s.pu.held = none →
          exec .punchCycleEnd s = .next (raise .tapeLow
            { s2 with pu := { s2.pu with state := .tapeLowHold, holdPending := false } }))
        ∧ (s.pu.holdPending = false ∨ s.pu.stage ≠ .none ∨ s.pu.held ≠ none →
          exec .punchCycleEnd s = .next (punchSettle s2))))
    ∧ (∀ (s : State) (j : PunchJob) (rest : List PunchJob), s.pu.chain = j :: rest → s.pu.stage = .none → s.pu.queue = [] →
        s.pu.held = none → s.pu.state ≠ .tapeLowHold → s.pu.holdPending = false → s.call.state ≠ .standby →
          exec .punchJobStart s = .next (punchSettle { s with pu := { s.pu with
            queue := if j.leader = 0 then [.ltrs] else [.blank j.leader, .ltrs], stage := .body } }))
    ∧ (∀ (cancelled : Bool) (s : State),
        punchComplete cancelled none s = s
        ∧ ∀ t : Tag,
          (∀ j rest, cancelled = false → s.pu.stage = .body → s.pu.chain = j :: rest → j.number = t.number → j.cursor = t.pos →
            punchComplete cancelled (some t) s = setPunch t.number (t.pos + 1)
              { s with pu := { s.pu with chain := { j with cursor := t.pos + 1 } :: rest } })
          ∧ (cancelled = true ∨ s.pu.stage ≠ .body ∨ s.pu.chain = []
              ∨ (∀ j ∈ s.pu.chain.head?, j.number ≠ t.number ∨ j.cursor ≠ t.pos) →
            punchComplete cancelled (some t) s = setPunch t.number (t.pos + 1) s))
    ∧ (∀ (n v : Nat) (s : State), setPunch n v s = autoReleaseTest n { s with store := { s.store with
        dir := s.store.dir.map fun e => if e.number = n then { e with punch := min e.length (max e.punch v) } else e } })
    ∧ ∀ p : Punch,
        (p.cycle = none → p.codeMagnets = 0 ∧ p.feedMagnet = false ∧ p.advance = p)
        ∧ ∀ c, p.cycle = some c →
          let changes := [(36864 * p.onTime + 9) / 10, 36864, (36864 * (10 + p.onTime) + 9) / 10, 73728]
          let next := (changes.find? fun n => decide (c.cycles < n)).getD 73728
          (∀ k, k < 5 → (p.codeMagnets.getLsbD k = true ↔ c.code.getLsbD k = true ∧ 10 * c.cycles < 36864 * p.onTime))
          ∧ (p.feedMagnet = true ↔ 36864 ≤ c.cycles ∧ 10 * c.cycles < 36864 * (10 + p.onTime))
          ∧ p.advance = { p with cycle := some { c with cycles := min next (c.cycles + 57600) } }

/-- TAPE_LOW_ASSERTED: with no job running and no cycle in progress the punch enters TAPE-LOW-HOLD with its report at once, else
the hold is pending, in the last cycle of a cancelled job too (log 54); one that stands changes nothing but the mark.
TAPE_LOW_CLEAR clears the mark. PUNCH-CONTROL CONTINUE leaves the hold once the tape is judged good; CANCEL empties queue and
chain and lets the cycle in progress end (their reports come before the reply: log 69); FEED appends a run of blanks; an action
above 2 is BAD-VALUE by each row, and a row leaves the two other actions alone (log 32); PUNCH-MESSAGE appends a job (the
position 0 of each BAD-VALUE: log 6; a count's flag other than 0 and 1: log 47). The running job reads on while a place for
eight is free, its body ends with its cursor at the length of the closed message (log 31), a trailer or at once the job's end
follows with PUNCH-JOB-DONE, and a pending hold is then entered; a FOLLOW job with nothing left of its open message is HELD
(R120, R125, R127, R128, R130, R132 to R135). -/
def Obligations.TapeAndPunchJobs : Prop :=
  ((∀ s : State, s.pu.tapeLow = false → s.call.state ≠ .standby →
        let s1 : State := { s with pu := { s.pu with tapeLow := true }, pins := { s.pins with tapeLow := true } }
        (s.pu.state = .tapeLowHold ∨ s.pu.holdPending = true → exec .tapeLowAsserted s = .next s1)
        ∧ (s.pu.state ≠ .tapeLowHold → s.pu.holdPending = false → s.pu.stage ≠ .none ∨ s.pu.cycle ≠ none →
            exec .tapeLowAsserted s = .next { s1 with pu := { s1.pu with holdPending := true } })
        ∧ (s.pu.state ≠ .tapeLowHold → s.pu.holdPending = false → s.pu.stage = .none → s.pu.cycle = none →
            exec .tapeLowAsserted s = .next (raise .tapeLow
              { s1 with pu := { s1.pu with state := .tapeLowHold, holdPending := false } })))
      ∧ (∀ s : State, s.pu.tapeLow = true → s.call.state ≠ .standby →
          exec .tapeLowClear s =
            .next { s with pu := { s.pu with tapeLow := false }, pins := { s.pins with tapeLow := false } })
      ∧ (∀ (s s0 : State) (body : List Byte), s.asked 0x43#8 body s0 → body.length = 2 → field1 body 0 = 0 →
          let s1 := touchStandby s0
          (s1.pu.state = .tapeLowHold → s1.pu.tapeLow = false →
            exec (.punchControlContinue body) s = .next (reply 0x43#8 (ok [])
              (punchSettle { s1 with pu := { s1.pu with state := .ready, shift := .unknown } })))
          ∧ (s1.pu.state ≠ .tapeLowHold ∨ s1.pu.tapeLow = true →
            exec (.punchControlContinue body) s = .next (reply 0x43#8 (plainAnswer .wrongState) s1)))
      ∧ (∀ (s s0 : State) (body : List Byte), s.asked 0x43#8 body s0 → body.length = 2 → field1 body 0 = 1 →
          let s1 := touchStandby s0
          ∃ t, exec (.punchControlCancel body) s = .next (reply 0x43#8 (ok []) t)
            ∧ t.pu.queue = [] ∧ t.pu.chain = [] ∧ t.pu.held = none ∧ t.pu.shift = .unknown ∧ t.pu.stage = .none
            ∧ t.pu.cycle = s1.pu.cycle.map (fun c => { c with cancelled := true }) ∧ t.store.punchRead = none
            ∧ (s1.pu.state = .tapeLowHold → t.pu.state = .tapeLowHold)
            ∧ (s1.pu.state ≠ .tapeLowHold → s1.pu.cycle = none →
                t.pu.state = if s1.pu.holdPending then .tapeLowHold else .off)
            ∧ (s1.pu.cycle ≠ none → t.pu.state = s1.pu.state) ∧ t.pr = s1.pr ∧ t.call = s1.call ∧ t.mem = s1.mem)
      ∧ (∀ (s s0 : State) (body : List Byte), s.asked 0x42#8 body s0 → body.length = 9 →
          1 < field1 body 5 ∨ 1 < field1 body 7 →
            ∃ p, exec (.punchMessage body) s = .next (reply 0x42#8 (badValue p) (touchStandby s0)))
      ∧ (∀ (dflt : Nat) (body : List Byte) (i : Nat),
          (field1 body i = 0 → countField? dflt body i = some (field1 body (i + 1)))
          ∧ (field1 body i = 1 → countField? dflt body i = some dflt)
          ∧ (1 < field1 body i → countField? dflt body i = none))
      ∧ ∀ (s s0 : State) (body : List Byte) (l t : Nat), s.asked 0x42#8 body s0 → body.length = 9 →
          let s1 := touchStandby s0
          let n := field2 body 0
          countField? s1.pu.defLeader body 5 = some l → countField? s1.pu.defTrailer body 7 = some t →
          (n = 0 → exec (.punchMessage body) s = .next (reply 0x42#8 (badValue 0) s1))
          ∧ (n ≠ 0 → s1.store.live? n = none →
              exec (.punchMessage body) s = .next (reply 0x42#8 (plainAnswer .noSuchMessage) s1))
          ∧ ∀ e, n ≠ 0 → s1.store.live? n = some e →
              (e.state = .open → exec (.punchMessage body) s = .next (reply 0x42#8 (plainAnswer .wrongState) s1))
              ∧ (e.state ≠ .open → 8 ≤ s1.pu.chain.length →
                  exec (.punchMessage body) s = .next (reply 0x42#8 (plainAnswer .full) s1))
              ∧ (e.state ≠ .open → s1.pu.chain.length < 8 →
                  let o := min e.length (field3 body 2)
                  exec (.punchMessage body) s = .next (reply 0x42#8 (ok (put3 o ++ put1 l ++ put1 t))
                    (punchSettle { s1 with
                      pu := { s1.pu with chain := s1.pu.chain ++ [⟨n, o, l, t, false, o, o⟩] }
                      store := s1.store.modify n fun x => { x with punchNamed := true } }))))
    ∧ (∀ (s s0 : State) (body : List Byte), s.asked 0x43#8 body s0 → body.length = 2 →
      let refused := Host.Outcome.next (reply 0x43#8 (badValue 0) (touchStandby s0))
      let action := field1 body 0
      (2 < action → exec (.punchControlContinue body) s = refused ∧ exec (.punchControlCancel body) s = refused
        ∧ exec (.punchControlFeed body) s = refused)
      ∧ (action = 1 ∨ action = 2 → exec (.punchControlContinue body) s = .next s)
      ∧ (action = 0 ∨ action = 2 → exec (.punchControlCancel body) s = .next s)
      ∧ (action = 0 ∨ action = 1 → exec (.punchControlFeed body) s = .next s))
    ∧ (∀ (s s0 : State) (body : List Byte), s.asked 0x43#8 body s0 → body.length = 2 → field1 body 0 = 2 →
      let s1 := touchStandby s0
      let n := field1 body 1
      n ≤ 255
      ∧ (s1.pu.chain ≠ [] ∨ s1.pu.state = .tapeLowHold ∨ s1.pu.holdPending = true →
          exec (.punchControlFeed body) s = .next (reply 0x43#8 (plainAnswer .wrongState) s1))
      ∧ (s1.pu.chain = [] → s1.pu.state ≠ .tapeLowHold → s1.pu.holdPending = false →
          (n = 0 → exec (.punchControlFeed body) s = .next (reply 0x43#8 (ok []) s1))
          ∧ (n ≠ 0 → 32 ≤ s1.pu.queue.length →
              exec (.punchControlFeed body) s = .next (reply 0x43#8 (plainAnswer .full) s1))
          ∧ (n ≠ 0 → s1.pu.queue.length < 32 →
              exec (.punchControlFeed body) s = .next (reply 0x43#8 (ok [])
                (punchSettle { s1 with pu := { s1.pu with queue := s1.pu.queue ++ [.blank n] } })))))
    ∧ (∀ s : State,
        let s1 := finishJob (punchReads 32 s)
        (s.pu.state = .tapeLowHold → punchSettle s = s)
        ∧ (s.pu.state ≠ .tapeLowHold → s1.pu.cycle ≠ none ∨ s1.pu.state = .tapeLowHold → punchSettle s = s1)
        ∧ (s.pu.state ≠ .tapeLowHold → s1.pu.cycle = none → s1.pu.state ≠ .tapeLowHold → punchSettle s = { s1 with pu := { s1.pu with
            state := if s1.punchHolds = true then .held
              else if s1.pu.queue ≠ [] ∨ s1.pu.chain ≠ [] ∨ s1.pu.held ≠ none then .ready else .off } })
        ∧ (s.punchHolds = true ↔ ∃ j rest e, s.pu.chain = j :: rest ∧ s.pu.stage = .body ∧ j.follow = true ∧ s.pu.queue = []
            ∧ s.pu.held = none ∧ s.store.punchRead = none ∧ s.store.entry? j.number = some e ∧ e.state = .open
            ∧ e.length ≤ j.readPos)
        ∧ (s.punchWants = true ↔ ∃ j rest, s.pu.chain = j :: rest ∧ s.pu.stage = .body ∧ s.store.punchRead = none
            ∧ j.readPos < s.store.lengthOf j.number ∧ s.pu.queue.length ≤ 24))
    ∧ (∀ (s : State) (n : Nat),
        punchReads 0 s = s ∧ (s.punchWants = false → punchReads (n + 1) s = s)
        ∧ ∀ j rest e, s.punchWants = true → s.pu.chain = j :: rest → s.store.entry? j.number = some e →
          let cs := s.store.cellChars s.mem e j.readPos e.length
          (s.store.staged (bodyCell e.header j.readPos) = true → punchReads (n + 1) s = punchReads n { s with pu := { s.pu with
            queue := s.pu.queue ++ taggedEntries j.number j.readPos cs
            chain := { j with readPos := j.readPos + cs.length } :: rest } })
          ∧ (s.store.staged (bodyCell e.header j.readPos) = false → punchReads (n + 1) s =
            { s with store := { s.store with punchRead := some ⟨j.number, j.readPos⟩ } }))
    ∧ (∀ (n p : Nat) (cs : List StationCode), (taggedEntries n p cs).length = cs.length
        ∧ ∀ i, (taggedEntries n p cs)[i]? = cs[i]?.map fun c => PunchEntry.text c (some ⟨n, p + i⟩))
    ∧ ∀ s : State,
        (s.pu.chain = [] ∨ s.pu.stage = .none → finishJob s = s)
        ∧ ∀ j rest, s.pu.chain = j :: rest →
          let empty := s.pu.queue = [] ∧ s.pu.held = none ∧ s.pu.cycle = none ∧ s.store.punchRead = none
          let done := empty ∧ ∃ e, s.store.entry? j.number = some e ∧ e.state ≠ .open ∧ j.cursor = e.length
          let ended := autoReleaseTest j.number (raise (.punchJobDone j.number j.follow j.cursor)
            { s with pu := { s.pu with chain := rest, stage := .none, shift := .unknown } })
          (s.pu.stage = .body → done → j.trailer ≠ 0 →
            finishJob s = { s with pu := { s.pu with queue := [.blank j.trailer], stage := .trailer } })
          ∧ (s.pu.stage = .body → done → j.trailer = 0 → finishJob s = endPunchJob s)
          ∧ (s.pu.stage = .body → ¬done → finishJob s = s)
          ∧ (s.pu.stage = .trailer → empty → finishJob s = endPunchJob s)
          ∧ (s.pu.stage = .trailer → ¬empty → finishJob s = s)
          ∧ (s.pu.holdPending = false → endPunchJob s = ended)
          ∧ (s.pu.holdPending = true → endPunchJob s = raise .tapeLow
              { ended with pu := { ended.pu with state := .tapeLowHold, holdPending := false } })

/-! ### The message store -/

/-- STORE-OPEN, STORE-APPEND and STORE-CLOSE: BUSY in MEMORY-INIT; an opening takes the next number, or the first after it that
no entry holds, the cell at the tail and a place at the directory's end; an append takes the codes one by one while the write
queue holds 2 cells or fewer, and stops there, at a cell that cannot take a code, and where the ring runs out, which closes the
message TRUNCATED; a close sets COMPLETE and answers number and length; the reports come before the reply (log 69). A close
makes the entry CLOSED with the flags it has, those of its cause and PRINT-INCOMPLETE where the printer cannot print the tracked
message's rest, asks for the header rewrite and a place for the last cell, ends the tracking, and lets the punch go on; then
MESSAGE-CLOSED is raised and the message tested for release (R108, R117, R150, R164, R168, R170, R172 to R175). -/
def Obligations.OutgoingMessage : Prop :=
  (∀ s s0 : State, s.asked 0x30#8 [] s0 →
      let s1 := touchStandby s0
      (s1.store.memInit = true → exec (.storeOpen []) s = .next (reply 0x30#8 (plainAnswer .busy) s1))
      ∧ (s1.store.memInit = false → (∃ e ∈ s1.store.dir, e.state = .open) →
          exec (.storeOpen []) s = .next (reply 0x30#8 (plainAnswer .wrongState) s1))
      ∧ (s1.store.memInit = false → (∀ e ∈ s1.store.dir, e.state ≠ .open) →
          (64 ≤ s1.store.dir.length ∨ s1.store.free = 0 →
            exec (.storeOpen []) s = .next (reply 0x30#8 (plainAnswer .full) s1))
          ∧ (s1.store.dir.length < 64 → 1 ≤ s1.store.free →
            ∃ n, (∀ e ∈ s1.store.dir, e.number ≠ n)
              ∧ (1 ≤ s1.store.nextNumber → s1.store.nextNumber ≤ 65535 → s1.store.firstFree n)
              ∧ exec (.storeOpen []) s = .next (reply 0x30#8 (ok (put2 n)) { s1 with store := { s1.store with
                  tail := (s1.store.tail + 1) % 524288, free := s1.store.free - 1
                  nextNumber := if 65535 ≤ n then 1 else n + 1
                  dir := s1.store.dir ++ [
                    { number := n, dir := .out, state := .open, header := s1.store.tail, length := 0
                      flags := ⟨false, false, false, false, false, false⟩, errors := 0, rate := none, peakQ := 0, print := 0
                      punch := 0, sent := 0, delivered := 0, trackedMark := false, punchNamed := false
                      headerDue := true }] } }))))
    ∧ (∀ (s s0 : State) (body : List Byte), s.asked 0x31#8 body s0 → body.length ≤ 240 →
        let s1 := touchStandby s0
        let r := appendCodes (body.map (BitVec.setWidth 7)) 0 s1
        (s1.store.memInit = true → exec (.storeAppend body) s = .next (reply 0x31#8 (plainAnswer .busy) s1))
        ∧ (s1.store.memInit = false → (∃ b ∈ body, 128 ≤ b.toNat) →
            ∃ p, exec (.storeAppend body) s = .next (reply 0x31#8 ⟨.badValue p, []⟩ s1))
        ∧ (s1.store.memInit = false → (∀ b ∈ body, b.toNat < 128) →
            (s1.store.open? .out = none →
              exec (.storeAppend body) s = .next (reply 0x31#8 (plainAnswer .wrongState) s1))
            ∧ (s1.store.open? .out ≠ none → r.2.2 = .all →
              exec (.storeAppend body) s = .next (reply 0x31#8 (ok (put1 r.2.1)) r.1))
            ∧ (s1.store.open? .out ≠ none → r.2.2 ≠ .all → r.2.1 ≠ 0 →
              exec (.storeAppend body) s = .next (reply 0x31#8 ⟨.part r.2.1, put1 r.2.1⟩ r.1))
            ∧ (s1.store.open? .out ≠ none → r.2.2 = .queueFull → r.2.1 = 0 →
              exec (.storeAppend body) s = .next (reply 0x31#8 (plainAnswer .busy) r.1))
            ∧ (s1.store.open? .out ≠ none → r.2.2 = .ringOut → r.2.1 = 0 →
              exec (.storeAppend body) s = .next (reply 0x31#8 (plainAnswer .full) r.1))))
    ∧ (∀ (s : State) (e : Entry) (c : StationCode) (rest : List StationCode) (n : Nat), s.store.open? .out = some e →
        (2 < s.store.queue.length → appendCodes (c :: rest) n s = (s, n, .queueFull))
        ∧ (s.store.queue.length ≤ 2 → ∀ s1,
            (∀ p, storeInto e c s = (s1, .at p) → appendCodes (c :: rest) n s = appendCodes rest (n + 1) s1)
            ∧ (storeInto e c s = (s1, .blocked) → appendCodes (c :: rest) n s = (s1, n, .queueFull))
            ∧ (storeInto e c s = (s1, .ringOut) → appendCodes (c :: rest) n s = (s1, n, .ringOut))))
    ∧ (∀ (s : State) (n : Nat), appendCodes [] n s = (s, n, .all)
        ∧ ∀ c rest, s.store.open? .out = none → appendCodes (c :: rest) n s = (s, n, .ringOut))
    ∧ (∀ (e : Entry) (c : StationCode) (s : State),
        let r := s.store.storeChar e.dir e c
        (∀ p, r.2 = .at p → storeInto e c s = ({ s with store := r.1 }, .at p))
        ∧ (r.2 = .blocked → e.dir = .out → storeInto e c s = (s, .blocked))
        ∧ (r.2 = .blocked → e.dir = .in → storeInto e c s = ({ s with store := { s.store with
            dir := s.store.dir.map fun x =>
              if x.number = e.number then { x with flags := { x.flags with truncated := true }, headerDue := true } else x } },
            .blocked))
        ∧ (r.2 = .ringOut →
            storeInto e c s = (closeMessage e ⟨false, false, true, false, false, false⟩ s, .ringOut)))
    ∧ (∀ s s0 : State, s.asked 0x32#8 [] s0 →
        let s1 := touchStandby s0
        (s1.store.memInit = true → exec (.storeClose []) s = .next (reply 0x32#8 (plainAnswer .busy) s1))
        ∧ (s1.store.memInit = false → s1.store.open? .out = none →
            exec (.storeClose []) s = .next (reply 0x32#8 (plainAnswer .wrongState) s1))
        ∧ ∀ e, s1.store.memInit = false → s1.store.open? .out = some e →
            exec (.storeClose []) s = .next (reply 0x32#8 (ok (put2 e.number ++ put3 e.length))
              (closeMessage e ⟨true, false, false, false, false, false⟩ s1)))
    ∧ (∀ (e : Entry) (f : MsgFlags) (s : State),
        let cannot : Bool := match s.pr.state with
          | .paperOut => true
          | .jammed => true
          | .off => s.pr.unavailable
          | _ => false
        let rest : Bool := decide (s.pr.tracked = some e.number) && cannot && decide (e.print < e.length)
        let flags : MsgFlags :=
          { complete := e.flags.complete || f.complete, endedByClear := e.flags.endedByClear || f.endedByClear
            truncated := e.flags.truncated || f.truncated, poorLine := e.flags.poorLine || f.poorLine
            printIncomplete := e.flags.printIncomplete || f.printIncomplete || rest
            punchSkipped := e.flags.punchSkipped || f.punchSkipped }
        let st : Store := { s.store with dir := s.store.dir.map fun x =>
          if x.number = e.number then { x with state := .closed, flags := flags, headerDue := true } else x }
        closeMessage e f s = autoReleaseTest e.number (raise (.messageClosed e.number flags) (punchSettle { s with
          store := st.closeAsm e.dir
          pr := { s.pr with tracked := if s.pr.tracked = some e.number then none else s.pr.tracked } })))
    ∧ (∀ (d : Dir) (f : MsgFlags) (s : State),
        (s.store.open? d = none → closeOpen d f s = s) ∧ ∀ e, s.store.open? d = some e → closeOpen d f s = closeMessage e f s)
    ∧ ∀ (d : Dir) (st : Store),
        let a := st.asm d
        let claimed : Nat := match d with
          | .in => 0
          | .out => if st.inCell.state = .waiting then 1 else 0
        (a.state = .filling → a.changed = false → st.closeAsm d = st.setAsm d ⟨.empty, 0, 0, [], false⟩)
        ∧ (a.state = .filling → a.changed = true → st.queue.length + claimed < 4 → st.closeAsm d =
            ({ st with queue := st.queue ++ [⟨a.target, a.chars.map codeByte⟩] } : Store).setAsm d ⟨.empty, 0, 0, [], false⟩)
        ∧ (a.state = .filling → a.changed = true → 4 ≤ st.queue.length + claimed →
            st.closeAsm d = st.setAsm d { a with state := .waiting })
        ∧ (a.state ≠ .filling → st.closeAsm d = st)

/-- A character stored takes the next byte of its assembly cell; the first of a cell takes a ring cell; the eighth makes the
cell ask for a place in the write queue, where it joins or waits; the OUT cell's claim stands behind a waiting IN cell's. One
that finds its cell waiting is not stored, one that finds no free cell runs the ring out. The LINE-IN character that opens an
incoming message first closes an open outgoing one TRUNCATED; the entry takes the next number, or the first after it that no
entry holds, the cell at the tail, the agreed rate and Q; with PRINTER in its row the
message becomes tracked, with PUNCH in it a FOLLOW job joins the chain, which makes an OFF punch READY, or PUNCH-SKIPPED is
set, and MESSAGE-OPENED is raised (R27, R73, R108, R109, R129, R148, R168 to R170, R172, R173). -/
def Obligations.StoredCharacter : Prop :=
  (∀ (row : Row) (s : State), s.store.dir.length < 64 →
    let s0 := closeOpen .out ⟨false, false, true, false, false, false⟩ s
    ∃ n, (∀ e ∈ s0.store.dir, e.number ≠ n)
      ∧ (1 ≤ s0.store.nextNumber → s0.store.nextNumber ≤ 65535 → s0.store.firstFree n) ∧
      let s1 : State := { s0 with store := { s0.store with
        tail := (s0.store.tail + 1) % 524288, free := s0.store.free - 1, nextNumber := if 65535 ≤ n then 1 else n + 1
        dir := s0.store.dir ++ [
          { number := n, dir := .in, state := .open, header := s0.store.tail, length := 0
            flags := ⟨false, false, false, false, false, false⟩, errors := 0, rate := s.call.rate, peakQ := s.rx.q, print := 0
            punch := 0, sent := 0, delivered := 0, trackedMark := false, punchNamed := false, headerDue := true }] } }
      let s2 := if row.printer then trackMessage n s1 else s1
      let s3 := if row.punch then punchSettle (followMessage n s2) else s2
      openIncoming row s = raise (.messageOpened n s.call.rate) s3)
  ∧ (∀ (n : Nat) (s : State),
      trackMessage n s = noteLiveWork { s with
        pr := { s.pr with
          tracked := some n
          catchUp := if s.pr.mode = .catchUp ∧ s.pr.catchUp = none then some n else s.pr.catchUp }
        store := { s.store with
          dir := s.store.dir.map fun e => if e.number = n then { e with trackedMark := true } else e } }
      ∧ (s.pu.chain.length < 8 → followMessage n s = { s with
          pu := { s.pu with chain := s.pu.chain ++ [⟨n, 0, s.pu.defLeader, s.pu.defTrailer, true, 0, 0⟩] }
          store := { s.store with
            dir := s.store.dir.map fun e => if e.number = n then { e with punchNamed := true } else e } })
      ∧ (8 ≤ s.pu.chain.length → followMessage n s = { s with store := { s.store with
          dir := s.store.dir.map fun e => if e.number = n then
            { e with flags := { e.flags with punchSkipped := true }, headerDue := true } else e } }))
  ∧ (∀ st : Store, (st.placeFree .in = true ↔ st.queue.length < 4)
      ∧ (st.placeFree .out = true ↔
          st.queue.length < 4 ∧ (st.inCell.state = .waiting → st.queue.length < 3)))
  ∧ ∀ (d : Dir) (e : Entry) (c : StationCode) (st : Store),
    ((st.asm d).state = .waiting → st.storeChar d e c = (st, .blocked))
    ∧ ((st.asm d).state = .empty → st.free = 0 → st.storeChar d e c = (st, .ringOut))
    ∧ ((st.asm d).state = .empty → 0 < st.free →
        (st.storeChar d e c).2 = .at e.length
        ∧ (st.storeChar d e c).1.asm d = ⟨.filling, e.number, st.tail, [c], true⟩
        ∧ (st.storeChar d e c).1.tail = (st.tail + 1) % 524288 ∧ (st.storeChar d e c).1.free = st.free - 1
        ∧ (st.storeChar d e c).1.queue = st.queue)
    ∧ ((st.asm d).state = .filling → (st.asm d).chars.length < 7 →
        (st.storeChar d e c).2 = .at e.length
        ∧ (st.storeChar d e c).1.asm d = { st.asm d with chars := (st.asm d).chars ++ [c], changed := true }
        ∧ (st.storeChar d e c).1.tail = st.tail ∧ (st.storeChar d e c).1.free = st.free
        ∧ (st.storeChar d e c).1.queue = st.queue)
    ∧ ((st.asm d).state = .filling → (st.asm d).chars.length = 7 →
        (st.storeChar d e c).2 = .at e.length
        ∧ (st.placeFree d = true → (st.storeChar d e c).1.asm d = ⟨.empty, 0, 0, [], false⟩
            ∧ (st.storeChar d e c).1.queue =
                st.queue ++ [⟨(st.asm d).target, ((st.asm d).chars ++ [c]).map (BitVec.setWidth 8)⟩])
        ∧ (st.placeFree d = false → ((st.storeChar d e c).1.asm d).state = .waiting
            ∧ (st.storeChar d e c).1.queue = st.queue))
    ∧ (∀ x, (st.storeChar d e c).2 = .at x →
        (st.storeChar d e c).1.dir = st.dir.map fun y => if y.number = e.number then { y with length := y.length + 1 } else y)

/-- READ-MESSAGE is tested in the order of R177 and then read: staged cells are served at once, one after another, until a cell
is not staged or the count is there; with every character there the delivered cursor rises and the reply carries the clamped
offset and the characters, with a cell to read it waits. A number is looked up in the directory, and a RELEASED entry is none
for the requests that name it. RELEASE is tested in the order of R178 and
makes the entry RELEASED, its header rewrite asked for; the RELEASED entries at the old end of the directory leave it, their
cells become free, and writes to those cells that are not in progress leave the write queue; every other entry stays as it is.
The automatic release releases a CLOSED incoming message that is printed and punched as far as it was to be and that no block
names. The position 0 of BAD-VALUE: log 6. A READ-MESSAGE being served protects its message: log 34 (R169, R171, R176 to R180).
-/
def Obligations.ReadAndRelease : Prop :=
  (∀ (s s0 : State) (body : List Byte), s.asked 0x33#8 body s0 → body.length = 6 →
      let s1 := touchStandby s0
      let n := field2 body 0
      let count := field1 body 5
      (n = 0 ∨ count = 0 ∨ 200 < count →
        ∃ p, exec (.readMessage body) s = .next (reply 0x33#8 ⟨.badValue p, []⟩ s1))
      ∧ (n ≠ 0 → 1 ≤ count → count ≤ 200 →
          (s1.store.memInit = true → exec (.readMessage body) s = .next (reply 0x33#8 (plainAnswer .busy) s1))
          ∧ (s1.store.memInit = false → s1.store.live? n = none →
              exec (.readMessage body) s = .next (reply 0x33#8 (plainAnswer .noSuchMessage) s1))
          ∧ ∀ e, s1.store.memInit = false → s1.store.live? n = some e →
              let o := min e.length (field3 body 2)
              exec (.readMessage body) s = .next (hostContinue ⟨n, o, min count (e.length - o), []⟩ s1)))
    ∧ (∀ (s : State) (h : HostRead) (e : Entry), s.store.entry? h.number = some e →
        let h1 := s.store.serveHost s.mem e 26 h
        (h1.got.length < h.count →
          hostContinue h s = { s with store := { s.store with hostRead := some h1 } })
        ∧ (h.count ≤ h1.got.length → hostContinue h s = autoReleaseTest h.number (reply 0x33#8
            (ok (put3 h.offset ++ put1 h1.got.length ++ h1.got.map (BitVec.setWidth 8)))
            { s with store := { s.store with
                dir := s.store.dir.map fun x =>
                  if x.number = h.number then { x with delivered := min x.length (max x.delivered (h.offset + h.count)) }
                  else x
                hostRead := none } })))
    ∧ (∀ (m : List Host.Cell) (e : Entry) (st : Store) (h : HostRead),
        let pos := h.offset + h.got.length
        st.serveHost m e 0 h = h
        ∧ (∀ n, h.count ≤ h.got.length ∨ st.staged (bodyCell e.header pos) = false → st.serveHost m e n h = h)
        ∧ (∀ n, h.got.length < h.count → st.staged (bodyCell e.header pos) = true → st.serveHost m e (n + 1) h =
            st.serveHost m e n { h with got := h.got ++ st.cellChars m e pos (h.offset + h.count) })
        ∧ (h.count ≤ 200 →
            let t := st.serveHost m e 26 h
            t.got.length < t.count → st.staged (bodyCell e.header (t.offset + t.got.length)) = false))
    ∧ (∀ (st : Store) (n : Nat),
        (st.entry? n = none ↔ ∀ e ∈ st.dir, e.number ≠ n)
        ∧ (∀ e, st.entry? n = some e → e ∈ st.dir ∧ e.number = n)
        ∧ (st.live? n = none ↔ ∀ e, st.entry? n = some e → e.state = .released)
        ∧ ∀ e, st.live? n = some e ↔ st.entry? n = some e ∧ e.state ≠ .released)
    ∧ (∀ (s s0 : State) (body : List Byte), s.asked 0x34#8 body s0 → body.length = 2 →
        let s1 := touchStandby s0
        let n := field2 body 0
        (n = 0 → exec (.release body) s = .next (reply 0x34#8 (badValue 0) s1))
        ∧ (n ≠ 0 → s1.store.memInit = true → exec (.release body) s = .next (reply 0x34#8 (plainAnswer .busy) s1))
        ∧ (n ≠ 0 → s1.store.memInit = false → s1.store.live? n = none →
            exec (.release body) s = .next (reply 0x34#8 (plainAnswer .noSuchMessage) s1))
        ∧ ∀ e, n ≠ 0 → s1.store.memInit = false → s1.store.live? n = some e →
            (e.state = .open → exec (.release body) s = .next (reply 0x34#8 (plainAnswer .wrongState) s1))
            ∧ (e.state ≠ .open → s1.named n = true →
                exec (.release body) s = .next (reply 0x34#8 (plainAnswer .inUse) s1))
            ∧ (e.state ≠ .open → s1.named n = false → ∃ st, exec (.release body) s =
                .next (reply 0x34#8 (ok []) { s1 with store := st }) ∧ (∀ x ∈ st.dir, x.number = n → x.state = .released)
                ∧ st.queue.length ≤ s1.store.queue.length ∧ s1.store.free ≤ st.free ∧ st.tail = s1.store.tail
                ∧ (∀ x, st.dir.head? = some x → x.state ≠ .released) ∧ st = s1.store.release n))
    ∧ (∀ (n : Nat) (st : Store),
        let marked := st.dir.map fun e => if e.number = n then { e with state := .released, headerDue := true } else e
        let gone := marked.takeWhile fun e => decide (e.state = .released)
        let cells := (gone.map fun e => 1 + (e.length + 7) / 8).sum
        let freed (w : CellWrite) : Bool := gone.any fun e => e.holdsCell w.target
        let t := st.release n
        t = { st with head := t.head, free := t.free, dir := t.dir, queue := t.queue }
        ∧ t.dir = marked.dropWhile (fun e => decide (e.state = .released)) ∧ t.free = st.free + cells
        ∧ t.head = (if gone = [] then st.head else (st.head + cells) % 524288)
        ∧ ((∀ w x, st.access ≠ some ⟨.write w, x⟩) → t.queue = st.queue.filter fun w => !freed w)
        ∧ ∀ w x, st.access = some ⟨.write w, x⟩ →
            t.queue = st.queue.take 1 ++ (st.queue.drop 1).filter fun w => !freed w)
    ∧ (∀ (e : Entry) (c : Nat),
        e.holdsCell c = true ↔ (c + 524288 - e.header) % 524288 < 1 + (e.length + 7) / 8)
    ∧ (∀ (n : Nat) (s : State),
        (s.store.entry? n = none → autoReleaseTest n s = s)
        ∧ (∀ e, s.store.entry? n = some e →
          let due := s.call.autoRelease = true ∧ e.dir = .in ∧ e.state = .closed
            ∧ (e.trackedMark = true → e.print = e.length) ∧ (e.punchNamed = true → e.punch = e.length) ∧ s.named e.number = false
          (due → autoReleaseTest n s = { s with store := s.store.release n }) ∧ (¬due → autoReleaseTest n s = s))
        ∧ givenUp [] s = s ∧ ∀ ns, givenUp (n :: ns) s = givenUp ns (autoReleaseTest n s))
    ∧ ∀ (s : State) (n : Nat), s.named n = true ↔
        (∃ j ∈ s.pr.jobs, j.number = n) ∨ (∃ j ∈ s.pu.chain, j.number = n) ∨ s.pr.tracked = some n ∨ s.pr.catchUp = some n
        ∨ ((s.call.play.state = .running ∨ s.call.play.state = .paused) ∧ s.call.play.number = n)
        ∨ ∃ h, s.store.hostRead = some h ∧ h.number = n

/-- LIST-DIRECTORY: BUSY in MEMORY-INIT; else the number of entries, the start index, k and k listings of 26 bytes, from the
start index on, nine at most; an index above 63 is BAD-VALUE. A listing holds the number, direction, state and rate in one byte
(an OUT entry's rate bits are 0: log 23), the flags, the header cell, the length, the errors, the highest Q, the four cursors
and a 0. -/
def Obligations.ListDirectoryAnswer : Prop :=
  (∀ (s s0 : State) (body : List Byte), s.asked 0x35#8 body s0 → body.length = 1 →
      let s1 := touchStandby s0
      let i := field1 body 0
      let k := min 9 (s1.store.dir.length - i)
      (s1.store.memInit = true → exec (.listDirectory body) s = .next (reply 0x35#8 (plainAnswer .busy) s1))
      ∧ (s1.store.memInit = false → 63 < i → ∃ p, exec (.listDirectory body) s = .next (reply 0x35#8 ⟨.badValue p, []⟩ s1))
      ∧ (s1.store.memInit = false → i ≤ 63 → exec (.listDirectory body) s = .next (reply 0x35#8
          (ok ([BitVec.ofNat 8 s1.store.dir.length, BitVec.ofNat 8 i, BitVec.ofNat 8 k]
            ++ ((s1.store.dir.drop i).take k).flatMap Entry.listing)) s1)))
    ∧ ∀ e : Entry, e.listing.length = 26 ∧ e.listing.take 2 = put2 e.number ∧
        let byte (n : Nat) : Byte := BitVec.ofNat 8 n
        let two (n : Nat) : List Byte := [byte (n / 256), byte n]
        let three (n : Nat) : List Byte := [byte (n / 65536), byte (n / 256), byte n]
        let mark (b : Bool) : Nat := if b then 1 else 0
        let dir : Nat := match e.dir with
          | .in => 0
          | .out => 1
        let state : Nat := match e.state with
          | .open => 0
          | .closed => 1
          | .released => 2
        let rate : Nat := match e.rate with
          | none => 0
          | some r => r.index
        e.listing = two e.number
          ++ [byte (dir + 2 * state + 8 * rate),
            byte (mark e.flags.complete + 2 * mark e.flags.endedByClear + 4 * mark e.flags.truncated + 8 * mark e.flags.poorLine
              + 16 * mark e.flags.printIncomplete + 32 * mark e.flags.punchSkipped)]
          ++ three e.header ++ three e.length ++ [byte e.errors] ++ two e.peakQ ++ three e.print ++ three e.punch
          ++ three e.sent ++ three e.delivered ++ [0]

/-- PLAYBACK is tested in the order of R155 and starts at the clamped offset, done at once at the length, with its report before
the reply (log 69); PLAYBACK-RESUME goes on from the sent cursor of a paused one; PLAYBACK-CANCEL ends it and answers the sent
cursor, in 3 bytes (log 56). A RUNNING playback with no character at hand and no read outstanding reads at its read position,
while that is below the length, to the end of the cell (log 35): from staging at once, else the read is outstanding (R50, R155,
R156, R166, R176; the position 0 of BAD-VALUE: log 6; the number that each playback takes: log 33). -/
def Obligations.Playbacks : Prop :=
  (∀ (s s0 : State) (body : List Byte), s.asked 0x21#8 body s0 → body.length = 5 →
      let s1 := touchStandby s0
      let n := field2 body 0
      (n = 0 → exec (.playback body) s = .next (reply 0x21#8 (badValue 0) s1))
      ∧ (n ≠ 0 → s1.call.state ≠ .connected →
          exec (.playback body) s = .next (reply 0x21#8 (plainAnswer .wrongState) s1))
      ∧ (n ≠ 0 → s1.call.state = .connected → s1.call.play.state = .running ∨ s1.call.play.state = .paused →
          exec (.playback body) s = .next (reply 0x21#8 (plainAnswer .busy) s1))
      ∧ (n ≠ 0 → s1.call.state = .connected → s1.call.play.state ≠ .running → s1.call.play.state ≠ .paused →
          (s1.store.live? n = none →
            exec (.playback body) s = .next (reply 0x21#8 (plainAnswer .noSuchMessage) s1))
          ∧ ∀ e, s1.store.live? n = some e →
              (e.dir = .in ∨ e.state = .open →
                exec (.playback body) s = .next (reply 0x21#8 (plainAnswer .wrongState) s1))
              ∧ (e.dir = .out → e.state ≠ .open →
                let o := min e.length (field3 body 2)
                let s2 : State := { s1 with
                  store := s1.store.setSent n o
                  call := { s1.call with play := ⟨.running, n, o, [], [], s1.call.play.run + 1⟩ } }
                exec (.playback body) s = .next (reply 0x21#8 (ok (put3 o))
                  (if e.length ≤ o then advanceSent o s2 else playbackAsk s2)))))
    ∧ (∀ s s0 : State, s.asked 0x22#8 [] s0 →
        let s1 := touchStandby s0
        (s1.call.play.state = .paused → s1.call.state = .connected →
          exec (.playbackResume []) s = .next (reply 0x22#8 (ok []) (playbackAsk { s1 with call := { s1.call with
            play := { s1.call.play with state := .running, readPos := s1.sentCursor, buf := [], skipped := [] } } })))
        ∧ (s1.call.play.state ≠ .paused ∨ s1.call.state ≠ .connected →
          exec (.playbackResume []) s = .next (reply 0x22#8 (plainAnswer .wrongState) s1)))
    ∧ (∀ s : State,
        let p := s.call.play
        let wants : Prop := p.state = .running ∧ p.buf = [] ∧ s.store.playRead = none ∧ p.readPos < s.store.lengthOf p.number
        (¬wants → playbackAsk s = s)
        ∧ ∀ e, wants → s.store.entry? p.number = some e →
            (s.store.staged (bodyCell e.header p.readPos) = true → playbackAsk s = { s with call := { s.call with
              play := { p with buf := s.store.cellChars s.mem e p.readPos e.length } } })
            ∧ (s.store.staged (bodyCell e.header p.readPos) = false →
                playbackAsk s = { s with store := { s.store with playRead := some ⟨p.number, p.readPos⟩ } }))
    ∧ (∀ (s : State) (n : Nat),
        (s.store.entry? n = none → s.store.lengthOf n = 0 ∧ s.store.printOf n = 0)
        ∧ (∀ e, s.store.entry? n = some e → s.store.lengthOf n = e.length ∧ s.store.printOf n = e.print
            ∧ (s.call.play.number = n → s.sentCursor = e.sent)))
    ∧ ∀ s s0 : State, s.asked 0x23#8 [] s0 →
        let s1 := touchStandby s0
        (s1.call.play.state = .running ∨ s1.call.play.state = .paused →
          ∃ t, exec (.playbackCancel []) s = .next (reply 0x23#8 (ok (put3 s1.sentCursor)) t)
            ∧ t.call = { s1.call with play := { s1.call.play with state := .cancelled, buf := [], skipped := [] } }
            ∧ t.store.playRead = none ∧ t.tx = s1.tx ∧ t.conv = s1.conv ∧ t.pr = s1.pr ∧ t.pu = s1.pu ∧ t.mem = s1.mem)
        ∧ (s1.call.play.state ≠ .running → s1.call.play.state ≠ .paused →
          exec (.playbackCancel []) s = .next (reply 0x23#8 (plainAnswer .wrongState) s1))

/-! ### The DRAM -/

/-- REFRESH_TIMER adds to the debt (at 8 it stays: log 26; in a wake: log 67), MEMORY_INIT_COMPLETE closes the banks,
DRAM_GRANT grants the first access of R166's order with the duration of R162: 10 cycles for a read and 9 for a write after the
row is open, 3 for a refresh, 4 with a bank open. WRITE_QUEUE_CLAIM fills the write queue in R169's order; WRITE_THROUGH copies
a changed cell when nothing else waits, the IN cell's first (R162 to R166, R168, R169, R174). -/
def Obligations.DramEvents : Prop :=
  (∀ s : State, s.store.memInit = false → s.call.state ≠ .standby →
      exec .refreshTimer s = .next { s with store := { s.store with debt := min 8 (s.store.debt + 1) } })
    ∧ (∀ s : State, s.store.memInit = true →
        exec .refreshTimer s = .next s
        ∧ exec .memoryInitComplete s = .next { s with store := { s.store with
            memInit := false, banks := Vector.replicate 4 .closed, debt := 0 } })
    ∧ (∀ (s : State) (w : Work), s.store.access = none → s.store.memInit = false → s.store.selfRefresh = false →
        s.store.firstWaiting? = some w →
        (w.inDevice = true →
          exec .dramGrant s = .next { s with store := { s.store with access := some ⟨w, s.store.cycles w⟩ } })
        ∧ (w.inDevice = false → exec .dramGrant s = .fault .noSuchCell))
    ∧ (∀ s : State, s.store.access.isSome = true ∨ s.store.memInit = true ∨ s.store.selfRefresh = true
          ∨ s.store.firstWaiting? = none → exec .dramGrant s = .next s)
    ∧ (∀ st : Store,
        (8 ≤ st.debt → st.firstWaiting? = some .refresh)
        ∧ (∀ w ws, st.debt < 8 → st.queue = w :: ws → 3 ≤ st.queue.length → st.firstWaiting? = some (.write w))
        ∧ (∀ q e, st.debt < 8 → st.queue.length < 3 → st.playRead = some q → st.entry? q.number = some e →
            st.firstWaiting? = some (.read .playback (bodyCell e.header q.pos) true))
        ∧ (∀ q e, st.debt < 8 → st.queue.length < 3 → st.playRead = none → st.printRead = some q →
            st.entry? q.number = some e → st.firstWaiting? = some (.read .printer (bodyCell e.header q.pos) true))
        ∧ (∀ q e, st.debt < 8 → st.queue.length < 3 → st.playRead = none → st.printRead = none → st.punchRead = some q →
            st.entry? q.number = some e → st.firstWaiting? = some (.read .punch (bodyCell e.header q.pos) true))
        ∧ (∀ h e, st.debt < 8 → st.queue.length < 3 → st.playRead = none → st.printRead = none → st.punchRead = none →
            st.hostRead = some h → st.entry? h.number = some e →
            st.firstWaiting? = some (.read .host (bodyCell e.header (h.offset + h.got.length)) true))
        ∧ (st.debt < 8 → st.playRead = none → st.printRead = none → st.punchRead = none → st.hostRead = none →
            (∀ w ws, st.queue = w :: ws → st.firstWaiting? = some (.write w))
            ∧ (st.queue = [] → 1 ≤ st.debt → st.firstWaiting? = some .refresh)
            ∧ (st.queue = [] → st.debt = 0 → st.firstWaiting? = none)))
    ∧ (∀ (st : Store) (c : Nat),
        (st.banks[cellBank c] = .closed → st.openCycles c = 1)
        ∧ (st.banks[cellBank c] = .open (c / 128) → st.openCycles c = 0)
        ∧ (∀ row, row ≠ c / 128 → st.banks[cellBank c] = .open row → st.openCycles c = 2)
        ∧ (cellBank c).val = c / 32 % 4
        ∧ (∀ (r : Reader) (live : Bool), st.cycles (.read r c live) = st.openCycles c + 10)
        ∧ (∀ bs, st.cycles (.write ⟨c, bs⟩) = st.openCycles c + 9)
        ∧ ((∃ (i : Fin 4) (row : Nat), st.banks[i] = .open row) → st.cycles .refresh = 4)
        ∧ ((∀ (i : Fin 4) (row : Nat), st.banks[i] ≠ .open row) → st.cycles .refresh = 3))
    ∧ ∀ s : State, s.store.queue.length < 4 →
        (s.store.inCell.state = .waiting → exec .writeQueueClaim s = .next { s with store := { s.store with
          queue := s.store.queue ++ [⟨s.store.inCell.target, s.store.inCell.chars.map codeByte⟩]
          inCell := ⟨.empty, 0, 0, [], false⟩ } })
        ∧ (s.store.inCell.state ≠ .waiting → s.store.outCell.state = .waiting →
          exec .writeQueueClaim s = .next { s with store := { s.store with
            queue := s.store.queue ++ [⟨s.store.outCell.target, s.store.outCell.chars.map codeByte⟩]
            outCell := ⟨.empty, 0, 0, [], false⟩ } })
        ∧ (∀ e, s.store.inCell.state ≠ .waiting → s.store.outCell.state ≠ .waiting →
            s.store.dir.find? Entry.headerDue = some e → exec .writeQueueClaim s = .next { s with store := { s.store with
              queue := s.store.queue ++ [⟨e.header, e.headerBytes⟩]
              dir := s.store.dir.map fun x => if x.number = e.number then { x with headerDue := false } else x } })
        ∧ (s.store.queue = [] → s.store.inCell.state = .filling → s.store.inCell.changed = true →
            s.store.outCell.state ≠ .waiting → (∀ e ∈ s.store.dir, e.headerDue = false) →
            exec .writeThrough s = .next { s with store := { s.store with
              queue := [⟨s.store.inCell.target, s.store.inCell.chars.map codeByte⟩]
              inCell := { s.store.inCell with changed := false } } })
        ∧ (s.store.queue = [] → s.store.inCell.state ≠ .filling ∨ s.store.inCell.changed = false →
            s.store.inCell.state ≠ .waiting → s.store.outCell.state = .filling → s.store.outCell.changed = true →
            (∀ e ∈ s.store.dir, e.headerDue = false) →
            exec .writeThrough s = .next { s with store := { s.store with
              queue := [⟨s.store.outCell.target, s.store.outCell.chars.map codeByte⟩]
              outCell := { s.store.outCell with changed := false } } })
        ∧ (s.store.queue ≠ [] ∨ (∃ e ∈ s.store.dir, e.headerDue = true) ∨ s.store.inCell.state = .waiting
            ∨ s.store.outCell.state = .waiting → exec .writeThrough s = .next s)

/-- DRAM_ACCESS_COMPLETE: a write changes exactly the bytes of its cell that are not masked (of a list in canonical form and
bytes within the cell, which StepKeepsMemoryAndCursors keeps), leaves its row open and takes the head from the write queue; a
refresh closes every bank and pays one of the debt; a read changes no byte and serves its reader, unless it was abandoned. That
the read is served here, with the length as it stands here, is the model's choice (log 63). Its reader gets the characters from
its position to the end of the cell or of the text: each is the one in the assembly cell, else the newest of the write queue,
else the DRAM's byte. A cell is staged while the write queue, a WAITING cell or a changed FILLING one holds it (R161 to R163,
R167, R168, R176, R177). -/
def Obligations.AccessCompletes : Prop :=
  (∀ (s : State) (w : CellWrite) (n : Nat), s.store.access = some ⟨.write w, n⟩ → w.target < 524288 →
      ∃ m, exec .dramAccessComplete s = .next { s with
          store := { s.store with
            access := none, queue := s.store.queue.tail
            banks := s.store.banks.set (cellBank w.target) (.open (w.target / 128)) }
          mem := m }
        ∧ (Memory.wf s.mem = true → w.fits →
            (∀ i b, w.bytes[i]? = some b → Memory.read m (w.target * 8 + i) = b)
            ∧ ∀ a, a < w.target * 8 ∨ w.target * 8 + w.bytes.length ≤ a → Memory.read m a = Memory.read s.mem a))
    ∧ (∀ (s : State) (n : Nat), s.store.access = some ⟨.refresh, n⟩ →
        exec .dramAccessComplete s = .next { s with store := { s.store with
          access := none, banks := Vector.replicate 4 .closed, debt := s.store.debt - 1 } })
    ∧ (∀ (s : State) (r : Reader) (c n : Nat), s.store.access = some ⟨.read r c false, n⟩ → c < 524288 →
        exec .dramAccessComplete s = .next { s with store := { s.store with
          access := none, banks := s.store.banks.set (cellBank c) (.open (c / 128)) } })
    ∧ (∀ (s : State) (r : Reader) (c n : Nat), s.store.access = some ⟨.read r c true, n⟩ → c < 524288 →
        ∃ t, exec .dramAccessComplete s = .next t ∧ t.mem = s.mem
          ∧ t = serveReader r { s with store := { s.store with
              access := none, banks := s.store.banks.set (cellBank c) (.open (c / 128)) } })
    ∧ (∀ (s : State) (q : Read), s.store.playRead = some q →
        serveReader .playback s = { s with
          store := { s.store with playRead := none }
          call := { s.call with play := { s.call.play with buf := s.servedChars q.number q.pos } } })
    ∧ (∀ (s : State) (q : Read), s.store.printRead = some q →
        serveReader .printer s = { s with
          store := { s.store with printRead := none }
          pr := { s.pr with buf := s.servedChars q.number q.pos, bufPos := q.pos } })
    ∧ (∀ (s : State) (q : Read) (j : PunchJob) (rest : List PunchJob), s.store.punchRead = some q → s.pu.chain = j :: rest →
        let cs := s.servedChars q.number q.pos
        serveReader .punch s = punchSettle { s with
          store := { s.store with punchRead := none }
          pu := { s.pu with
            queue := s.pu.queue ++ taggedEntries j.number j.readPos cs
            chain := { j with readPos := j.readPos + cs.length } :: rest } })
    ∧ (∀ s : State,
        (∀ q, s.store.punchRead = some q → s.pu.chain = [] →
          serveReader .punch s = punchSettle { s with store := { s.store with punchRead := none } })
        ∧ (s.store.playRead = none → serveReader .playback s = s) ∧ (s.store.printRead = none → serveReader .printer s = s)
        ∧ (s.store.punchRead = none → serveReader .punch s = s) ∧ (s.store.hostRead = none → serveReader .host s = s))
    ∧ (∀ (s : State) (h : HostRead) (e : Entry), s.store.hostRead = some h → s.store.entry? h.number = some e →
        serveReader .host s = hostContinue
          { h with got := h.got ++ s.store.cellChars s.mem e (h.offset + h.got.length) (h.offset + h.count) } s)
    ∧ (∀ (s : State) (n pos : Nat), (s.store.entry? n = none → s.servedChars n pos = [])
        ∧ ∀ e, s.store.entry? n = some e → s.servedChars n pos = s.store.cellChars s.mem e pos e.length)
    ∧ (∀ (m : List Host.Cell) (st : Store) (e : Entry) (pos limit : Nat),
        (st.cellChars m e pos limit).length = min (8 * (pos / 8 + 1)) limit - pos
        ∧ ∀ k, k < min (8 * (pos / 8 + 1)) limit - pos →
            (st.cellChars m e pos limit)[k]? = some (st.charAt m e (pos + k)))
    ∧ (∀ (m : List Host.Cell) (st : Store) (e : Entry) (pos : Nat),
        let cell := (e.header + 1 + pos / 8) % 524288
        let a := st.asm e.dir
        let held := a.state ≠ .empty ∧ a.number = e.number ∧ a.target = cell
        bodyCell e.header pos = cell
        ∧ (∀ c, held → a.chars[pos % 8]? = some c → st.charAt m e pos = c)
        ∧ (¬held ∨ a.chars[pos % 8]? = none →
            (∀ pre w post b, st.queue = pre ++ w :: post → w.target = cell → w.bytes[pos % 8]? = some b →
              (∀ x ∈ post, x.target = cell → x.bytes[pos % 8]? = none) → st.charAt m e pos = b.setWidth 7)
            ∧ ((∀ w ∈ st.queue, w.target = cell → w.bytes[pos % 8]? = none) →
              st.charAt m e pos = (Memory.read m (cell * 8 + pos % 8)).setWidth 7)))
    ∧ (∀ (st : Store) (c : Nat), st.staged c = true ↔
        (∃ w ∈ st.queue, w.target = c)
        ∨ ∃ d, (st.asm d).target = c
            ∧ ((st.asm d).state = .waiting ∨ (st.asm d).state = .filling ∧ (st.asm d).changed = true))
    ∧ (∀ (r : Reader) (n : Nat) (w : Work),
        ((∀ c live, w ≠ .read r c live) → Access.disown r ⟨w, n⟩ = ⟨w, n⟩)
        ∧ ∀ c live, w = .read r c live → Access.disown r ⟨w, n⟩ = ⟨.read r c false, n⟩)
    ∧ ∀ (s : State) (a : Access) (c : Nat), s.store.access = some a → 524288 ≤ c →
        ((∃ bs, a.work = .write ⟨c, bs⟩) ∨ ∃ r l, a.work = .read r c l) → exec .dramAccessComplete s = .fault .noSuchCell

/-! ### The command link -/

/-- STATUS answers with the 32 bytes of the record and clears every latch; FETCH-REPORT answers with the head report, which
leaves the queue, or with nothing; the head report is the oldest of the lowest class. The record holds, in this order: call
state, mode, call mode, readiness, rate and outcome; latches, live flags, Q, N, ceiling and maximum rate; the printer's six
values, the punch's four, the keyboard's one, the store's three and the link's two; 255 stands for none, a mark is 1 when set
(log 51), and enumerations are numbered in the order the rules list them (log 9) (R37, R38, R185, R187, R189). -/
def Obligations.StatusAndFetch : Prop :=
  (∀ s s0 : State, s.asked 0x50#8 [] s0 →
      let s1 := touchStandby s0
      exec (.status []) s = .next (reply 0x50#8 (ok s1.statusRecord)
        { s1 with latches := ⟨false, false, false, false, false, false⟩ }))
    ∧ (∀ s : State, s.statusRecord.length = 32 ∧ s.statusRecord[0]? = some (BitVec.ofNat 8 s.call.state.number)
        ∧ s.statusRecord[6]? = some (BitVec.ofNat 8 s.latches.byte)
        ∧ s.statusRecord =
          let byte (n : Nat) : Byte := BitVec.ofNat 8 n
          let mark (b : Bool) : Nat := if b then 1 else 0
          [byte s.call.state.number, byte s.call.mode.number,
            byte (match s.call.callMode with
              | none => 255
              | some m => m.number),
            byte (mark s.call.configured),
            byte (match s.call.rate with
              | none => 255
              | some r => r.index),
            byte (match s.call.outcome with
              | none => 255
              | some o => o.number)]
          ++ [byte (mark s.latches.breakSeen + 2 * mark s.latches.polarityReversed + 4 * mark s.latches.lineLost
                + 8 * mark s.latches.agreementFault + 16 * mark s.latches.linkTextLost + 32 * mark s.latches.eventLost),
            byte (mark s.rx.loopCurrent + 2 * mark s.rx.receiving), byte (s.rx.q / 256), byte s.rx.q, byte (s.rx.n / 256),
            byte s.rx.n, byte s.agr.ceiling.index, byte s.agr.cfgMax.index]
          ++ [byte s.pr.state.number, byte s.pr.mode.number, byte (mark s.pr.unavailable), byte s.pr.queue.length,
            byte s.pr.jobs.length, byte s.pr.column]
          ++ [byte s.pu.state.number, byte s.pu.queue.length, byte s.pu.chain.length, byte (mark s.pu.holdPending)]
          ++ [byte s.kb.buffer.length, byte (s.store.free / 65536), byte (s.store.free / 256), byte s.store.free,
            byte s.store.dir.length, byte (mark s.store.memInit)]
          ++ [byte s.link.reports.length, byte s.link.mode.number])
    ∧ ([CallState.standby, .idle, .ringCheck, .starting, .answering, .originating, .agreeing, .connected,
          .clearing].map CallState.number = List.range 9
        ∧ [Mode.attended, .unattended].map Mode.number = List.range 2
        ∧ [AgreeOutcome.agreed, .plain, .fault].map AgreeOutcome.number = List.range 3
        ∧ [Rate.r50, .r75, .r100, .r150, .r200, .r300].map Rate.index = List.range 6
        ∧ [PrState.off, .starting, .ready, .printing, .returning, .feeding, .paperOut, .jammed].map PrState.number = List.range 8
        ∧ [PrMode.direct, .catchUp].map PrMode.number = List.range 2
        ∧ [PuState.off, .ready, .punching, .leader, .held, .tapeLowHold].map PuState.number = List.range 6
        ∧ [ReportMode.push, .pull].map ReportMode.number = List.range 2)
    ∧ (∀ s s0 : State, s.asked 0x51#8 [] s0 →
        let s1 := touchStandby s0
        (headReport? s1.link.reports = none → exec (.fetchReport []) s = .next (reply 0x51#8 (ok []) s1))
        ∧ ∀ r, headReport? s1.link.reports = some r → exec (.fetchReport []) s = .next (reply 0x51#8 (ok (r.kind :: r.content))
            { s1 with link := { s1.link with reports := dropHead r s1.link.reports } }))
    ∧ (∀ rs : List Report, headReport? rs = none ↔ rs = [])
    ∧ ∀ (rs : List Report) (r : Report), headReport? rs = some r →
        ∃ pre post, rs = pre ++ r :: post ∧ dropHead r rs = pre ++ post ∧ (∀ x ∈ pre, r.cls < x.cls)
          ∧ ∀ x ∈ post, r.cls ≤ x.cls

/-- The two live flags: LOOP-CURRENT is the reading of LOOPSENSE at the last tick, RECEIVING stands in START-CHECK and
ASSEMBLE; each is reported as it stands, and neither is latched or changed by a STATUS reply; RECEIVING is false after
power-on. -/
def Obligations.LiveFlagsFollowR38 : Prop :=
  (∀ s : State, (s.rx.receiving = true ↔ s.rx.state = .startCheck ∨ s.rx.state = .assemble)
      ∧ s.statusRecord[7]? = some (BitVec.ofNat 8 (bit s.rx.loopCurrent + 2 * bit s.rx.receiving)))
    ∧ (∀ s s0 : State, s.asked 0x50#8 [] s0 →
        ∃ t, exec (.status []) s = .next (reply 0x50#8 (ok (touchStandby s0).statusRecord) t) ∧ t.rx = s.rx)
    ∧ (∀ s : State, s.pending = [] → ∃ t, step s = .next t ∧ t.rx.loopCurrent = s.pins.loopSense)
    ∧ ∀ s t : State, exec .powerOn s = .next t → t.rx.receiving = false

/-- Bytes and frames: SYNC begins a frame, a length outside 1 to 241 is rejected FORMAT, the CHECK byte judges the frame,
whether it comes as a byte or as FRAME_RECEIVED: held when two places are not both taken, the sum is 0 and the KIND is a
request's; else rejected, CHECK or FORMAT, or kept as an overrun. FRAME_ABANDONED hunts again. A rejection of a reason that
waits unsent counts into it. A reply joins the reply queue, frees its request's place, and with the last of the replies that a
kept OVERRUN waits for that rejection joins (log 30); the transmitter then chooses. A report joins by the table of R186: it
replaces the queued one of its kind in its place, a thirteenth event report or one that finds 24 entries drops another and sets
a latch (with 12 event reports and a TEXT report queued: log 12), a TEXT report that finds 24 does not join (R182 to R184,
R186). -/
def Obligations.LinkBytesAndFrames : Prop :=
  (∀ (s : State) (b : Byte), s.link.rx = .hunt →
      exec (.linkByteReceived b) s =
        .next (if b = 0xA5#8 then { s with link := { s.link with rx := .inFrame [] } } else s))
    ∧ (∀ (s : State) (b : Byte), s.link.rx = .stopped → exec (.linkByteReceived b) s = .next s)
    ∧ (∀ (s : State) (b : Byte), s.link.rx = .inFrame [] →
        (1 ≤ b.toNat → b.toNat ≤ 241 →
          exec (.linkByteReceived b) s = .next { s with link := { s.link with rx := .inFrame [b] } })
        ∧ (b.toNat = 0 ∨ 241 < b.toNat → exec (.linkByteReceived b) s =
            .next { s with link := (Link.reject .format 0 1 { s.link with rx := .hunt }).kick }))
    ∧ (∀ (s : State) (len b : Byte) (inner : List Byte), s.link.rx = .inFrame (len :: inner) →
        (inner.length < len.toNat → exec (.linkByteReceived b) s =
          .next { s with link := { s.link with rx := .inFrame (len :: (inner ++ [b])) } })
        ∧ (inner.length = len.toNat →
            exec (.linkByteReceived b) s = .next { s with link := s.link.judge len inner b }
            ∧ exec (.frameReceived b) s = .next { s with link := s.link.judge len inner b }))
    ∧ (∀ (l : Link) (len kind check : Byte) (body : List Byte),
        let h : Link := { l with rx := .hunt }
        let sum := len + (kind + (body.foldr (· + ·) 0)) + check
        (l.holding.length < 2 → sum = 0 → requestKinds.contains kind = true →
          l.judge len (kind :: body) check = { h with holding := l.holding ++ [⟨kind, body⟩] })
        ∧ (l.holding.length < 2 → sum = 0 → requestKinds.contains kind = false →
          l.judge len (kind :: body) check = (h.reject .format kind 1).kick)
        ∧ (l.holding.length < 2 → sum ≠ 0 → l.judge len (kind :: body) check = (h.reject .check kind 1).kick)
        ∧ (2 ≤ l.holding.length → l.overrun = none →
          l.judge len (kind :: body) check = { h with overrun := some ⟨kind, 1, l.holding.length⟩ })
        ∧ (∀ o, 2 ≤ l.holding.length → l.overrun = some o →
          l.judge len (kind :: body) check =
            { h with overrun := some { o with kind := kind, count := min 255 (o.count + 1) } }))
    ∧ (∀ (l : Link) (why : RejectReason) (kind : Byte),
        l.replies.any (OutFrame.isRejected why) = false →
          l.reject why kind 1 = { l with replies := l.replies ++ [.rejected why kind 1] })
    ∧ (∀ (s : State) (bs : List Byte), s.link.rx = .inFrame bs →
        exec .frameAbandoned s = .next { s with link := { s.link with rx := .hunt } })
    ∧ (∀ (l : Link) (why : RejectReason) (kind : Byte) (n : Nat),
        (∀ f ∈ l.replies, ∀ k c, f ≠ .rejected why k c) →
          l.reject why kind n = { l with replies := l.replies ++ [.rejected why kind (min 255 n)] })
    ∧ (∀ (l : Link) (why : RejectReason) (kind : Byte) (n : Nat) (pre post : List OutFrame) (k : Byte) (c : Nat),
        l.replies = pre ++ .rejected why k c :: post → (∀ f ∈ pre ++ post, ∀ k c, f ≠ .rejected why k c) →
          l.reject why kind n = { l with replies := pre ++ .rejected why kind (min 255 (c + n)) :: post })
    ∧ (∀ (kind : Byte) (a : Answer) (s : State),
        let l1 : Link := { s.link with replies := s.link.replies ++ [.reply kind a], holding := s.link.holding.tail }
        (s.link.overrun = none → reply kind a s = { s with link := l1.kick })
        ∧ ∀ o, s.link.overrun = some o →
          (2 ≤ o.behind →
            reply kind a s = { s with link := ({ l1 with overrun := some { o with behind := o.behind - 1 } } : Link).kick })
          ∧ (o.behind ≤ 1 →
            reply kind a s = { s with link := (({ l1 with overrun := none } : Link).reject .overrun o.kind o.count).kick }))
    ∧ (∀ (r : Report) (s : State), ∃ (rs : List Report) (text event : Bool), joinReports r s.link.reports = (rs, text, event)
        ∧ raise r s = { s with
            link := ({ s.link with reports := rs } : Link).kick
            latches := { s.latches with
              linkTextLost := s.latches.linkTextLost || text, eventLost := s.latches.eventLost || event } })
    ∧ (∀ r : Report,
        (r.isText = true ↔ ∃ src codes, r = .text src codes)
        ∧ (r.isCounted = true ↔ (∃ n rate, r = .messageOpened n rate) ∨ (∃ n f, r = .messageClosed n f)
            ∨ ∃ n follow c, r = .punchJobDone n follow c)
        ∧ (r.isStatus = true ↔ r.isText = false ∧ r.isCounted = false))
    ∧ ∀ (r : Report) (rs : List Report),
        (∀ pre x post, r.isStatus = true → rs = pre ++ x :: post → x.kind = r.kind → (∀ y ∈ pre ++ post, y.kind ≠ r.kind) →
          joinReports r rs = (pre ++ r :: post, false, false))
        ∧ ((r.isStatus = true → ∀ x ∈ rs, x.kind ≠ r.kind) →
          (∀ pre x post, r.isCounted = true → 12 ≤ rs.countP Report.isCounted → rs = pre ++ x :: post → x.isCounted = true →
            (∀ y ∈ pre, y.isCounted = false) → joinReports r rs = (pre ++ post ++ [r], false, true))
          ∧ ((r.isCounted = true → rs.countP Report.isCounted < 12) →
            (rs.length < 24 → joinReports r rs = (rs ++ [r], false, false))
            ∧ (24 ≤ rs.length →
              (r.isText = true → joinReports r rs = (rs, false, false))
              ∧ (r.isText = false →
                (∀ pre x post, rs = pre ++ x :: post → x.isText = true → (∀ y ∈ post, y.isText = false) →
                  joinReports r rs = (pre ++ post ++ [r], true, false))
                ∧ (∀ pre x post, (∀ y ∈ rs, y.isText = false) → rs = pre ++ x :: post → x.isCounted = true →
                  (∀ y ∈ pre, y.isCounted = false) → joinReports r rs = (pre ++ post ++ [r], false, true))))))

/-! ### Invariants -/

/-- Every invariant holds after power-on. -/
def Obligations.InvariantsHoldAtReset : Prop :=
  State.reset.callInv ∧ State.reset.rx.inv ∧ State.reset.link.reportsInv ∧ State.reset.memInv ∧ State.reset.store.cursorInv
    ∧ State.reset.capInv ∧ State.reset.storeInv ∧ State.reset.namedInv

/-- LOOP-CLOSE follows the call state, and the agreement unit, the attended wait, a wake and a clear signal belong each to one
call state (R51, R54, R140, R143, R159). -/
def Obligations.StepKeepsCallInvariant : Prop :=
  ∀ s t : State, s.callInv → step s = .next t → t.callInv

/-- The figures, counts and settings of the line receiver stay in their ranges (R24, R26, R29, R32, R36). The report queue
stays within 24 entries, 12 of them counted, with one status report of a kind, and no reply waits while the transmitter is idle
(R184, R186). -/
def Obligations.StepKeepsReceiverAndReports : Prop :=
  (∀ s t : State, s.rx.inv → step s = .next t → t.rx.inv)
    ∧ ∀ s t : State, s.link.reportsInv → step s = .next t → t.link.reportsInv

/-- The DRAM's contents stay in canonical form, and no cell write is longer than a cell (R161, R168, R169). No cursor passes
its message's length (R171). -/
def Obligations.StepKeepsMemoryAndCursors : Prop :=
  (∀ s t : State, s.memInv → step s = .next t → t.memInv)
    ∧ ∀ s t : State, s.store.cursorInv → step s = .next t → t.store.cursorInv

/-- No queue, list or count passes its capacity: link-text holding, key-down list, keyboard buffer, REPT count, agreement
counts, printer queue, print jobs, punch queue, punch chain, ring count, refresh debt, write queue, directory, input holding,
answerback string and EOM sequence; the motor-off timer stays below its 10 s (log 68) (R69, R81, R82, R89, R91, R98, R107,
R111, R122, R125, R141, R163, R169, R170, R182). -/
def Obligations.StepKeepsCapacities : Prop :=
  ∀ s t : State, s.capInv → step s = .next t → t.capInv

/-- The ring and the directory stay in order: the free count and one header cell and ceil(length / 8) body cells for each entry
make 524,288 together, and the entries stand in the ring in directory order from the head to the tail; no two entries hold one
number; only the newest entry can be OPEN, so that at most one IN and one OUT entry is, and an IN entry is OPEN only in
CONNECTED; the assembly cell of the OPEN entry holds its begun cell; the oldest entry is not RELEASED. The call invariant,
which StepKeepsCallInvariant keeps, rules out a call that ends in another state than CLEARING (R167, R168, R170, R172, R173,
R180). -/
def Obligations.StepKeepsStoreInOrder : Prop :=
  (∀ s t : State, s.callInv → s.storeInv → step s = .next t → t.storeInv)
    ∧ ∀ st : Store, st.layoutInv → ∀ d : Dir, (st.dir.filter fun e => e.dir == d && e.state == .open).length ≤ 1

/-- No entry that a print job, a punch job, the printer's tracked or catch-up message, a RUNNING or PAUSED playback or a
READ-MESSAGE being served (log 34) names is RELEASED or reclaimed, in a store that is in order, which StepKeepsStoreInOrder
keeps (R176, R178). -/
def Obligations.StepKeepsNamedMessages : Prop :=
  ∀ s t : State, s.callInv → s.storeInv → s.namedInv → step s = .next t → t.namedInv
end

