-- ==== Sys2Proof/Laws/Frames.lean ====
section
/-! SUPPORT. What each operation of the model leaves unchanged: one lemma for each, naming every field of the state that the
operation does not write. -/

namespace Sys2Proof.Machine

@[simp] theorem raise_frame (r : Report) (s : State) :
    (raise r s).conv = s.conv ∧ (raise r s).rx = s.rx ∧ (raise r s).tx = s.tx ∧ (raise r s).agr = s.agr ∧
      (raise r s).router = s.router ∧ (raise r s).kb = s.kb ∧ (raise r s).pr = s.pr ∧ (raise r s).pu = s.pu ∧
      (raise r s).call = s.call ∧ (raise r s).store = s.store ∧ (raise r s).mem = s.mem ∧ (raise r s).pins = s.pins ∧
      (raise r s).freeCount = s.freeCount ∧ (raise r s).pending = s.pending := by
  simp [raise]

@[simp] theorem reply_frame (k : Byte) (a : Answer) (s : State) :
    (reply k a s).conv = s.conv ∧ (reply k a s).rx = s.rx ∧ (reply k a s).latches = s.latches ∧
      (reply k a s).tx = s.tx ∧ (reply k a s).agr = s.agr ∧ (reply k a s).router = s.router ∧ (reply k a s).kb = s.kb ∧
      (reply k a s).pr = s.pr ∧ (reply k a s).pu = s.pu ∧ (reply k a s).call = s.call ∧ (reply k a s).store = s.store ∧
      (reply k a s).mem = s.mem ∧ (reply k a s).pins = s.pins ∧ (reply k a s).freeCount = s.freeCount ∧
      (reply k a s).pending = s.pending := by
  simp [reply]

@[simp] theorem useFree_frame (s : State) :
    (useFree s).conv = s.conv ∧ (useFree s).rx = s.rx ∧ (useFree s).latches = s.latches ∧ (useFree s).tx = s.tx ∧
      (useFree s).agr = s.agr ∧ (useFree s).router = s.router ∧ (useFree s).kb = s.kb ∧ (useFree s).pr = s.pr ∧
      (useFree s).pu = s.pu ∧ (useFree s).call = s.call ∧ (useFree s).store = s.store ∧ (useFree s).link = s.link ∧
      (useFree s).mem = s.mem ∧ (useFree s).pins = s.pins ∧ (useFree s).pending = s.pending := by
  simp [useFree]

@[simp] theorem readLoop_frame (b : Bool) (s : State) :
    (readLoop b s).conv = s.conv ∧ (readLoop b s).latches = s.latches ∧ (readLoop b s).tx = s.tx ∧
      (readLoop b s).agr = s.agr ∧ (readLoop b s).router = s.router ∧ (readLoop b s).kb = s.kb ∧
      (readLoop b s).pr = s.pr ∧ (readLoop b s).pu = s.pu ∧ (readLoop b s).call = s.call ∧
      (readLoop b s).store = s.store ∧ (readLoop b s).link = s.link ∧ (readLoop b s).mem = s.mem ∧
      (readLoop b s).freeCount = s.freeCount ∧ (readLoop b s).pending = s.pending := by
  simp [readLoop]

@[simp] theorem touchStandby_frame (s : State) :
    (touchStandby s).conv = s.conv ∧ (touchStandby s).rx = s.rx ∧ (touchStandby s).latches = s.latches ∧
      (touchStandby s).tx = s.tx ∧ (touchStandby s).agr = s.agr ∧ (touchStandby s).router = s.router ∧
      (touchStandby s).kb = s.kb ∧ (touchStandby s).pr = s.pr ∧ (touchStandby s).pu = s.pu ∧
      (touchStandby s).store = s.store ∧ (touchStandby s).link = s.link ∧ (touchStandby s).mem = s.mem ∧
      (touchStandby s).pins = s.pins ∧ (touchStandby s).freeCount = s.freeCount ∧ (touchStandby s).pending = s.pending := by
  unfold touchStandby
  (repeat' split) <;> simp

@[simp] theorem touchIdleClear_frame (s : State) :
    (touchIdleClear s).conv = s.conv ∧ (touchIdleClear s).rx = s.rx ∧ (touchIdleClear s).latches = s.latches ∧
      (touchIdleClear s).tx = s.tx ∧ (touchIdleClear s).agr = s.agr ∧ (touchIdleClear s).router = s.router ∧
      (touchIdleClear s).kb = s.kb ∧ (touchIdleClear s).pr = s.pr ∧ (touchIdleClear s).pu = s.pu ∧
      (touchIdleClear s).store = s.store ∧ (touchIdleClear s).link = s.link ∧ (touchIdleClear s).mem = s.mem ∧
      (touchIdleClear s).pins = s.pins ∧ (touchIdleClear s).freeCount = s.freeCount ∧
      (touchIdleClear s).pending = s.pending := by
  unfold touchIdleClear
  (repeat' split) <;> simp

@[simp] theorem enterAnswering_frame (s : State) :
    (enterAnswering s).conv = s.conv ∧ (enterAnswering s).rx = s.rx ∧ (enterAnswering s).latches = s.latches ∧
      (enterAnswering s).tx = s.tx ∧ (enterAnswering s).agr = s.agr ∧ (enterAnswering s).router = s.router ∧
      (enterAnswering s).kb = s.kb ∧ (enterAnswering s).pr = s.pr ∧ (enterAnswering s).pu = s.pu ∧
      (enterAnswering s).store = s.store ∧ (enterAnswering s).link = s.link ∧ (enterAnswering s).mem = s.mem ∧
      (enterAnswering s).pins = s.pins ∧ (enterAnswering s).freeCount = s.freeCount ∧
      (enterAnswering s).pending = s.pending := by
  simp [enterAnswering]

@[simp] theorem answerStart_frame (s : State) :
    (answerStart s).conv = s.conv ∧ (answerStart s).rx = s.rx ∧ (answerStart s).latches = s.latches ∧
      (answerStart s).tx = s.tx ∧ (answerStart s).agr = s.agr ∧ (answerStart s).router = s.router ∧
      (answerStart s).kb = s.kb ∧ (answerStart s).pu = s.pu ∧ (answerStart s).store = s.store ∧
      (answerStart s).link = s.link ∧ (answerStart s).mem = s.mem ∧ (answerStart s).pins = s.pins ∧
      (answerStart s).freeCount = s.freeCount ∧ (answerStart s).pending = s.pending := by
  unfold answerStart
  dsimp only
  (repeat' split) <;> simp

@[simp] theorem autoReleaseTest_frame (n : Nat) (s : State) :
    (autoReleaseTest n s).conv = s.conv ∧ (autoReleaseTest n s).rx = s.rx ∧
      (autoReleaseTest n s).latches = s.latches ∧ (autoReleaseTest n s).tx = s.tx ∧ (autoReleaseTest n s).agr = s.agr ∧
      (autoReleaseTest n s).router = s.router ∧ (autoReleaseTest n s).kb = s.kb ∧ (autoReleaseTest n s).pr = s.pr ∧
      (autoReleaseTest n s).pu = s.pu ∧ (autoReleaseTest n s).call = s.call ∧ (autoReleaseTest n s).link = s.link ∧
      (autoReleaseTest n s).mem = s.mem ∧ (autoReleaseTest n s).pins = s.pins ∧
      (autoReleaseTest n s).freeCount = s.freeCount ∧ (autoReleaseTest n s).pending = s.pending := by
  unfold autoReleaseTest
  (repeat' split) <;> simp

@[simp] theorem givenUp_frame (ns : List Nat) (s : State) :
    (givenUp ns s).conv = s.conv ∧ (givenUp ns s).rx = s.rx ∧ (givenUp ns s).latches = s.latches ∧
      (givenUp ns s).tx = s.tx ∧ (givenUp ns s).agr = s.agr ∧ (givenUp ns s).router = s.router ∧
      (givenUp ns s).kb = s.kb ∧ (givenUp ns s).pr = s.pr ∧ (givenUp ns s).pu = s.pu ∧ (givenUp ns s).call = s.call ∧
      (givenUp ns s).link = s.link ∧ (givenUp ns s).mem = s.mem ∧ (givenUp ns s).pins = s.pins ∧
      (givenUp ns s).freeCount = s.freeCount ∧ (givenUp ns s).pending = s.pending := by
  induction ns generalizing s with
  | nil => simp [givenUp]
  | cons n rest ih => simp [givenUp, ih]

@[simp] theorem setPrint_frame (n v : Nat) (s : State) :
    (setPrint n v s).conv = s.conv ∧ (setPrint n v s).rx = s.rx ∧ (setPrint n v s).latches = s.latches ∧
      (setPrint n v s).tx = s.tx ∧ (setPrint n v s).agr = s.agr ∧ (setPrint n v s).router = s.router ∧
      (setPrint n v s).kb = s.kb ∧ (setPrint n v s).pr = s.pr ∧ (setPrint n v s).pu = s.pu ∧
      (setPrint n v s).call = s.call ∧ (setPrint n v s).link = s.link ∧ (setPrint n v s).mem = s.mem ∧
      (setPrint n v s).pins = s.pins ∧ (setPrint n v s).freeCount = s.freeCount ∧ (setPrint n v s).pending = s.pending := by
  simp [setPrint]

@[simp] theorem setPunch_frame (n v : Nat) (s : State) :
    (setPunch n v s).conv = s.conv ∧ (setPunch n v s).rx = s.rx ∧ (setPunch n v s).latches = s.latches ∧
      (setPunch n v s).tx = s.tx ∧ (setPunch n v s).agr = s.agr ∧ (setPunch n v s).router = s.router ∧
      (setPunch n v s).kb = s.kb ∧ (setPunch n v s).pr = s.pr ∧ (setPunch n v s).pu = s.pu ∧
      (setPunch n v s).call = s.call ∧ (setPunch n v s).link = s.link ∧ (setPunch n v s).mem = s.mem ∧
      (setPunch n v s).pins = s.pins ∧ (setPunch n v s).freeCount = s.freeCount ∧ (setPunch n v s).pending = s.pending := by
  simp [setPunch]

@[simp] theorem hostContinue_frame (h : HostRead) (s : State) :
    (hostContinue h s).conv = s.conv ∧ (hostContinue h s).rx = s.rx ∧ (hostContinue h s).latches = s.latches ∧
      (hostContinue h s).tx = s.tx ∧ (hostContinue h s).agr = s.agr ∧ (hostContinue h s).router = s.router ∧
      (hostContinue h s).kb = s.kb ∧ (hostContinue h s).pr = s.pr ∧ (hostContinue h s).pu = s.pu ∧
      (hostContinue h s).call = s.call ∧ (hostContinue h s).mem = s.mem ∧ (hostContinue h s).pins = s.pins ∧
      (hostContinue h s).freeCount = s.freeCount ∧ (hostContinue h s).pending = s.pending := by
  unfold hostContinue
  dsimp only
  (repeat' split) <;> simp

@[simp] theorem ringBell_frame (s : State) :
    (ringBell s).conv = s.conv ∧ (ringBell s).rx = s.rx ∧ (ringBell s).latches = s.latches ∧ (ringBell s).tx = s.tx ∧
      (ringBell s).agr = s.agr ∧ (ringBell s).router = s.router ∧ (ringBell s).kb = s.kb ∧ (ringBell s).pu = s.pu ∧
      (ringBell s).call = s.call ∧ (ringBell s).store = s.store ∧ (ringBell s).link = s.link ∧
      (ringBell s).mem = s.mem ∧ (ringBell s).pins = s.pins ∧ (ringBell s).freeCount = s.freeCount ∧
      (ringBell s).pending = s.pending := by
  simp [ringBell]

@[simp] theorem noteLiveWork_frame (s : State) :
    (noteLiveWork s).conv = s.conv ∧ (noteLiveWork s).rx = s.rx ∧ (noteLiveWork s).latches = s.latches ∧
      (noteLiveWork s).tx = s.tx ∧ (noteLiveWork s).agr = s.agr ∧ (noteLiveWork s).router = s.router ∧
      (noteLiveWork s).kb = s.kb ∧ (noteLiveWork s).pu = s.pu ∧ (noteLiveWork s).call = s.call ∧
      (noteLiveWork s).link = s.link ∧ (noteLiveWork s).mem = s.mem ∧ (noteLiveWork s).pins = s.pins ∧
      (noteLiveWork s).freeCount = s.freeCount ∧ (noteLiveWork s).pending = s.pending := by
  unfold noteLiveWork suspendJob
  (repeat' split) <;> simp

@[simp] theorem printerAsk_frame (n p : Nat) (s : State) :
    (printerAsk n p s).conv = s.conv ∧ (printerAsk n p s).rx = s.rx ∧ (printerAsk n p s).latches = s.latches ∧
      (printerAsk n p s).tx = s.tx ∧ (printerAsk n p s).agr = s.agr ∧ (printerAsk n p s).router = s.router ∧
      (printerAsk n p s).kb = s.kb ∧ (printerAsk n p s).pu = s.pu ∧ (printerAsk n p s).call = s.call ∧
      (printerAsk n p s).link = s.link ∧ (printerAsk n p s).mem = s.mem ∧ (printerAsk n p s).pins = s.pins ∧
      (printerAsk n p s).freeCount = s.freeCount ∧ (printerAsk n p s).pending = s.pending := by
  simp [printerAsk]

@[simp] theorem compareCursors_frame (b : Bool) (s : State) :
    (compareCursors b s).conv = s.conv ∧ (compareCursors b s).rx = s.rx ∧ (compareCursors b s).latches = s.latches ∧
      (compareCursors b s).tx = s.tx ∧ (compareCursors b s).agr = s.agr ∧ (compareCursors b s).router = s.router ∧
      (compareCursors b s).kb = s.kb ∧ (compareCursors b s).pu = s.pu ∧ (compareCursors b s).call = s.call ∧
      (compareCursors b s).link = s.link ∧ (compareCursors b s).mem = s.mem ∧ (compareCursors b s).pins = s.pins ∧
      (compareCursors b s).freeCount = s.freeCount ∧ (compareCursors b s).pending = s.pending := by
  unfold compareCursors
  dsimp only
  (repeat' split) <;> simp

@[simp] theorem offComparison_frame (s : State) :
    (offComparison s).conv = s.conv ∧ (offComparison s).rx = s.rx ∧ (offComparison s).latches = s.latches ∧
      (offComparison s).tx = s.tx ∧ (offComparison s).agr = s.agr ∧ (offComparison s).router = s.router ∧
      (offComparison s).kb = s.kb ∧ (offComparison s).pu = s.pu ∧ (offComparison s).call = s.call ∧
      (offComparison s).link = s.link ∧ (offComparison s).mem = s.mem ∧ (offComparison s).pins = s.pins ∧
      (offComparison s).freeCount = s.freeCount ∧ (offComparison s).pending = s.pending := by
  unfold offComparison
  (repeat' split) <;> simp

@[simp] theorem enterCatchUp_frame (m : Option Nat) (s : State) :
    (enterCatchUp m s).conv = s.conv ∧ (enterCatchUp m s).rx = s.rx ∧ (enterCatchUp m s).latches = s.latches ∧
      (enterCatchUp m s).tx = s.tx ∧ (enterCatchUp m s).agr = s.agr ∧ (enterCatchUp m s).router = s.router ∧
      (enterCatchUp m s).kb = s.kb ∧ (enterCatchUp m s).pu = s.pu ∧ (enterCatchUp m s).call = s.call ∧
      (enterCatchUp m s).link = s.link ∧ (enterCatchUp m s).mem = s.mem ∧ (enterCatchUp m s).pins = s.pins ∧
      (enterCatchUp m s).freeCount = s.freeCount ∧ (enterCatchUp m s).pending = s.pending := by
  unfold enterCatchUp
  (repeat' split) <;> simp

@[simp] theorem readyComparison_frame (s : State) :
    (readyComparison s).conv = s.conv ∧ (readyComparison s).rx = s.rx ∧ (readyComparison s).latches = s.latches ∧
      (readyComparison s).tx = s.tx ∧ (readyComparison s).agr = s.agr ∧ (readyComparison s).router = s.router ∧
      (readyComparison s).kb = s.kb ∧ (readyComparison s).pu = s.pu ∧ (readyComparison s).call = s.call ∧
      (readyComparison s).link = s.link ∧ (readyComparison s).mem = s.mem ∧ (readyComparison s).pins = s.pins ∧
      (readyComparison s).freeCount = s.freeCount ∧ (readyComparison s).pending = s.pending := by
  unfold readyComparison
  (repeat' split) <;> simp

@[simp] theorem deliverTagged_frame (c : StationCode) (t : Tag) (s : State) :
    (deliverTagged c t s).conv = s.conv ∧ (deliverTagged c t s).rx = s.rx ∧
      (deliverTagged c t s).latches = s.latches ∧ (deliverTagged c t s).tx = s.tx ∧ (deliverTagged c t s).agr = s.agr ∧
      (deliverTagged c t s).router = s.router ∧ (deliverTagged c t s).kb = s.kb ∧ (deliverTagged c t s).pu = s.pu ∧
      (deliverTagged c t s).call = s.call ∧ (deliverTagged c t s).link = s.link ∧ (deliverTagged c t s).mem = s.mem ∧
      (deliverTagged c t s).pins = s.pins ∧ (deliverTagged c t s).freeCount = s.freeCount ∧
      (deliverTagged c t s).pending = s.pending := by
  unfold deliverTagged
  (repeat' split) <;> simp

@[simp] theorem deliverUntagged_frame (c : StationCode) (s : State) :
    (deliverUntagged c s).conv = s.conv ∧ (deliverUntagged c s).rx = s.rx ∧
      (deliverUntagged c s).latches = s.latches ∧ (deliverUntagged c s).tx = s.tx ∧ (deliverUntagged c s).agr = s.agr ∧
      (deliverUntagged c s).router = s.router ∧ (deliverUntagged c s).kb = s.kb ∧ (deliverUntagged c s).pu = s.pu ∧
      (deliverUntagged c s).call = s.call ∧ (deliverUntagged c s).link = s.link ∧ (deliverUntagged c s).mem = s.mem ∧
      (deliverUntagged c s).pins = s.pins ∧ (deliverUntagged c s).freeCount = s.freeCount ∧
      (deliverUntagged c s).pending = s.pending := by
  unfold deliverUntagged
  (repeat' split) <;> simp

@[simp] theorem completeChar_frame (c : PrChar) (s : State) :
    (completeChar c s).conv = s.conv ∧ (completeChar c s).rx = s.rx ∧ (completeChar c s).latches = s.latches ∧
      (completeChar c s).tx = s.tx ∧ (completeChar c s).agr = s.agr ∧ (completeChar c s).router = s.router ∧
      (completeChar c s).kb = s.kb ∧ (completeChar c s).pu = s.pu ∧ (completeChar c s).call = s.call ∧
      (completeChar c s).link = s.link ∧ (completeChar c s).mem = s.mem ∧ (completeChar c s).pins = s.pins ∧
      (completeChar c s).freeCount = s.freeCount ∧ (completeChar c s).pending = s.pending := by
  unfold completeChar
  (repeat' split) <;> simp

@[simp] theorem completeChars_frame (cs : List PrChar) (s : State) :
    (completeChars cs s).conv = s.conv ∧ (completeChars cs s).rx = s.rx ∧ (completeChars cs s).latches = s.latches ∧
      (completeChars cs s).tx = s.tx ∧ (completeChars cs s).agr = s.agr ∧ (completeChars cs s).router = s.router ∧
      (completeChars cs s).kb = s.kb ∧ (completeChars cs s).pu = s.pu ∧ (completeChars cs s).call = s.call ∧
      (completeChars cs s).link = s.link ∧ (completeChars cs s).mem = s.mem ∧ (completeChars cs s).pins = s.pins ∧
      (completeChars cs s).freeCount = s.freeCount ∧ (completeChars cs s).pending = s.pending := by
  induction cs generalizing s with
  | nil => simp [completeChars]
  | cons c rest ih => simp [completeChars, ih]

@[simp] theorem jam_frame (c : JamCause) (s : State) :
    (jam c s).conv = s.conv ∧ (jam c s).rx = s.rx ∧ (jam c s).tx = s.tx ∧ (jam c s).agr = s.agr ∧
      (jam c s).router = s.router ∧ (jam c s).kb = s.kb ∧ (jam c s).pu = s.pu ∧ (jam c s).call = s.call ∧
      (jam c s).mem = s.mem ∧ (jam c s).pins = s.pins ∧ (jam c s).freeCount = s.freeCount ∧ (jam c s).pending = s.pending := by
  simp [jam]

@[simp] theorem enterPaperOut_frame (s : State) :
    (enterPaperOut s).conv = s.conv ∧ (enterPaperOut s).rx = s.rx ∧ (enterPaperOut s).tx = s.tx ∧
      (enterPaperOut s).agr = s.agr ∧ (enterPaperOut s).router = s.router ∧ (enterPaperOut s).kb = s.kb ∧
      (enterPaperOut s).pu = s.pu ∧ (enterPaperOut s).store = s.store ∧ (enterPaperOut s).mem = s.mem ∧
      (enterPaperOut s).pins = s.pins ∧ (enterPaperOut s).freeCount = s.freeCount ∧ (enterPaperOut s).pending = s.pending := by
  simp [enterPaperOut]

@[simp] theorem endJob_frame (s : State) :
    (endJob s).conv = s.conv ∧ (endJob s).rx = s.rx ∧ (endJob s).latches = s.latches ∧ (endJob s).tx = s.tx ∧
      (endJob s).agr = s.agr ∧ (endJob s).router = s.router ∧ (endJob s).kb = s.kb ∧ (endJob s).pu = s.pu ∧
      (endJob s).call = s.call ∧ (endJob s).link = s.link ∧ (endJob s).mem = s.mem ∧ (endJob s).pins = s.pins ∧
      (endJob s).freeCount = s.freeCount ∧ (endJob s).pending = s.pending := by
  unfold endJob
  (repeat' split) <;> simp

@[simp] theorem afterOperation_frame (s : State) :
    (afterOperation s).conv = s.conv ∧ (afterOperation s).rx = s.rx ∧ (afterOperation s).tx = s.tx ∧
      (afterOperation s).agr = s.agr ∧ (afterOperation s).router = s.router ∧ (afterOperation s).kb = s.kb ∧
      (afterOperation s).pu = s.pu ∧ (afterOperation s).mem = s.mem ∧ (afterOperation s).pins = s.pins ∧
      (afterOperation s).freeCount = s.freeCount ∧ (afterOperation s).pending = s.pending := by
  unfold afterOperation
  dsimp only
  (repeat' split) <;> simp

@[simp] theorem takeChar_frame (c : PrChar) (s : State) :
    (takeChar c s).conv = s.conv ∧ (takeChar c s).rx = s.rx ∧ (takeChar c s).latches = s.latches ∧
      (takeChar c s).tx = s.tx ∧ (takeChar c s).agr = s.agr ∧ (takeChar c s).router = s.router ∧
      (takeChar c s).kb = s.kb ∧ (takeChar c s).pu = s.pu ∧ (takeChar c s).call = s.call ∧
      (takeChar c s).link = s.link ∧ (takeChar c s).mem = s.mem ∧ (takeChar c s).pins = s.pins ∧
      (takeChar c s).freeCount = s.freeCount ∧ (takeChar c s).pending = s.pending := by
  unfold takeChar
  (repeat' split) <;> simp

@[simp] theorem runJob_frame (s : State) :
    (runJob s).conv = s.conv ∧ (runJob s).rx = s.rx ∧ (runJob s).latches = s.latches ∧ (runJob s).tx = s.tx ∧
      (runJob s).agr = s.agr ∧ (runJob s).router = s.router ∧ (runJob s).kb = s.kb ∧ (runJob s).pu = s.pu ∧
      (runJob s).call = s.call ∧ (runJob s).link = s.link ∧ (runJob s).mem = s.mem ∧ (runJob s).pins = s.pins ∧
      (runJob s).freeCount = s.freeCount ∧ (runJob s).pending = s.pending := by
  unfold runJob
  (repeat' split) <;> simp

@[simp] theorem readyTake_frame (s : State) :
    (readyTake s).conv = s.conv ∧ (readyTake s).rx = s.rx ∧ (readyTake s).latches = s.latches ∧
      (readyTake s).tx = s.tx ∧ (readyTake s).agr = s.agr ∧ (readyTake s).router = s.router ∧ (readyTake s).kb = s.kb ∧
      (readyTake s).pu = s.pu ∧ (readyTake s).call = s.call ∧ (readyTake s).link = s.link ∧ (readyTake s).mem = s.mem ∧
      (readyTake s).pins = s.pins ∧ (readyTake s).freeCount = s.freeCount ∧ (readyTake s).pending = s.pending := by
  unfold readyTake
  (repeat' split) <;> simp

@[simp] theorem returningTake_frame (s : State) :
    (returningTake s).conv = s.conv ∧ (returningTake s).rx = s.rx ∧ (returningTake s).latches = s.latches ∧
      (returningTake s).tx = s.tx ∧ (returningTake s).agr = s.agr ∧ (returningTake s).router = s.router ∧
      (returningTake s).kb = s.kb ∧ (returningTake s).pu = s.pu ∧ (returningTake s).call = s.call ∧
      (returningTake s).store = s.store ∧ (returningTake s).link = s.link ∧ (returningTake s).mem = s.mem ∧
      (returningTake s).pins = s.pins ∧ (returningTake s).freeCount = s.freeCount ∧ (returningTake s).pending = s.pending := by
  unfold returningTake
  (repeat' split) <;> simp

@[simp] theorem readHome_frame (b : Bool) (s : State) :
    (readHome b s).conv = s.conv ∧ (readHome b s).rx = s.rx ∧ (readHome b s).latches = s.latches ∧
      (readHome b s).tx = s.tx ∧ (readHome b s).agr = s.agr ∧ (readHome b s).router = s.router ∧
      (readHome b s).kb = s.kb ∧ (readHome b s).pu = s.pu ∧ (readHome b s).call = s.call ∧
      (readHome b s).store = s.store ∧ (readHome b s).link = s.link ∧ (readHome b s).mem = s.mem ∧
      (readHome b s).freeCount = s.freeCount ∧ (readHome b s).pending = s.pending := by
  simp [readHome]

@[simp] theorem homeTick_frame (s : State) :
    (homeTick s).conv = s.conv ∧ (homeTick s).rx = s.rx ∧ (homeTick s).latches = s.latches ∧ (homeTick s).tx = s.tx ∧
      (homeTick s).agr = s.agr ∧ (homeTick s).router = s.router ∧ (homeTick s).kb = s.kb ∧ (homeTick s).pu = s.pu ∧
      (homeTick s).call = s.call ∧ (homeTick s).store = s.store ∧ (homeTick s).link = s.link ∧
      (homeTick s).mem = s.mem ∧ (homeTick s).pending = s.pending := by
  unfold homeTick
  (repeat' split) <;> simp

@[simp] theorem requestStart_frame (s : State) :
    (requestStart s).conv = s.conv ∧ (requestStart s).rx = s.rx ∧ (requestStart s).latches = s.latches ∧
      (requestStart s).tx = s.tx ∧ (requestStart s).agr = s.agr ∧ (requestStart s).router = s.router ∧
      (requestStart s).kb = s.kb ∧ (requestStart s).pu = s.pu ∧ (requestStart s).store = s.store ∧
      (requestStart s).link = s.link ∧ (requestStart s).mem = s.mem ∧ (requestStart s).pins = s.pins ∧
      (requestStart s).freeCount = s.freeCount ∧ (requestStart s).pending = s.pending := by
  unfold requestStart
  dsimp only
  (repeat' split) <;> simp

@[simp] theorem enterTapeHold_frame (s : State) :
    (enterTapeHold s).conv = s.conv ∧ (enterTapeHold s).rx = s.rx ∧ (enterTapeHold s).tx = s.tx ∧
      (enterTapeHold s).agr = s.agr ∧ (enterTapeHold s).router = s.router ∧ (enterTapeHold s).kb = s.kb ∧
      (enterTapeHold s).pr = s.pr ∧ (enterTapeHold s).call = s.call ∧ (enterTapeHold s).store = s.store ∧
      (enterTapeHold s).mem = s.mem ∧ (enterTapeHold s).pins = s.pins ∧ (enterTapeHold s).freeCount = s.freeCount ∧
      (enterTapeHold s).pending = s.pending := by
  simp [enterTapeHold]

@[simp] theorem punchReads_frame (n : Nat) (s : State) :
    (punchReads n s).conv = s.conv ∧ (punchReads n s).rx = s.rx ∧ (punchReads n s).latches = s.latches ∧
      (punchReads n s).tx = s.tx ∧ (punchReads n s).agr = s.agr ∧ (punchReads n s).router = s.router ∧
      (punchReads n s).kb = s.kb ∧ (punchReads n s).pr = s.pr ∧ (punchReads n s).call = s.call ∧
      (punchReads n s).link = s.link ∧ (punchReads n s).mem = s.mem ∧ (punchReads n s).pins = s.pins ∧
      (punchReads n s).freeCount = s.freeCount ∧ (punchReads n s).pending = s.pending := by
  induction n generalizing s with
  | zero => simp [punchReads]
  | succ n ih =>
    unfold punchReads
    (repeat' split) <;> simp [ih]

@[simp] theorem endPunchJob_frame (s : State) :
    (endPunchJob s).conv = s.conv ∧ (endPunchJob s).rx = s.rx ∧ (endPunchJob s).tx = s.tx ∧
      (endPunchJob s).agr = s.agr ∧ (endPunchJob s).router = s.router ∧ (endPunchJob s).kb = s.kb ∧
      (endPunchJob s).pr = s.pr ∧ (endPunchJob s).call = s.call ∧ (endPunchJob s).mem = s.mem ∧
      (endPunchJob s).pins = s.pins ∧ (endPunchJob s).freeCount = s.freeCount ∧ (endPunchJob s).pending = s.pending := by
  unfold endPunchJob
  dsimp only
  (repeat' split) <;> simp

@[simp] theorem finishJob_frame (s : State) :
    (finishJob s).conv = s.conv ∧ (finishJob s).rx = s.rx ∧ (finishJob s).tx = s.tx ∧ (finishJob s).agr = s.agr ∧
      (finishJob s).router = s.router ∧ (finishJob s).kb = s.kb ∧ (finishJob s).pr = s.pr ∧
      (finishJob s).call = s.call ∧ (finishJob s).mem = s.mem ∧ (finishJob s).pins = s.pins ∧
      (finishJob s).freeCount = s.freeCount ∧ (finishJob s).pending = s.pending := by
  unfold finishJob
  (repeat' split) <;> simp

@[simp] theorem punchSettle_frame (s : State) :
    (punchSettle s).conv = s.conv ∧ (punchSettle s).rx = s.rx ∧ (punchSettle s).tx = s.tx ∧
      (punchSettle s).agr = s.agr ∧ (punchSettle s).router = s.router ∧ (punchSettle s).kb = s.kb ∧
      (punchSettle s).pr = s.pr ∧ (punchSettle s).call = s.call ∧ (punchSettle s).mem = s.mem ∧
      (punchSettle s).pins = s.pins ∧ (punchSettle s).freeCount = s.freeCount ∧ (punchSettle s).pending = s.pending := by
  unfold punchSettle
  dsimp only
  (repeat' split) <;> simp

@[simp] theorem punchComplete_frame (b : Bool) (t : Option Tag) (s : State) :
    (punchComplete b t s).conv = s.conv ∧ (punchComplete b t s).rx = s.rx ∧
      (punchComplete b t s).latches = s.latches ∧ (punchComplete b t s).tx = s.tx ∧ (punchComplete b t s).agr = s.agr ∧
      (punchComplete b t s).router = s.router ∧ (punchComplete b t s).kb = s.kb ∧ (punchComplete b t s).pr = s.pr ∧
      (punchComplete b t s).call = s.call ∧ (punchComplete b t s).link = s.link ∧ (punchComplete b t s).mem = s.mem ∧
      (punchComplete b t s).pins = s.pins ∧ (punchComplete b t s).freeCount = s.freeCount ∧
      (punchComplete b t s).pending = s.pending := by
  unfold punchComplete
  dsimp only
  (repeat' split) <;> simp

@[simp] theorem takeText_frame (c : StationCode) (t : Option Tag) (s : State) :
    (takeText c t s).conv = s.conv ∧ (takeText c t s).rx = s.rx ∧ (takeText c t s).tx = s.tx ∧
      (takeText c t s).agr = s.agr ∧ (takeText c t s).router = s.router ∧ (takeText c t s).kb = s.kb ∧
      (takeText c t s).pr = s.pr ∧ (takeText c t s).call = s.call ∧ (takeText c t s).mem = s.mem ∧
      (takeText c t s).pins = s.pins ∧ (takeText c t s).freeCount = s.freeCount ∧ (takeText c t s).pending = s.pending := by
  unfold takeText
  dsimp only
  (repeat' split) <;> simp

@[simp] theorem takeHead_frame (s : State) :
    (takeHead s).conv = s.conv ∧ (takeHead s).rx = s.rx ∧ (takeHead s).tx = s.tx ∧ (takeHead s).agr = s.agr ∧
      (takeHead s).router = s.router ∧ (takeHead s).kb = s.kb ∧ (takeHead s).pr = s.pr ∧ (takeHead s).call = s.call ∧
      (takeHead s).mem = s.mem ∧ (takeHead s).pins = s.pins ∧ (takeHead s).freeCount = s.freeCount ∧
      (takeHead s).pending = s.pending := by
  unfold takeHead
  dsimp only
  (repeat' split) <;> simp

@[simp] theorem closeMessage_frame (e : Entry) (f : MsgFlags) (s : State) :
    (closeMessage e f s).conv = s.conv ∧ (closeMessage e f s).rx = s.rx ∧ (closeMessage e f s).tx = s.tx ∧
      (closeMessage e f s).agr = s.agr ∧ (closeMessage e f s).router = s.router ∧ (closeMessage e f s).kb = s.kb ∧
      (closeMessage e f s).call = s.call ∧ (closeMessage e f s).mem = s.mem ∧ (closeMessage e f s).pins = s.pins ∧
      (closeMessage e f s).freeCount = s.freeCount ∧ (closeMessage e f s).pending = s.pending := by
  simp [closeMessage]

@[simp] theorem closeOpen_frame (d : Dir) (f : MsgFlags) (s : State) :
    (closeOpen d f s).conv = s.conv ∧ (closeOpen d f s).rx = s.rx ∧ (closeOpen d f s).tx = s.tx ∧
      (closeOpen d f s).agr = s.agr ∧ (closeOpen d f s).router = s.router ∧ (closeOpen d f s).kb = s.kb ∧
      (closeOpen d f s).call = s.call ∧ (closeOpen d f s).mem = s.mem ∧ (closeOpen d f s).pins = s.pins ∧
      (closeOpen d f s).freeCount = s.freeCount ∧ (closeOpen d f s).pending = s.pending := by
  unfold closeOpen
  (repeat' split) <;> simp

@[simp] theorem storeInto_frame (e : Entry) (c : StationCode) (s : State) :
    ((storeInto e c s).1).conv = s.conv ∧ ((storeInto e c s).1).rx = s.rx ∧ ((storeInto e c s).1).tx = s.tx ∧
      ((storeInto e c s).1).agr = s.agr ∧ ((storeInto e c s).1).router = s.router ∧ ((storeInto e c s).1).kb = s.kb ∧
      ((storeInto e c s).1).call = s.call ∧ ((storeInto e c s).1).mem = s.mem ∧ ((storeInto e c s).1).pins = s.pins ∧
      ((storeInto e c s).1).freeCount = s.freeCount ∧ ((storeInto e c s).1).pending = s.pending := by
  unfold storeInto
  dsimp only
  (repeat' split) <;> simp

@[simp] theorem trackMessage_frame (n : Nat) (s : State) :
    (trackMessage n s).conv = s.conv ∧ (trackMessage n s).rx = s.rx ∧ (trackMessage n s).latches = s.latches ∧
      (trackMessage n s).tx = s.tx ∧ (trackMessage n s).agr = s.agr ∧ (trackMessage n s).router = s.router ∧
      (trackMessage n s).kb = s.kb ∧ (trackMessage n s).pu = s.pu ∧ (trackMessage n s).call = s.call ∧
      (trackMessage n s).link = s.link ∧ (trackMessage n s).mem = s.mem ∧ (trackMessage n s).pins = s.pins ∧
      (trackMessage n s).freeCount = s.freeCount ∧ (trackMessage n s).pending = s.pending := by
  simp [trackMessage]

@[simp] theorem followMessage_frame (n : Nat) (s : State) :
    (followMessage n s).conv = s.conv ∧ (followMessage n s).rx = s.rx ∧ (followMessage n s).latches = s.latches ∧
      (followMessage n s).tx = s.tx ∧ (followMessage n s).agr = s.agr ∧ (followMessage n s).router = s.router ∧
      (followMessage n s).kb = s.kb ∧ (followMessage n s).pr = s.pr ∧ (followMessage n s).call = s.call ∧
      (followMessage n s).link = s.link ∧ (followMessage n s).mem = s.mem ∧ (followMessage n s).pins = s.pins ∧
      (followMessage n s).freeCount = s.freeCount ∧ (followMessage n s).pending = s.pending := by
  unfold followMessage
  (repeat' split) <;> simp

@[simp] theorem openIncoming_frame (row : Row) (s : State) :
    (openIncoming row s).conv = s.conv ∧ (openIncoming row s).rx = s.rx ∧ (openIncoming row s).tx = s.tx ∧
      (openIncoming row s).agr = s.agr ∧ (openIncoming row s).router = s.router ∧ (openIncoming row s).kb = s.kb ∧
      (openIncoming row s).call = s.call ∧ (openIncoming row s).mem = s.mem ∧ (openIncoming row s).pins = s.pins ∧
      (openIncoming row s).freeCount = s.freeCount ∧ (openIncoming row s).pending = s.pending := by
  unfold openIncoming
  dsimp only
  (repeat' split) <;> simp

@[simp] theorem deliverInto_frame (e : Entry) (c : StationCode) (s : State) :
    ((deliverInto e c s).state).conv = s.conv ∧ ((deliverInto e c s).state).rx = s.rx ∧
      ((deliverInto e c s).state).tx = s.tx ∧ ((deliverInto e c s).state).agr = s.agr ∧
      ((deliverInto e c s).state).router = s.router ∧ ((deliverInto e c s).state).kb = s.kb ∧
      ((deliverInto e c s).state).call = s.call ∧ ((deliverInto e c s).state).mem = s.mem ∧
      ((deliverInto e c s).state).pins = s.pins ∧ ((deliverInto e c s).state).freeCount = s.freeCount ∧
      ((deliverInto e c s).state).pending = s.pending := by
  unfold deliverInto
  have h := storeInto_frame e c s
  revert h
  (repeat' split) <;> intro h <;> simp_all

@[simp] theorem deliverLineIn_frame (row : Row) (c : StationCode) (s : State) :
    ((deliverLineIn row c s).state).conv = s.conv ∧ ((deliverLineIn row c s).state).rx = s.rx ∧
      ((deliverLineIn row c s).state).tx = s.tx ∧ ((deliverLineIn row c s).state).agr = s.agr ∧
      ((deliverLineIn row c s).state).router = s.router ∧ ((deliverLineIn row c s).state).kb = s.kb ∧
      ((deliverLineIn row c s).state).call = s.call ∧ ((deliverLineIn row c s).state).mem = s.mem ∧
      ((deliverLineIn row c s).state).pins = s.pins ∧ ((deliverLineIn row c s).state).freeCount = s.freeCount ∧
      ((deliverLineIn row c s).state).pending = s.pending := by
  unfold deliverLineIn
  dsimp only
  (repeat' split) <;> simp

@[simp] theorem flush_frame (l : Level) (s : State) :
    (flush l s).rx = s.rx ∧ (flush l s).latches = s.latches ∧ (flush l s).router = s.router ∧ (flush l s).kb = s.kb ∧
      (flush l s).pr = s.pr ∧ (flush l s).pu = s.pu ∧ (flush l s).call = s.call ∧ (flush l s).store = s.store ∧
      (flush l s).link = s.link ∧ (flush l s).mem = s.mem ∧ (flush l s).pins = s.pins ∧
      (flush l s).freeCount = s.freeCount ∧ (flush l s).pending = s.pending := by
  simp [flush]

@[simp] theorem pausePlayback_frame (s : State) :
    (pausePlayback s).conv = s.conv ∧ (pausePlayback s).rx = s.rx ∧ (pausePlayback s).latches = s.latches ∧
      (pausePlayback s).tx = s.tx ∧ (pausePlayback s).agr = s.agr ∧ (pausePlayback s).router = s.router ∧
      (pausePlayback s).kb = s.kb ∧ (pausePlayback s).pr = s.pr ∧ (pausePlayback s).pu = s.pu ∧
      (pausePlayback s).link = s.link ∧ (pausePlayback s).mem = s.mem ∧ (pausePlayback s).pins = s.pins ∧
      (pausePlayback s).freeCount = s.freeCount ∧ (pausePlayback s).pending = s.pending := by
  unfold pausePlayback
  (repeat' split) <;> simp

@[simp] theorem sendBreak_frame (s : State) :
    (sendBreak s).rx = s.rx ∧ (sendBreak s).latches = s.latches ∧ (sendBreak s).router = s.router ∧
      (sendBreak s).kb = s.kb ∧ (sendBreak s).pr = s.pr ∧ (sendBreak s).pu = s.pu ∧ (sendBreak s).link = s.link ∧
      (sendBreak s).mem = s.mem ∧ (sendBreak s).pins = s.pins ∧ (sendBreak s).freeCount = s.freeCount ∧
      (sendBreak s).pending = s.pending := by
  simp [sendBreak]

@[simp] theorem receivedBreak_frame (s : State) :
    (receivedBreak s).rx = s.rx ∧ (receivedBreak s).router = s.router ∧ (receivedBreak s).kb = s.kb ∧
      (receivedBreak s).pr = s.pr ∧ (receivedBreak s).pu = s.pu ∧ (receivedBreak s).mem = s.mem ∧
      (receivedBreak s).pins = s.pins ∧ (receivedBreak s).freeCount = s.freeCount ∧ (receivedBreak s).pending = s.pending := by
  simp [receivedBreak]

@[simp] theorem cancelPlayback_frame (s : State) :
    (cancelPlayback s).conv = s.conv ∧ (cancelPlayback s).rx = s.rx ∧ (cancelPlayback s).tx = s.tx ∧
      (cancelPlayback s).agr = s.agr ∧ (cancelPlayback s).router = s.router ∧ (cancelPlayback s).kb = s.kb ∧
      (cancelPlayback s).pr = s.pr ∧ (cancelPlayback s).pu = s.pu ∧ (cancelPlayback s).mem = s.mem ∧
      (cancelPlayback s).pins = s.pins ∧ (cancelPlayback s).freeCount = s.freeCount ∧
      (cancelPlayback s).pending = s.pending := by
  unfold cancelPlayback
  dsimp only
  (repeat' split) <;> simp

@[simp] theorem callEnd_frame (s : State) :
    (callEnd s).agr = s.agr ∧ (callEnd s).router = s.router ∧ (callEnd s).kb = s.kb ∧ (callEnd s).pu = s.pu ∧
      (callEnd s).mem = s.mem ∧ (callEnd s).pins = s.pins ∧ (callEnd s).freeCount = s.freeCount ∧
      (callEnd s).pending = s.pending := by
  simp [callEnd]

@[simp] theorem enterClearing_frame (c : Cause) (s : State) :
    (enterClearing c s).router = s.router ∧ (enterClearing c s).kb = s.kb ∧ (enterClearing c s).mem = s.mem ∧
      (enterClearing c s).pins = s.pins ∧ (enterClearing c s).freeCount = s.freeCount ∧
      (enterClearing c s).pending = s.pending := by
  unfold enterClearing
  dsimp only
  (repeat' split) <;> simp

@[simp] theorem deliverStore_frame (src : Source) (row : Row) (c : StationCode) (s : State) :
    ((deliverStore src row c s).state).conv = s.conv ∧ ((deliverStore src row c s).state).rx = s.rx ∧
      ((deliverStore src row c s).state).tx = s.tx ∧ ((deliverStore src row c s).state).agr = s.agr ∧
      ((deliverStore src row c s).state).router = s.router ∧ ((deliverStore src row c s).state).kb = s.kb ∧
      ((deliverStore src row c s).state).call = s.call ∧ ((deliverStore src row c s).state).mem = s.mem ∧
      ((deliverStore src row c s).state).pins = s.pins ∧ ((deliverStore src row c s).state).freeCount = s.freeCount ∧
      ((deliverStore src row c s).state).pending = s.pending := by
  unfold deliverStore
  (repeat' split) <;> simp

@[simp] theorem deliverPrinter_frame (row : Row) (c : StationCode) (st : Option Tag) (s : State) :
    (deliverPrinter row c st s).conv = s.conv ∧ (deliverPrinter row c st s).rx = s.rx ∧
      (deliverPrinter row c st s).latches = s.latches ∧ (deliverPrinter row c st s).tx = s.tx ∧
      (deliverPrinter row c st s).agr = s.agr ∧ (deliverPrinter row c st s).router = s.router ∧
      (deliverPrinter row c st s).kb = s.kb ∧ (deliverPrinter row c st s).pu = s.pu ∧
      (deliverPrinter row c st s).call = s.call ∧ (deliverPrinter row c st s).link = s.link ∧
      (deliverPrinter row c st s).mem = s.mem ∧ (deliverPrinter row c st s).pins = s.pins ∧
      (deliverPrinter row c st s).freeCount = s.freeCount ∧ (deliverPrinter row c st s).pending = s.pending := by
  unfold deliverPrinter
  (repeat' split) <;> simp

@[simp] theorem punchDirect_frame (c : StationCode) (s : State) :
    (punchDirect c s).conv = s.conv ∧ (punchDirect c s).rx = s.rx ∧ (punchDirect c s).tx = s.tx ∧
      (punchDirect c s).agr = s.agr ∧ (punchDirect c s).router = s.router ∧ (punchDirect c s).kb = s.kb ∧
      (punchDirect c s).pr = s.pr ∧ (punchDirect c s).call = s.call ∧ (punchDirect c s).mem = s.mem ∧
      (punchDirect c s).pins = s.pins ∧ (punchDirect c s).freeCount = s.freeCount ∧ (punchDirect c s).pending = s.pending := by
  simp [punchDirect]

@[simp] theorem deliverPunch_frame (src : Source) (row : Row) (c : StationCode) (st : Option Tag) (s : State) :
    (deliverPunch src row c st s).conv = s.conv ∧ (deliverPunch src row c st s).rx = s.rx ∧
      (deliverPunch src row c st s).tx = s.tx ∧ (deliverPunch src row c st s).agr = s.agr ∧
      (deliverPunch src row c st s).router = s.router ∧ (deliverPunch src row c st s).kb = s.kb ∧
      (deliverPunch src row c st s).pr = s.pr ∧ (deliverPunch src row c st s).call = s.call ∧
      (deliverPunch src row c st s).mem = s.mem ∧ (deliverPunch src row c st s).pins = s.pins ∧
      (deliverPunch src row c st s).freeCount = s.freeCount ∧ (deliverPunch src row c st s).pending = s.pending := by
  unfold deliverPunch
  (repeat' split) <;> simp

@[simp] theorem deliverLink_frame (src : Source) (row : Row) (c : StationCode) (s : State) :
    (deliverLink src row c s).conv = s.conv ∧ (deliverLink src row c s).rx = s.rx ∧
      (deliverLink src row c s).tx = s.tx ∧ (deliverLink src row c s).agr = s.agr ∧
      (deliverLink src row c s).router = s.router ∧ (deliverLink src row c s).kb = s.kb ∧
      (deliverLink src row c s).pr = s.pr ∧ (deliverLink src row c s).pu = s.pu ∧
      (deliverLink src row c s).call = s.call ∧ (deliverLink src row c s).store = s.store ∧
      (deliverLink src row c s).mem = s.mem ∧ (deliverLink src row c s).pins = s.pins ∧
      (deliverLink src row c s).freeCount = s.freeCount ∧ (deliverLink src row c s).pending = s.pending := by
  unfold deliverLink
  (repeat' split) <;> simp

@[simp] theorem takeAt_frame (src : Source) (row : Row) (c : StationCode) (s : State) :
    ((takeAt src row c s).1).conv = s.conv ∧ ((takeAt src row c s).1).rx = s.rx ∧ ((takeAt src row c s).1).tx = s.tx ∧
      ((takeAt src row c s).1).agr = s.agr ∧ ((takeAt src row c s).1).router = s.router ∧
      ((takeAt src row c s).1).kb = s.kb ∧ ((takeAt src row c s).1).mem = s.mem ∧
      ((takeAt src row c s).1).pins = s.pins ∧ ((takeAt src row c s).1).freeCount = s.freeCount ∧
      ((takeAt src row c s).1).pending = s.pending := by
  simp [takeAt]

@[simp] theorem storeFullAct_frame (b : Bool) (s : State) :
    (storeFullAct b s).router = s.router ∧ (storeFullAct b s).kb = s.kb ∧ (storeFullAct b s).mem = s.mem ∧
      (storeFullAct b s).pins = s.pins ∧ (storeFullAct b s).freeCount = s.freeCount ∧
      (storeFullAct b s).pending = s.pending := by
  unfold storeFullAct
  (repeat' split) <;> simp

@[simp] theorem routerTake_frame (src : Source) (c : StationCode) (s : State) :
    (routerTake src c s).router = s.router ∧ (routerTake src c s).kb = s.kb ∧ (routerTake src c s).mem = s.mem ∧
      (routerTake src c s).pins = s.pins ∧ (routerTake src c s).freeCount = s.freeCount ∧
      (routerTake src c s).pending = s.pending := by
  simp [routerTake]

@[simp] theorem dropKey_frame (s : State) :
    (dropKey s).conv = s.conv ∧ (dropKey s).rx = s.rx ∧ (dropKey s).latches = s.latches ∧ (dropKey s).tx = s.tx ∧
      (dropKey s).agr = s.agr ∧ (dropKey s).router = s.router ∧ (dropKey s).pr = s.pr ∧ (dropKey s).pu = s.pu ∧
      (dropKey s).call = s.call ∧ (dropKey s).store = s.store ∧ (dropKey s).link = s.link ∧ (dropKey s).mem = s.mem ∧
      (dropKey s).pins = s.pins ∧ (dropKey s).freeCount = s.freeCount ∧ (dropKey s).pending = s.pending := by
  simp [dropKey]

@[simp] theorem dropLinkText_frame (s : State) :
    (dropLinkText s).conv = s.conv ∧ (dropLinkText s).rx = s.rx ∧ (dropLinkText s).latches = s.latches ∧
      (dropLinkText s).tx = s.tx ∧ (dropLinkText s).agr = s.agr ∧ (dropLinkText s).kb = s.kb ∧
      (dropLinkText s).pr = s.pr ∧ (dropLinkText s).pu = s.pu ∧ (dropLinkText s).call = s.call ∧
      (dropLinkText s).store = s.store ∧ (dropLinkText s).link = s.link ∧ (dropLinkText s).mem = s.mem ∧
      (dropLinkText s).pins = s.pins ∧ (dropLinkText s).freeCount = s.freeCount ∧ (dropLinkText s).pending = s.pending := by
  simp [dropLinkText]

@[simp] theorem takeAnswerback_frame (cs : List StationCode) (s : State) :
    (takeAnswerback cs s).router = s.router ∧ (takeAnswerback cs s).kb = s.kb ∧ (takeAnswerback cs s).mem = s.mem ∧
      (takeAnswerback cs s).pins = s.pins ∧ (takeAnswerback cs s).freeCount = s.freeCount ∧
      (takeAnswerback cs s).pending = s.pending := by
  induction cs generalizing s with
  | nil => simp [takeAnswerback]
  | cons c rest ih => simp [takeAnswerback, ih]

@[simp] theorem triggerAnswerback_frame (s : State) :
    (triggerAnswerback s).router = s.router ∧ (triggerAnswerback s).kb = s.kb ∧ (triggerAnswerback s).mem = s.mem ∧
      (triggerAnswerback s).pins = s.pins ∧ (triggerAnswerback s).freeCount = s.freeCount ∧
      (triggerAnswerback s).pending = s.pending := by
  unfold triggerAnswerback
  dsimp only
  (repeat' split) <;> simp

@[simp] theorem connect_frame (s : State) :
    (connect s).latches = s.latches ∧ (connect s).router = s.router ∧ (connect s).kb = s.kb ∧ (connect s).pr = s.pr ∧
      (connect s).pu = s.pu ∧ (connect s).store = s.store ∧ (connect s).link = s.link ∧ (connect s).mem = s.mem ∧
      (connect s).pins = s.pins ∧ (connect s).freeCount = s.freeCount ∧ (connect s).pending = s.pending := by
  simp [connect]

@[simp] theorem callConnected_frame (r : Rate) (o : AgreeOutcome) (q : Option Bool) (s : State) :
    (callConnected r o q s).router = s.router ∧ (callConnected r o q s).kb = s.kb ∧
      (callConnected r o q s).mem = s.mem ∧ (callConnected r o q s).pins = s.pins ∧
      (callConnected r o q s).freeCount = s.freeCount ∧ (callConnected r o q s).pending = s.pending := by
  unfold callConnected
  dsimp only
  (repeat' split) <;> simp

@[simp] theorem endIfSwitched_frame (s : State) :
    (endIfSwitched s).router = s.router ∧ (endIfSwitched s).kb = s.kb ∧ (endIfSwitched s).mem = s.mem ∧
      (endIfSwitched s).pins = s.pins ∧ (endIfSwitched s).freeCount = s.freeCount ∧ (endIfSwitched s).pending = s.pending := by
  unfold endIfSwitched
  (repeat' split) <;> simp

@[simp] theorem makeSwitches_frame (s : State) :
    (makeSwitches s).router = s.router ∧ (makeSwitches s).kb = s.kb ∧ (makeSwitches s).mem = s.mem ∧
      (makeSwitches s).pins = s.pins ∧ (makeSwitches s).freeCount = s.freeCount ∧ (makeSwitches s).pending = s.pending := by
  simp [makeSwitches]

@[simp] theorem fallBack_frame (o : AgreeOutcome) (s : State) :
    (fallBack o s).router = s.router ∧ (fallBack o s).kb = s.kb ∧ (fallBack o s).mem = s.mem ∧
      (fallBack o s).pins = s.pins ∧ (fallBack o s).freeCount = s.freeCount ∧ (fallBack o s).pending = s.pending := by
  unfold fallBack
  dsimp only
  (repeat' split) <;> simp

@[simp] theorem misfit_frame (s : State) :
    ((misfit s).1).router = s.router ∧ ((misfit s).1).kb = s.kb ∧ ((misfit s).1).mem = s.mem ∧
      ((misfit s).1).pins = s.pins ∧ ((misfit s).1).freeCount = s.freeCount ∧ ((misfit s).1).pending = s.pending := by
  unfold misfit
  (repeat' split) <;> simp

@[simp] theorem agreementTake_frame (r : Option RawCode) (s : State) :
    ((agreementTake r s).1).router = s.router ∧ ((agreementTake r s).1).kb = s.kb ∧
      ((agreementTake r s).1).mem = s.mem ∧ ((agreementTake r s).1).pins = s.pins ∧
      ((agreementTake r s).1).freeCount = s.freeCount ∧ ((agreementTake r s).1).pending = s.pending := by
  unfold agreementTake
  (repeat' split) <;> simp

@[simp] theorem settleSlots_frame (s : State) :
    (settleSlots s).rx = s.rx ∧ (settleSlots s).latches = s.latches ∧ (settleSlots s).agr = s.agr ∧
      (settleSlots s).router = s.router ∧ (settleSlots s).kb = s.kb ∧ (settleSlots s).pr = s.pr ∧
      (settleSlots s).pu = s.pu ∧ (settleSlots s).call = s.call ∧ (settleSlots s).store = s.store ∧
      (settleSlots s).link = s.link ∧ (settleSlots s).mem = s.mem ∧ (settleSlots s).pins = s.pins ∧
      (settleSlots s).freeCount = s.freeCount ∧ (settleSlots s).pending = s.pending := by
  unfold settleSlots
  dsimp only
  (repeat' split) <;> simp

@[simp] theorem enterNext_frame (x : Slot) (s : State) :
    (enterNext x s).rx = s.rx ∧ (enterNext x s).latches = s.latches ∧ (enterNext x s).agr = s.agr ∧
      (enterNext x s).router = s.router ∧ (enterNext x s).kb = s.kb ∧ (enterNext x s).pr = s.pr ∧
      (enterNext x s).pu = s.pu ∧ (enterNext x s).call = s.call ∧ (enterNext x s).store = s.store ∧
      (enterNext x s).link = s.link ∧ (enterNext x s).mem = s.mem ∧ (enterNext x s).pins = s.pins ∧
      (enterNext x s).freeCount = s.freeCount ∧ (enterNext x s).pending = s.pending := by
  simp [enterNext]

@[simp] theorem playbackAsk_frame (s : State) :
    (playbackAsk s).conv = s.conv ∧ (playbackAsk s).rx = s.rx ∧ (playbackAsk s).latches = s.latches ∧
      (playbackAsk s).tx = s.tx ∧ (playbackAsk s).agr = s.agr ∧ (playbackAsk s).router = s.router ∧
      (playbackAsk s).kb = s.kb ∧ (playbackAsk s).pr = s.pr ∧ (playbackAsk s).pu = s.pu ∧
      (playbackAsk s).link = s.link ∧ (playbackAsk s).mem = s.mem ∧ (playbackAsk s).pins = s.pins ∧
      (playbackAsk s).freeCount = s.freeCount ∧ (playbackAsk s).pending = s.pending := by
  unfold playbackAsk
  dsimp only
  (repeat' split) <;> simp

@[simp] theorem advanceSent_frame (v : Nat) (s : State) :
    (advanceSent v s).conv = s.conv ∧ (advanceSent v s).rx = s.rx ∧ (advanceSent v s).tx = s.tx ∧
      (advanceSent v s).agr = s.agr ∧ (advanceSent v s).router = s.router ∧ (advanceSent v s).kb = s.kb ∧
      (advanceSent v s).pr = s.pr ∧ (advanceSent v s).pu = s.pu ∧ (advanceSent v s).mem = s.mem ∧
      (advanceSent v s).pins = s.pins ∧ (advanceSent v s).freeCount = s.freeCount ∧ (advanceSent v s).pending = s.pending := by
  unfold advanceSent
  dsimp only
  (repeat' split) <;> simp

@[simp] theorem skipPlayback_frame (p : Nat) (s : State) :
    (skipPlayback p s).conv = s.conv ∧ (skipPlayback p s).rx = s.rx ∧ (skipPlayback p s).tx = s.tx ∧
      (skipPlayback p s).agr = s.agr ∧ (skipPlayback p s).router = s.router ∧ (skipPlayback p s).kb = s.kb ∧
      (skipPlayback p s).pr = s.pr ∧ (skipPlayback p s).pu = s.pu ∧ (skipPlayback p s).mem = s.mem ∧
      (skipPlayback p s).pins = s.pins ∧ (skipPlayback p s).freeCount = s.freeCount ∧
      (skipPlayback p s).pending = s.pending := by
  unfold skipPlayback
  dsimp only
  (repeat' split) <;> simp

@[simp] theorem countAnswerback_frame (v : Nat) (s : State) :
    (countAnswerback v s).conv = s.conv ∧ (countAnswerback v s).rx = s.rx ∧
      (countAnswerback v s).latches = s.latches ∧ (countAnswerback v s).agr = s.agr ∧
      (countAnswerback v s).router = s.router ∧ (countAnswerback v s).kb = s.kb ∧ (countAnswerback v s).pr = s.pr ∧
      (countAnswerback v s).pu = s.pu ∧ (countAnswerback v s).call = s.call ∧ (countAnswerback v s).store = s.store ∧
      (countAnswerback v s).link = s.link ∧ (countAnswerback v s).mem = s.mem ∧ (countAnswerback v s).pins = s.pins ∧
      (countAnswerback v s).freeCount = s.freeCount ∧ (countAnswerback v s).pending = s.pending := by
  unfold countAnswerback
  dsimp only
  (repeat' split) <;> simp

@[simp] theorem skipAnswerback_frame (v : Nat) (s : State) :
    (skipAnswerback v s).conv = s.conv ∧ (skipAnswerback v s).rx = s.rx ∧ (skipAnswerback v s).latches = s.latches ∧
      (skipAnswerback v s).agr = s.agr ∧ (skipAnswerback v s).router = s.router ∧ (skipAnswerback v s).kb = s.kb ∧
      (skipAnswerback v s).pr = s.pr ∧ (skipAnswerback v s).pu = s.pu ∧ (skipAnswerback v s).call = s.call ∧
      (skipAnswerback v s).store = s.store ∧ (skipAnswerback v s).link = s.link ∧ (skipAnswerback v s).mem = s.mem ∧
      (skipAnswerback v s).pins = s.pins ∧ (skipAnswerback v s).freeCount = s.freeCount ∧
      (skipAnswerback v s).pending = s.pending := by
  unfold skipAnswerback
  (repeat' split) <;> simp

@[simp] theorem sentNotice_frame (x : Slot) (s : State) :
    (sentNotice x s).router = s.router ∧ (sentNotice x s).kb = s.kb ∧ (sentNotice x s).mem = s.mem ∧
      (sentNotice x s).pins = s.pins ∧ (sentNotice x s).freeCount = s.freeCount ∧ (sentNotice x s).pending = s.pending := by
  unfold sentNotice
  (repeat' split) <;> simp

@[simp] theorem lineOut_frame (src : SlotSource) (i r : Nat) (c : StationCode) (s : State) :
    ((lineOut src i r c s).1).rx = s.rx ∧ ((lineOut src i r c s).1).agr = s.agr ∧
      ((lineOut src i r c s).1).router = s.router ∧ ((lineOut src i r c s).1).kb = s.kb ∧
      ((lineOut src i r c s).1).pr = s.pr ∧ ((lineOut src i r c s).1).pu = s.pu ∧
      ((lineOut src i r c s).1).call = s.call ∧ ((lineOut src i r c s).1).store = s.store ∧
      ((lineOut src i r c s).1).mem = s.mem ∧ ((lineOut src i r c s).1).pins = s.pins ∧
      ((lineOut src i r c s).1).freeCount = s.freeCount ∧ ((lineOut src i r c s).1).pending = s.pending := by
  unfold lineOut
  dsimp only
  (repeat' split) <;> simp

@[simp] theorem fillOffer_frame (s : State) :
    (fillOffer s).rx = s.rx ∧ (fillOffer s).latches = s.latches ∧ (fillOffer s).router = s.router ∧
      (fillOffer s).kb = s.kb ∧ (fillOffer s).pr = s.pr ∧ (fillOffer s).pu = s.pu ∧ (fillOffer s).call = s.call ∧
      (fillOffer s).store = s.store ∧ (fillOffer s).link = s.link ∧ (fillOffer s).mem = s.mem ∧
      (fillOffer s).pins = s.pins ∧ (fillOffer s).freeCount = s.freeCount ∧ (fillOffer s).pending = s.pending := by
  simp [fillOffer]

@[simp] theorem fillAnswerback_frame (c : StationCode) (s : State) :
    ((fillAnswerback c s).1).router = s.router ∧ ((fillAnswerback c s).1).kb = s.kb ∧
      ((fillAnswerback c s).1).mem = s.mem ∧ ((fillAnswerback c s).1).pins = s.pins ∧
      ((fillAnswerback c s).1).freeCount = s.freeCount ∧ ((fillAnswerback c s).1).pending = s.pending := by
  simp only [fillAnswerback, winTake]
  (repeat' split) <;> simp

@[simp] theorem fillPlayback_frame (c : StationCode) (rest : List StationCode) (s : State) :
    ((fillPlayback c rest s).1).router = s.router ∧ ((fillPlayback c rest s).1).kb = s.kb ∧
      ((fillPlayback c rest s).1).mem = s.mem ∧ ((fillPlayback c rest s).1).pins = s.pins ∧
      ((fillPlayback c rest s).1).freeCount = s.freeCount ∧ ((fillPlayback c rest s).1).pending = s.pending := by
  simp only [fillPlayback, winTake]
  (repeat' split) <;> simp

@[simp] theorem fillLinkText_frame (s : State) :
    ((fillLinkText s).1).kb = s.kb ∧ ((fillLinkText s).1).mem = s.mem ∧ ((fillLinkText s).1).pins = s.pins ∧
      ((fillLinkText s).1).freeCount = s.freeCount ∧ ((fillLinkText s).1).pending = s.pending := by
  unfold fillLinkText
  simp only [winTake]
  (repeat' split) <;> simp

@[simp] theorem fillHolding_frame (s : State) :
    ((fillHolding s).1).mem = s.mem ∧ ((fillHolding s).1).pins = s.pins ∧
      ((fillHolding s).1).freeCount = s.freeCount ∧ ((fillHolding s).1).pending = s.pending := by
  unfold fillHolding
  simp only [winTake]
  (repeat' split) <;> simp

@[simp] theorem fillWaiting_frame (s : State) :
    ((fillWaiting s).1).mem = s.mem ∧ ((fillWaiting s).1).pins = s.pins ∧
      ((fillWaiting s).1).freeCount = s.freeCount ∧ ((fillWaiting s).1).pending = s.pending := by
  unfold fillWaiting
  (repeat' split) <;> simp

@[simp] theorem fillText_frame (s : State) :
    ((fillText s).1).mem = s.mem ∧ ((fillText s).1).pins = s.pins ∧ ((fillText s).1).freeCount = s.freeCount ∧
      ((fillText s).1).pending = s.pending := by
  unfold fillText
  (repeat' split) <;> simp

@[simp] theorem chooseNext_frame (s : State) :
    ((chooseNext s).1).mem = s.mem ∧ ((chooseNext s).1).pins = s.pins ∧ ((chooseNext s).1).freeCount = s.freeCount ∧
      ((chooseNext s).1).pending = s.pending := by
  unfold chooseNext
  (repeat' split) <;> simp

@[simp] theorem refill_frame (n : Nat) (s : State) :
    (refill n s).mem = s.mem ∧ (refill n s).pins = s.pins ∧ (refill n s).freeCount = s.freeCount ∧
      (refill n s).pending = s.pending := by
  induction n generalizing s with
  | zero => simp [refill]
  | succ n ih =>
    unfold refill
    dsimp only
    split <;> simp [ih]

@[simp] theorem endBreak_frame (s : State) :
    (endBreak s).conv = s.conv ∧ (endBreak s).rx = s.rx ∧ (endBreak s).latches = s.latches ∧
      (endBreak s).agr = s.agr ∧ (endBreak s).router = s.router ∧ (endBreak s).kb = s.kb ∧ (endBreak s).pr = s.pr ∧
      (endBreak s).pu = s.pu ∧ (endBreak s).call = s.call ∧ (endBreak s).store = s.store ∧ (endBreak s).link = s.link ∧
      (endBreak s).mem = s.mem ∧ (endBreak s).pins = s.pins ∧ (endBreak s).freeCount = s.freeCount ∧
      (endBreak s).pending = s.pending := by
  simp [endBreak]

@[simp] theorem ringToIdle_frame (s : State) :
    (ringToIdle s).conv = s.conv ∧ (ringToIdle s).rx = s.rx ∧ (ringToIdle s).latches = s.latches ∧
      (ringToIdle s).tx = s.tx ∧ (ringToIdle s).agr = s.agr ∧ (ringToIdle s).router = s.router ∧
      (ringToIdle s).kb = s.kb ∧ (ringToIdle s).pr = s.pr ∧ (ringToIdle s).pu = s.pu ∧ (ringToIdle s).store = s.store ∧
      (ringToIdle s).link = s.link ∧ (ringToIdle s).mem = s.mem ∧ (ringToIdle s).pins = s.pins ∧
      (ringToIdle s).freeCount = s.freeCount ∧ (ringToIdle s).pending = s.pending := by
  simp [ringToIdle]

@[simp] theorem refuseRing_frame (r : RingReason) (s : State) :
    (refuseRing r s).conv = s.conv ∧ (refuseRing r s).rx = s.rx ∧ (refuseRing r s).tx = s.tx ∧
      (refuseRing r s).agr = s.agr ∧ (refuseRing r s).router = s.router ∧ (refuseRing r s).kb = s.kb ∧
      (refuseRing r s).pr = s.pr ∧ (refuseRing r s).pu = s.pu ∧ (refuseRing r s).store = s.store ∧
      (refuseRing r s).mem = s.mem ∧ (refuseRing r s).pins = s.pins ∧ (refuseRing r s).freeCount = s.freeCount ∧
      (refuseRing r s).pending = s.pending := by
  simp [refuseRing]

@[simp] theorem startRingCheck_frame (s : State) :
    (startRingCheck s).conv = s.conv ∧ (startRingCheck s).rx = s.rx ∧ (startRingCheck s).latches = s.latches ∧
      (startRingCheck s).tx = s.tx ∧ (startRingCheck s).agr = s.agr ∧ (startRingCheck s).router = s.router ∧
      (startRingCheck s).kb = s.kb ∧ (startRingCheck s).pr = s.pr ∧ (startRingCheck s).pu = s.pu ∧
      (startRingCheck s).store = s.store ∧ (startRingCheck s).link = s.link ∧ (startRingCheck s).mem = s.mem ∧
      (startRingCheck s).pins = s.pins ∧ (startRingCheck s).freeCount = s.freeCount ∧
      (startRingCheck s).pending = s.pending := by
  simp [startRingCheck]

@[simp] theorem enterStarting_frame (s : State) :
    (enterStarting s).conv = s.conv ∧ (enterStarting s).rx = s.rx ∧ (enterStarting s).latches = s.latches ∧
      (enterStarting s).tx = s.tx ∧ (enterStarting s).agr = s.agr ∧ (enterStarting s).router = s.router ∧
      (enterStarting s).kb = s.kb ∧ (enterStarting s).pu = s.pu ∧ (enterStarting s).store = s.store ∧
      (enterStarting s).link = s.link ∧ (enterStarting s).mem = s.mem ∧ (enterStarting s).pins = s.pins ∧
      (enterStarting s).freeCount = s.freeCount ∧ (enterStarting s).pending = s.pending := by
  simp [enterStarting]

@[simp] theorem startAttendedWait_frame (s : State) :
    (startAttendedWait s).conv = s.conv ∧ (startAttendedWait s).rx = s.rx ∧ (startAttendedWait s).tx = s.tx ∧
      (startAttendedWait s).agr = s.agr ∧ (startAttendedWait s).router = s.router ∧ (startAttendedWait s).kb = s.kb ∧
      (startAttendedWait s).pr = s.pr ∧ (startAttendedWait s).pu = s.pu ∧ (startAttendedWait s).store = s.store ∧
      (startAttendedWait s).mem = s.mem ∧ (startAttendedWait s).pins = s.pins ∧
      (startAttendedWait s).freeCount = s.freeCount ∧ (startAttendedWait s).pending = s.pending := by
  simp [startAttendedWait]

@[simp] theorem qualifyRing_frame (s : State) :
    (qualifyRing s).conv = s.conv ∧ (qualifyRing s).rx = s.rx ∧ (qualifyRing s).tx = s.tx ∧
      (qualifyRing s).agr = s.agr ∧ (qualifyRing s).router = s.router ∧ (qualifyRing s).kb = s.kb ∧
      (qualifyRing s).pu = s.pu ∧ (qualifyRing s).store = s.store ∧ (qualifyRing s).mem = s.mem ∧
      (qualifyRing s).pins = s.pins ∧ (qualifyRing s).freeCount = s.freeCount ∧ (qualifyRing s).pending = s.pending := by
  unfold qualifyRing
  dsimp only
  (repeat' split) <;> simp

@[simp] theorem clearLockout_frame (s : State) :
    (clearLockout s).conv = s.conv ∧ (clearLockout s).rx = s.rx ∧ (clearLockout s).tx = s.tx ∧
      (clearLockout s).agr = s.agr ∧ (clearLockout s).router = s.router ∧ (clearLockout s).kb = s.kb ∧
      (clearLockout s).pr = s.pr ∧ (clearLockout s).pu = s.pu ∧ (clearLockout s).store = s.store ∧
      (clearLockout s).mem = s.mem ∧ (clearLockout s).pins = s.pins ∧ (clearLockout s).freeCount = s.freeCount ∧
      (clearLockout s).pending = s.pending := by
  unfold clearLockout
  dsimp only
  (repeat' split) <;> simp

@[simp] theorem beginWake_frame (s : State) :
    (beginWake s).conv = s.conv ∧ (beginWake s).rx = s.rx ∧ (beginWake s).latches = s.latches ∧
      (beginWake s).tx = s.tx ∧ (beginWake s).agr = s.agr ∧ (beginWake s).router = s.router ∧ (beginWake s).kb = s.kb ∧
      (beginWake s).pr = s.pr ∧ (beginWake s).pu = s.pu ∧ (beginWake s).store = s.store ∧ (beginWake s).link = s.link ∧
      (beginWake s).mem = s.mem ∧ (beginWake s).pins = s.pins ∧ (beginWake s).freeCount = s.freeCount ∧
      (beginWake s).pending = s.pending := by
  simp [beginWake]

@[simp] theorem firstRing_frame (s : State) :
    (firstRing s).conv = s.conv ∧ (firstRing s).rx = s.rx ∧ (firstRing s).latches = s.latches ∧
      (firstRing s).tx = s.tx ∧ (firstRing s).agr = s.agr ∧ (firstRing s).router = s.router ∧ (firstRing s).kb = s.kb ∧
      (firstRing s).pr = s.pr ∧ (firstRing s).pu = s.pu ∧ (firstRing s).store = s.store ∧ (firstRing s).link = s.link ∧
      (firstRing s).mem = s.mem ∧ (firstRing s).pins = s.pins ∧ (firstRing s).freeCount = s.freeCount ∧
      (firstRing s).pending = s.pending := by
  simp [firstRing]

@[simp] theorem wakeTick_frame (s : State) :
    (wakeTick s).conv = s.conv ∧ (wakeTick s).rx = s.rx ∧ (wakeTick s).latches = s.latches ∧ (wakeTick s).tx = s.tx ∧
      (wakeTick s).agr = s.agr ∧ (wakeTick s).router = s.router ∧ (wakeTick s).kb = s.kb ∧ (wakeTick s).pr = s.pr ∧
      (wakeTick s).pu = s.pu ∧ (wakeTick s).call = s.call ∧ (wakeTick s).store = s.store ∧ (wakeTick s).link = s.link ∧
      (wakeTick s).mem = s.mem ∧ (wakeTick s).pending = s.pending := by
  unfold wakeTick
  split <;> simp

@[simp] theorem ringTick_frame (b : Bool) (s : State) :
    (ringTick b s).conv = s.conv ∧ (ringTick b s).rx = s.rx ∧ (ringTick b s).tx = s.tx ∧ (ringTick b s).agr = s.agr ∧
      (ringTick b s).router = s.router ∧ (ringTick b s).kb = s.kb ∧ (ringTick b s).pu = s.pu ∧
      (ringTick b s).store = s.store ∧ (ringTick b s).mem = s.mem ∧ (ringTick b s).pins = s.pins ∧
      (ringTick b s).freeCount = s.freeCount ∧ (ringTick b s).pending = s.pending := by
  unfold ringTick
  (repeat' split) <;> simp

@[simp] theorem enterStandby_frame (s : State) :
    (enterStandby s).conv = s.conv ∧ (enterStandby s).rx = s.rx ∧ (enterStandby s).latches = s.latches ∧
      (enterStandby s).tx = s.tx ∧ (enterStandby s).agr = s.agr ∧ (enterStandby s).router = s.router ∧
      (enterStandby s).pr = s.pr ∧ (enterStandby s).pu = s.pu ∧ (enterStandby s).mem = s.mem ∧
      (enterStandby s).pins = s.pins ∧ (enterStandby s).freeCount = s.freeCount ∧ (enterStandby s).pending = s.pending := by
  simp [enterStandby]

@[simp] theorem standbyExpiry_frame (s : State) :
    (standbyExpiry s).conv = s.conv ∧ (standbyExpiry s).rx = s.rx ∧ (standbyExpiry s).latches = s.latches ∧
      (standbyExpiry s).tx = s.tx ∧ (standbyExpiry s).agr = s.agr ∧ (standbyExpiry s).router = s.router ∧
      (standbyExpiry s).pr = s.pr ∧ (standbyExpiry s).pu = s.pu ∧ (standbyExpiry s).mem = s.mem ∧
      (standbyExpiry s).pins = s.pins ∧ (standbyExpiry s).freeCount = s.freeCount ∧ (standbyExpiry s).pending = s.pending := by
  unfold standbyExpiry
  (repeat' split) <;> simp

@[simp] theorem lineInTake_frame (c : StationCode) (e : Bool) (s : State) :
    (lineInTake c e s).router = s.router ∧ (lineInTake c e s).kb = s.kb ∧ (lineInTake c e s).mem = s.mem ∧
      (lineInTake c e s).pins = s.pins ∧ (lineInTake c e s).freeCount = s.freeCount ∧
      (lineInTake c e s).pending = s.pending := by
  unfold lineInTake
  dsimp only
  (repeat' split) <;> simp

@[simp] theorem converterTake_frame (r : Option RawCode) (s : State) :
    (converterTake r s).router = s.router ∧ (converterTake r s).kb = s.kb ∧ (converterTake r s).mem = s.mem ∧
      (converterTake r s).pins = s.pins ∧ (converterTake r s).freeCount = s.freeCount ∧
      (converterTake r s).pending = s.pending := by
  unfold converterTake
  dsimp only
  (repeat' split) <;> simp

@[simp] theorem deliverLine_frame (r : Option RawCode) (s : State) :
    (deliverLine r s).router = s.router ∧ (deliverLine r s).kb = s.kb ∧ (deliverLine r s).mem = s.mem ∧
      (deliverLine r s).pins = s.pins ∧ (deliverLine r s).freeCount = s.freeCount ∧ (deliverLine r s).pending = s.pending := by
  unfold deliverLine
  dsimp only
  (repeat' split) <;> simp

@[simp] theorem thresholdTick_frame (s : State) :
    (thresholdTick s).conv = s.conv ∧ (thresholdTick s).latches = s.latches ∧ (thresholdTick s).tx = s.tx ∧
      (thresholdTick s).agr = s.agr ∧ (thresholdTick s).router = s.router ∧ (thresholdTick s).kb = s.kb ∧
      (thresholdTick s).pr = s.pr ∧ (thresholdTick s).pu = s.pu ∧ (thresholdTick s).call = s.call ∧
      (thresholdTick s).store = s.store ∧ (thresholdTick s).link = s.link ∧ (thresholdTick s).mem = s.mem ∧
      (thresholdTick s).freeCount = s.freeCount ∧ (thresholdTick s).pending = s.pending := by
  simp [thresholdTick]

@[simp] theorem breakThreshold_frame (s : State) :
    (breakThreshold s).router = s.router ∧ (breakThreshold s).kb = s.kb ∧ (breakThreshold s).mem = s.mem ∧
      (breakThreshold s).pins = s.pins ∧ (breakThreshold s).freeCount = s.freeCount ∧
      (breakThreshold s).pending = s.pending := by
  unfold breakThreshold
  dsimp only
  (repeat' split) <;> simp

@[simp] theorem invertPolarity_frame (s : State) :
    (invertPolarity s).conv = s.conv ∧ (invertPolarity s).tx = s.tx ∧ (invertPolarity s).agr = s.agr ∧
      (invertPolarity s).router = s.router ∧ (invertPolarity s).kb = s.kb ∧ (invertPolarity s).pr = s.pr ∧
      (invertPolarity s).pu = s.pu ∧ (invertPolarity s).call = s.call ∧ (invertPolarity s).store = s.store ∧
      (invertPolarity s).link = s.link ∧ (invertPolarity s).mem = s.mem ∧ (invertPolarity s).pins = s.pins ∧
      (invertPolarity s).freeCount = s.freeCount ∧ (invertPolarity s).pending = s.pending := by
  simp [invertPolarity]

@[simp] theorem clearThreshold_frame (s : State) :
    (clearThreshold s).router = s.router ∧ (clearThreshold s).kb = s.kb ∧ (clearThreshold s).mem = s.mem ∧
      (clearThreshold s).pins = s.pins ∧ (clearThreshold s).freeCount = s.freeCount ∧
      (clearThreshold s).pending = s.pending := by
  unfold clearThreshold
  (repeat' split) <;> simp

@[simp] theorem loopLost_frame (s : State) :
    (loopLost s).router = s.router ∧ (loopLost s).kb = s.kb ∧ (loopLost s).mem = s.mem ∧ (loopLost s).pins = s.pins ∧
      (loopLost s).freeCount = s.freeCount ∧ (loopLost s).pending = s.pending := by
  simp [loopLost]

@[simp] theorem offerKey_frame (k : Nat) (c : StationCode) (b : Bool) (s : State) :
    (offerKey k c b s).conv = s.conv ∧ (offerKey k c b s).rx = s.rx ∧ (offerKey k c b s).tx = s.tx ∧
      (offerKey k c b s).agr = s.agr ∧ (offerKey k c b s).router = s.router ∧ (offerKey k c b s).pu = s.pu ∧
      (offerKey k c b s).call = s.call ∧ (offerKey k c b s).store = s.store ∧ (offerKey k c b s).mem = s.mem ∧
      (offerKey k c b s).pins = s.pins ∧ (offerKey k c b s).freeCount = s.freeCount ∧
      (offerKey k c b s).pending = s.pending := by
  unfold offerKey
  (repeat' split) <;> simp

@[simp] theorem breakKey_frame (s : State) :
    (breakKey s).rx = s.rx ∧ (breakKey s).latches = s.latches ∧ (breakKey s).router = s.router ∧
      (breakKey s).kb = s.kb ∧ (breakKey s).pr = s.pr ∧ (breakKey s).pu = s.pu ∧ (breakKey s).link = s.link ∧
      (breakKey s).mem = s.mem ∧ (breakKey s).pins = s.pins ∧ (breakKey s).freeCount = s.freeCount ∧
      (breakKey s).pending = s.pending := by
  unfold breakKey
  (repeat' split) <;> simp

@[simp] theorem recognise_frame (k : Nat) (s : State) :
    (recognise k s).router = s.router ∧ (recognise k s).mem = s.mem ∧ (recognise k s).pins = s.pins ∧
      (recognise k s).freeCount = s.freeCount ∧ (recognise k s).pending = s.pending := by
  unfold recognise
  dsimp only
  (repeat' split) <;> simp

@[simp] theorem freeFulls_frame (n : Nat) (s : State) :
    (freeFulls n s).router = s.router ∧ (freeFulls n s).mem = s.mem ∧ (freeFulls n s).pins = s.pins ∧
      (freeFulls n s).freeCount = s.freeCount ∧ (freeFulls n s).pending = s.pending := by
  induction n generalizing s with
  | zero => simp [freeFulls]
  | succ n ih =>
    unfold freeFulls
    dsimp only
    (repeat' split) <;> simp [ih]

@[simp] theorem reexamine_frame (s : State) :
    (reexamine s).router = s.router ∧ (reexamine s).mem = s.mem ∧ (reexamine s).pins = s.pins ∧
      (reexamine s).freeCount = s.freeCount ∧ (reexamine s).pending = s.pending := by
  simp [reexamine]

@[simp] theorem scanTo_frame (k : Nat) (d : Bool) (s : State) :
    (scanTo k d s).conv = s.conv ∧ (scanTo k d s).rx = s.rx ∧ (scanTo k d s).latches = s.latches ∧
      (scanTo k d s).tx = s.tx ∧ (scanTo k d s).agr = s.agr ∧ (scanTo k d s).router = s.router ∧
      (scanTo k d s).pr = s.pr ∧ (scanTo k d s).pu = s.pu ∧ (scanTo k d s).call = s.call ∧
      (scanTo k d s).store = s.store ∧ (scanTo k d s).link = s.link ∧ (scanTo k d s).mem = s.mem ∧
      (scanTo k d s).freeCount = s.freeCount ∧ (scanTo k d s).pending = s.pending := by
  simp [scanTo]

@[simp] theorem pressKey_frame (k : Nat) (s : State) :
    (pressKey k s).router = s.router ∧ (pressKey k s).mem = s.mem ∧ (pressKey k s).pins = s.pins ∧
      (pressKey k s).freeCount = s.freeCount ∧ (pressKey k s).pending = s.pending := by
  unfold pressKey
  dsimp only
  (repeat' split) <;> simp

@[simp] theorem releaseKey_frame (k : Nat) (s : State) :
    (releaseKey k s).router = s.router ∧ (releaseKey k s).mem = s.mem ∧ (releaseKey k s).pins = s.pins ∧
      (releaseKey k s).freeCount = s.freeCount ∧ (releaseKey k s).pending = s.pending := by
  simp [releaseKey]

@[simp] theorem readKey_frame (k : Nat) (d : Bool) (s : State) :
    (readKey k d s).router = s.router ∧ (readKey k d s).mem = s.mem ∧ (readKey k d s).freeCount = s.freeCount ∧
      (readKey k d s).pending = s.pending := by
  unfold readKey
  dsimp only
  (repeat' split) <;> simp

@[simp] theorem readKeys_frame (k : Nat) (d : Bool) (n : Nat) (s : State) :
    (readKeys k d n s).router = s.router ∧ (readKeys k d n s).mem = s.mem ∧
      (readKeys k d n s).freeCount = s.freeCount ∧ (readKeys k d n s).pending = s.pending := by
  induction n generalizing s with
  | zero => simp [readKeys]
  | succ n ih => simp [readKeys, ih]

@[simp] theorem afterStandbyReply_frame (s : State) :
    (afterStandbyReply s).conv = s.conv ∧ (afterStandbyReply s).rx = s.rx ∧
      (afterStandbyReply s).latches = s.latches ∧ (afterStandbyReply s).tx = s.tx ∧ (afterStandbyReply s).agr = s.agr ∧
      (afterStandbyReply s).router = s.router ∧ (afterStandbyReply s).pr = s.pr ∧ (afterStandbyReply s).pu = s.pu ∧
      (afterStandbyReply s).mem = s.mem ∧ (afterStandbyReply s).pins = s.pins ∧
      (afterStandbyReply s).freeCount = s.freeCount ∧ (afterStandbyReply s).pending = s.pending := by
  unfold afterStandbyReply
  dsimp only
  (repeat' split) <;> simp

@[simp] theorem startPlayback_frame (n o : Nat) (s : State) :
    (startPlayback n o s).conv = s.conv ∧ (startPlayback n o s).rx = s.rx ∧ (startPlayback n o s).tx = s.tx ∧
      (startPlayback n o s).agr = s.agr ∧ (startPlayback n o s).router = s.router ∧ (startPlayback n o s).kb = s.kb ∧
      (startPlayback n o s).pr = s.pr ∧ (startPlayback n o s).pu = s.pu ∧ (startPlayback n o s).mem = s.mem ∧
      (startPlayback n o s).pins = s.pins ∧ (startPlayback n o s).freeCount = s.freeCount ∧
      (startPlayback n o s).pending = s.pending := by
  unfold startPlayback
  dsimp only
  (repeat' split) <;> simp

@[simp] theorem originate_frame (s : State) :
    (originate s).conv = s.conv ∧ (originate s).rx = s.rx ∧ (originate s).latches = s.latches ∧
      (originate s).tx = s.tx ∧ (originate s).agr = s.agr ∧ (originate s).router = s.router ∧ (originate s).kb = s.kb ∧
      (originate s).pr = s.pr ∧ (originate s).pu = s.pu ∧ (originate s).store = s.store ∧ (originate s).link = s.link ∧
      (originate s).mem = s.mem ∧ (originate s).pins = s.pins ∧ (originate s).freeCount = s.freeCount ∧
      (originate s).pending = s.pending := by
  simp [originate]

@[simp] theorem endStarting_frame (s : State) :
    (endStarting s).conv = s.conv ∧ (endStarting s).rx = s.rx ∧ (endStarting s).tx = s.tx ∧
      (endStarting s).agr = s.agr ∧ (endStarting s).router = s.router ∧ (endStarting s).kb = s.kb ∧
      (endStarting s).pu = s.pu ∧ (endStarting s).store = s.store ∧ (endStarting s).mem = s.mem ∧
      (endStarting s).pins = s.pins ∧ (endStarting s).freeCount = s.freeCount ∧ (endStarting s).pending = s.pending := by
  simp [endStarting]

@[simp] theorem appendCodes_frame (cs : List StationCode) (n : Nat) (s : State) :
    ((appendCodes cs n s).1).conv = s.conv ∧ ((appendCodes cs n s).1).rx = s.rx ∧ ((appendCodes cs n s).1).tx = s.tx ∧
      ((appendCodes cs n s).1).agr = s.agr ∧ ((appendCodes cs n s).1).router = s.router ∧
      ((appendCodes cs n s).1).kb = s.kb ∧ ((appendCodes cs n s).1).call = s.call ∧
      ((appendCodes cs n s).1).mem = s.mem ∧ ((appendCodes cs n s).1).pins = s.pins ∧
      ((appendCodes cs n s).1).freeCount = s.freeCount ∧ ((appendCodes cs n s).1).pending = s.pending := by
  induction cs generalizing s n with
  | nil => simp [appendCodes]
  | cons c rest ih =>
    unfold appendCodes
    split
    · simp
    · rename_i e _
      split
      · simp
      · have h := storeInto_frame e c s
        revert h
        (repeat' split) <;> intro h <;> simp_all

@[simp] theorem restartPrinter_frame (s : State) :
    (restartPrinter s).conv = s.conv ∧ (restartPrinter s).rx = s.rx ∧ (restartPrinter s).tx = s.tx ∧
      (restartPrinter s).agr = s.agr ∧ (restartPrinter s).router = s.router ∧ (restartPrinter s).kb = s.kb ∧
      (restartPrinter s).pu = s.pu ∧ (restartPrinter s).mem = s.mem ∧ (restartPrinter s).pins = s.pins ∧
      (restartPrinter s).freeCount = s.freeCount ∧ (restartPrinter s).pending = s.pending := by
  unfold restartPrinter
  dsimp only
  (repeat' split) <;> simp

@[simp] theorem joinChain_frame (j : PunchJob) (s : State) :
    (joinChain j s).conv = s.conv ∧ (joinChain j s).rx = s.rx ∧ (joinChain j s).tx = s.tx ∧
      (joinChain j s).agr = s.agr ∧ (joinChain j s).router = s.router ∧ (joinChain j s).kb = s.kb ∧
      (joinChain j s).pr = s.pr ∧ (joinChain j s).call = s.call ∧ (joinChain j s).mem = s.mem ∧
      (joinChain j s).pins = s.pins ∧ (joinChain j s).freeCount = s.freeCount ∧ (joinChain j s).pending = s.pending := by
  simp [joinChain]

@[simp] theorem cancelPunch_frame (s : State) :
    (cancelPunch s).conv = s.conv ∧ (cancelPunch s).rx = s.rx ∧ (cancelPunch s).tx = s.tx ∧
      (cancelPunch s).agr = s.agr ∧ (cancelPunch s).router = s.router ∧ (cancelPunch s).kb = s.kb ∧
      (cancelPunch s).pr = s.pr ∧ (cancelPunch s).call = s.call ∧ (cancelPunch s).mem = s.mem ∧
      (cancelPunch s).pins = s.pins ∧ (cancelPunch s).freeCount = s.freeCount ∧ (cancelPunch s).pending = s.pending := by
  unfold cancelPunch
  dsimp only
  (repeat' split) <;> simp

@[simp] theorem serveReader_frame (r : Reader) (s : State) :
    (serveReader r s).conv = s.conv ∧ (serveReader r s).rx = s.rx ∧ (serveReader r s).tx = s.tx ∧
      (serveReader r s).agr = s.agr ∧ (serveReader r s).router = s.router ∧ (serveReader r s).kb = s.kb ∧
      (serveReader r s).mem = s.mem ∧ (serveReader r s).pins = s.pins ∧ (serveReader r s).freeCount = s.freeCount ∧
      (serveReader r s).pending = s.pending := by
  unfold serveReader
  (repeat' split) <;> simp

@[simp] theorem completeAccess_frame (w : Work) (s : State) :
    (completeAccess w s).conv = s.conv ∧ (completeAccess w s).rx = s.rx ∧ (completeAccess w s).tx = s.tx ∧
      (completeAccess w s).agr = s.agr ∧ (completeAccess w s).router = s.router ∧ (completeAccess w s).kb = s.kb ∧
      (completeAccess w s).pins = s.pins ∧ (completeAccess w s).freeCount = s.freeCount ∧
      (completeAccess w s).pending = s.pending := by
  unfold completeAccess
  dsimp only
  (repeat' split) <;> simp

@[simp] theorem abortRead_frame (s : State) :
    (abortRead s).conv = s.conv ∧ (abortRead s).rx = s.rx ∧ (abortRead s).latches = s.latches ∧
      (abortRead s).tx = s.tx ∧ (abortRead s).agr = s.agr ∧ (abortRead s).router = s.router ∧ (abortRead s).kb = s.kb ∧
      (abortRead s).pr = s.pr ∧ (abortRead s).pu = s.pu ∧ (abortRead s).call = s.call ∧ (abortRead s).mem = s.mem ∧
      (abortRead s).pins = s.pins ∧ (abortRead s).freeCount = s.freeCount ∧ (abortRead s).pending = s.pending := by
  simp [abortRead]

@[simp] theorem softReset_frame (s : State) :
    (softReset s).mem = s.mem ∧ (softReset s).pins = s.pins ∧ (softReset s).freeCount = s.freeCount ∧
      (softReset s).pending = s.pending := by
  simp [softReset]

@[simp] theorem breakTick_frame (s : State) :
    (breakTick s).router = s.router ∧ (breakTick s).kb = s.kb ∧ (breakTick s).mem = s.mem ∧
      (breakTick s).pins = s.pins ∧ (breakTick s).freeCount = s.freeCount ∧ (breakTick s).pending = s.pending := by
  unfold breakTick
  (repeat' split) <;> simp

@[simp] theorem clearTick_frame (s : State) :
    (clearTick s).router = s.router ∧ (clearTick s).kb = s.kb ∧ (clearTick s).mem = s.mem ∧
      (clearTick s).pins = s.pins ∧ (clearTick s).freeCount = s.freeCount ∧ (clearTick s).pending = s.pending := by
  unfold clearTick
  (repeat' split) <;> simp

@[simp] theorem lineTick_frame (s : State) :
    (lineTick s).router = s.router ∧ (lineTick s).kb = s.kb ∧ (lineTick s).mem = s.mem ∧ (lineTick s).pins = s.pins ∧
      (lineTick s).freeCount = s.freeCount ∧ (lineTick s).pending = s.pending := by
  unfold lineTick
  (repeat' split) <;> simp

@[simp] theorem agreementTick_frame (s : State) :
    (agreementTick s).router = s.router ∧ (agreementTick s).kb = s.kb ∧ (agreementTick s).mem = s.mem ∧
      (agreementTick s).pins = s.pins ∧ (agreementTick s).freeCount = s.freeCount ∧ (agreementTick s).pending = s.pending := by
  unfold agreementTick
  dsimp only
  (repeat' split) <;> simp

@[simp] theorem idleClearTick_frame (s : State) :
    (idleClearTick s).router = s.router ∧ (idleClearTick s).kb = s.kb ∧ (idleClearTick s).mem = s.mem ∧
      (idleClearTick s).pins = s.pins ∧ (idleClearTick s).freeCount = s.freeCount ∧ (idleClearTick s).pending = s.pending := by
  unfold idleClearTick
  dsimp only
  (repeat' split) <;> simp

@[simp] theorem answerWaitTick_frame (s : State) :
    (answerWaitTick s).conv = s.conv ∧ (answerWaitTick s).rx = s.rx ∧ (answerWaitTick s).tx = s.tx ∧
      (answerWaitTick s).agr = s.agr ∧ (answerWaitTick s).router = s.router ∧ (answerWaitTick s).kb = s.kb ∧
      (answerWaitTick s).pr = s.pr ∧ (answerWaitTick s).pu = s.pu ∧ (answerWaitTick s).store = s.store ∧
      (answerWaitTick s).mem = s.mem ∧ (answerWaitTick s).pins = s.pins ∧ (answerWaitTick s).freeCount = s.freeCount ∧
      (answerWaitTick s).pending = s.pending := by
  unfold answerWaitTick
  dsimp only
  (repeat' split) <;> simp

@[simp] theorem loopTick_frame (s : State) :
    (loopTick s).router = s.router ∧ (loopTick s).kb = s.kb ∧ (loopTick s).mem = s.mem ∧ (loopTick s).pins = s.pins ∧
      (loopTick s).freeCount = s.freeCount ∧ (loopTick s).pending = s.pending := by
  unfold loopTick
  dsimp only
  (repeat' split) <;> simp

@[simp] theorem standbyTick_frame (s : State) :
    (standbyTick s).conv = s.conv ∧ (standbyTick s).rx = s.rx ∧ (standbyTick s).latches = s.latches ∧
      (standbyTick s).tx = s.tx ∧ (standbyTick s).agr = s.agr ∧ (standbyTick s).router = s.router ∧
      (standbyTick s).pr = s.pr ∧ (standbyTick s).pu = s.pu ∧ (standbyTick s).mem = s.mem ∧
      (standbyTick s).pins = s.pins ∧ (standbyTick s).freeCount = s.freeCount ∧ (standbyTick s).pending = s.pending := by
  unfold standbyTick
  dsimp only
  (repeat' split) <;> simp

@[simp] theorem clearingTick_frame (s : State) :
    (clearingTick s).agr = s.agr ∧ (clearingTick s).router = s.router ∧ (clearingTick s).kb = s.kb ∧
      (clearingTick s).pu = s.pu ∧ (clearingTick s).mem = s.mem ∧ (clearingTick s).pins = s.pins ∧
      (clearingTick s).freeCount = s.freeCount ∧ (clearingTick s).pending = s.pending := by
  unfold clearingTick
  (repeat' split) <;> simp

@[simp] theorem signalTick_frame (s : State) :
    (signalTick s).agr = s.agr ∧ (signalTick s).router = s.router ∧ (signalTick s).kb = s.kb ∧
      (signalTick s).pu = s.pu ∧ (signalTick s).mem = s.mem ∧ (signalTick s).pins = s.pins ∧
      (signalTick s).freeCount = s.freeCount ∧ (signalTick s).pending = s.pending := by
  unfold signalTick
  (repeat' split) <;> simp

@[simp] theorem callTick_frame (s : State) :
    (callTick s).router = s.router ∧ (callTick s).mem = s.mem ∧ (callTick s).pins = s.pins ∧
      (callTick s).freeCount = s.freeCount ∧ (callTick s).pending = s.pending := by
  unfold callTick whileIn
  (repeat' split) <;> simp

@[simp] theorem motorOffTick_frame (s : State) :
    (motorOffTick s).conv = s.conv ∧ (motorOffTick s).rx = s.rx ∧ (motorOffTick s).latches = s.latches ∧
      (motorOffTick s).tx = s.tx ∧ (motorOffTick s).agr = s.agr ∧ (motorOffTick s).router = s.router ∧
      (motorOffTick s).kb = s.kb ∧ (motorOffTick s).pu = s.pu ∧ (motorOffTick s).call = s.call ∧
      (motorOffTick s).store = s.store ∧ (motorOffTick s).link = s.link ∧ (motorOffTick s).mem = s.mem ∧
      (motorOffTick s).pins = s.pins ∧ (motorOffTick s).freeCount = s.freeCount ∧ (motorOffTick s).pending = s.pending := by
  unfold motorOffTick motorOff
  (repeat' split) <;> simp

@[simp] theorem passCycles_frame (s : State) :
    (passCycles s).conv = s.conv ∧ (passCycles s).rx = s.rx ∧ (passCycles s).latches = s.latches ∧
      (passCycles s).agr = s.agr ∧ (passCycles s).router = s.router ∧ (passCycles s).kb = s.kb ∧
      (passCycles s).call = s.call ∧ (passCycles s).store = s.store ∧ (passCycles s).link = s.link ∧
      (passCycles s).mem = s.mem ∧ (passCycles s).pending = s.pending := by
  unfold passCycles
  (repeat' split) <;> simp

@[simp] theorem tick_frame (s : State) :
    (tick s).router = s.router ∧ (tick s).mem = s.mem ∧ (tick s).pending = s.pending := by
  simp only [tick, whileIn]
  (repeat' split) <;> simp

end Sys2Proof.Machine
end

