-- ==== Sys2Proof/Laws/Keyboard.lean ====
section
/-! SUPPORT. The scan of the keyboard: what a reading leaves in each key and each pin, and what recognition leaves of the counts. -/

namespace Sys2Proof.Machine

theorem perKey_getElem {α : Type} (f : Nat → α) (i : Nat) (h : i < 64) : (perKey f)[i] = f i := by simp [perKey]

theorem perKey_getElem? {α : Type} (f : Nat → α) (i : Nat) : (perKey f)[i]? = if i < 64 then some (f i) else none := by
  by_cases h : i < 64 <;> simp [h, perKey_getElem]

/-- A reading moves the scan past its key and touches nothing but the scan, the agreement counts and the pins of the matrix. -/
theorem scanTo_eq (key : Nat) (down : Bool) (s : State) :
    scanTo key down s = { s with
      kb := { s.kb with pos := (key + 1) % 64, agree := (scanTo key down s).kb.agree }
      pins := { s.pins with
        keys := (scanTo key down s).pins.keys, sense := senseLines (scanTo key down s).pins.keys } } := rfl

theorem scanTo_stateOf (key : Nat) (down : Bool) (s : State) (i : Nat) :
    (scanTo key down s).kb.stateOf i = s.kb.stateOf i := rfl

/-- A key passed on the way has agreed; the others keep their counts (R81). -/
theorem scanTo_agreeOf (key : Nat) (down : Bool) (s : State) {i : Nat} (h : i < 64) :
    (scanTo key down s).kb.agreeOf i = if s.kb.passes key i then 0 else s.kb.agreeOf i := by
  simp [scanTo, Keyboard.agreeOf, perKey_getElem, h]

/-- The key that is read is not passed. -/
theorem passes_self (k : Keyboard) (key : Nat) : k.passes key key = false := by
  unfold Keyboard.passes
  split <;> simp
  omega

theorem scanTo_agreeOf_self (down : Bool) (s : State) {key : Nat} (h : key < 64) :
    (scanTo key down s).kb.agreeOf key = s.kb.agreeOf key := by
  simp [scanTo_agreeOf key down s h, passes_self]

/-- The level the matrix shows at each key after a reading: the one read, that of a stable key passed, or the last (R80). -/
theorem scanTo_keys (key : Nat) (down : Bool) (s : State) {i : Nat} (h : i < 64) :
    (scanTo key down s).pins.keys[i]? = some
      (if i = key then down else if s.kb.passes key i then s.kb.isDown i else (s.pins.keys[i]?).getD false) := by
  simp [scanTo, perKey_getElem, h]

/-- One reading, by what it meets: an agreeing level, a differing one that is not the third in a row, the third (R81). -/
theorem readKey_cases (key : Nat) (down : Bool) (s : State) :
    (s.kb.isDown key = down ∧ readKey key down s =
      { scanTo key down s with kb := (scanTo key down s).kb.setAgree key 0 })
    ∨ (s.kb.isDown key ≠ down ∧ (scanTo key down s).kb.agreeOf key < 2 ∧ readKey key down s =
      { scanTo key down s with kb := (scanTo key down s).kb.setAgree key ((scanTo key down s).kb.agreeOf key + 1) })
    ∨ (s.kb.isDown key ≠ down ∧ 2 ≤ (scanTo key down s).kb.agreeOf key ∧ readKey key down s =
      if down then pressKey key (scanTo key down s) else releaseKey key (scanTo key down s)) := by
  have hd : (scanTo key down s).kb.isDown key = s.kb.isDown key := rfl
  by_cases h1 : s.kb.isDown key = down
  · exact .inl ⟨h1, by simp only [readKey, if_pos (hd.trans h1)]⟩
  · have h1' : ¬(scanTo key down s).kb.isDown key = down := fun h => h1 (hd.symm.trans h)
    by_cases h2 : (scanTo key down s).kb.agreeOf key + 1 < Config.agreeLimit
    · exact .inr (.inl ⟨h1, by simp only [Config.agreeLimit] at h2; omega, by simp only [readKey, if_neg h1', if_pos h2]⟩)
    · exact .inr (.inr ⟨h1, by simp only [Config.agreeLimit] at h2; omega, by simp only [readKey, if_neg h1', if_neg h2]⟩)

/-- A recognition leaves the agreement counts (R81, R87). -/
@[simp] theorem recognise_agree (key : Nat) (s : State) : (recognise key s).kb.agree = s.kb.agree := by
  unfold recognise
  split
  · by_cases h : s.kb.hold = .active <;> simp [offerKey, Keyboard.retarget, Keyboard.joinList, Keyboard.setState, h] <;>
      split <;> simp
  · rfl
  · by_cases h : s.kb.lists .rept = true <;> simp [Keyboard.joinList, Keyboard.beginHold, Keyboard.setState, h]
  · simp only [breakKey]
    split <;> simp [Keyboard.joinList, Keyboard.setState]
  · simp [Keyboard.joinList, Keyboard.setState]
  · simp [Keyboard.joinList, Keyboard.setState]
  · rfl

/-- The full holds keep their agreement counts, whatever becomes of them (R84). -/
theorem freeFulls_agree (n : Nat) (s : State) : (freeFulls n s).kb.agree = s.kb.agree := by
  induction n generalizing s with
  | zero => rfl
  | succ n ih =>
    simp only [freeFulls]
    split
    · rfl
    · split
      · split <;> simp [ih, Keyboard.setState]
      · rfl

end Sys2Proof.Machine
end

