-- ==== Sys2Proof/Laws/State.lean ====
section
/-! SUPPORT. The named updates of the state and of its parts, field by field; the fields of the whole state that an operation
leaves unchanged are in Laws/Frames.lean. -/

namespace Sys2Proof.Machine

/-! ### The whole state -/

@[simp] theorem useFree_freeCount (s : State) : (useFree s).freeCount = s.freeCount + 1 := rfl
@[simp] theorem reply_link (k : Byte) (a : Answer) (s : State) : (reply k a s).link = s.link.answer k a := rfl
@[simp] theorem ringBell_pr (s : State) : (ringBell s).pr = { s.pr with bell := true } := rfl
@[simp] theorem dropKey_kb (s : State) : (dropKey s).kb = { s.kb with buffer := s.kb.buffer.tail } := rfl
@[simp] theorem dropLinkText_router (s : State) :
    (dropLinkText s).router = { s.router with linkText := s.router.linkText.tail } := rfl
@[simp] theorem endBreak_tx (s : State) : (endBreak s).tx = { s.tx with signal := .none, txd := .mark } := rfl
@[simp] theorem beginWake_call (s : State) : (beginWake s).call = { s.call with waking := true } := rfl

/-! ### Transmitter -/

@[simp] theorem Transmitter.cancelDuty_rate (t : Transmitter) : (t.cancelDuty).rate = t.rate := rfl
@[simp] theorem Transmitter.cancelDuty_front (t : Transmitter) : (t.cancelDuty).front = t.front := rfl
@[simp] theorem Transmitter.cancelDuty_next (t : Transmitter) : (t.cancelDuty).next = t.next := rfl
@[simp] theorem Transmitter.cancelDuty_txd (t : Transmitter) : (t.cancelDuty).txd = t.txd := rfl
@[simp] theorem Transmitter.cancelDuty_signal (t : Transmitter) : (t.cancelDuty).signal = t.signal := rfl
@[simp] theorem Transmitter.cancelDuty_duty (t : Transmitter) : (t.cancelDuty).duty = .none := rfl
@[simp] theorem Transmitter.cancelDuty_given (t : Transmitter) : (t.cancelDuty).given = 0 := rfl
@[simp] theorem Transmitter.cancelDuty_counted (t : Transmitter) : (t.cancelDuty).counted = 0 := rfl
@[simp] theorem Transmitter.cancelDuty_passed (t : Transmitter) : (t.cancelDuty).passed = [] := rfl
@[simp] theorem Transmitter.cancelDuty_stopLength (t : Transmitter) : (t.cancelDuty).stopLength = t.stopLength := rfl
@[simp] theorem Transmitter.cancelDuty_answerbackOnConnect (t : Transmitter) :
    (t.cancelDuty).answerbackOnConnect = t.answerbackOnConnect := rfl
@[simp] theorem Transmitter.wantDuty_rate (t : Transmitter) : (t.wantDuty).rate = t.rate := rfl
@[simp] theorem Transmitter.wantDuty_front (t : Transmitter) : (t.wantDuty).front = t.front := rfl
@[simp] theorem Transmitter.wantDuty_next (t : Transmitter) : (t.wantDuty).next = t.next := rfl
@[simp] theorem Transmitter.wantDuty_txd (t : Transmitter) : (t.wantDuty).txd = t.txd := rfl
@[simp] theorem Transmitter.wantDuty_signal (t : Transmitter) : (t.wantDuty).signal = t.signal := rfl
@[simp] theorem Transmitter.wantDuty_duty (t : Transmitter) : (t.wantDuty).duty = .pending := rfl
@[simp] theorem Transmitter.wantDuty_given (t : Transmitter) : (t.wantDuty).given = 0 := rfl
@[simp] theorem Transmitter.wantDuty_counted (t : Transmitter) : (t.wantDuty).counted = 0 := rfl
@[simp] theorem Transmitter.wantDuty_passed (t : Transmitter) : (t.wantDuty).passed = [] := rfl
@[simp] theorem Transmitter.wantDuty_stopLength (t : Transmitter) : (t.wantDuty).stopLength = t.stopLength := rfl
@[simp] theorem Transmitter.wantDuty_answerbackOnConnect (t : Transmitter) :
    (t.wantDuty).answerbackOnConnect = t.answerbackOnConnect := rfl
@[simp] theorem Transmitter.softReset_rate (t : Transmitter) : (t.softReset).rate = .r50 := rfl
@[simp] theorem Transmitter.softReset_front (t : Transmitter) : (t.softReset).front = none := rfl
@[simp] theorem Transmitter.softReset_next (t : Transmitter) : (t.softReset).next = none := rfl
@[simp] theorem Transmitter.softReset_txd (t : Transmitter) : (t.softReset).txd = .mark := rfl
@[simp] theorem Transmitter.softReset_signal (t : Transmitter) : (t.softReset).signal = .none := rfl
@[simp] theorem Transmitter.softReset_duty (t : Transmitter) : (t.softReset).duty = .none := rfl
@[simp] theorem Transmitter.softReset_given (t : Transmitter) : (t.softReset).given = 0 := rfl
@[simp] theorem Transmitter.softReset_counted (t : Transmitter) : (t.softReset).counted = 0 := rfl
@[simp] theorem Transmitter.softReset_passed (t : Transmitter) : (t.softReset).passed = [] := rfl
@[simp] theorem Transmitter.softReset_stopLength (t : Transmitter) : (t.softReset).stopLength = t.stopLength := rfl
@[simp] theorem Transmitter.softReset_answerbackOnConnect (t : Transmitter) :
    (t.softReset).answerbackOnConnect = t.answerbackOnConnect := rfl

/-! ### Receiver -/

@[simp] theorem Receiver.toHunt_rate (r : Receiver) : (r.toHunt).rate = r.rate := rfl
@[simp] theorem Receiver.toHunt_sense (r : Receiver) : (r.toHunt).sense = r.sense := rfl
@[simp] theorem Receiver.toHunt_cfgSense (r : Receiver) : (r.toHunt).cfgSense = r.cfgSense := rfl
@[simp] theorem Receiver.toHunt_loopCurrent (r : Receiver) : (r.toHunt).loopCurrent = r.loopCurrent := rfl
@[simp] theorem Receiver.toHunt_level (r : Receiver) : (r.toHunt).level = r.level := rfl
@[simp] theorem Receiver.toHunt_state (r : Receiver) : (r.toHunt).state = .hunt := rfl
@[simp] theorem Receiver.toHunt_sc (r : Receiver) : (r.toHunt).sc = r.sc := rfl
@[simp] theorem Receiver.toHunt_edges (r : Receiver) : (r.toHunt).edges = [] := rfl
@[simp] theorem Receiver.toHunt_measured (r : Receiver) : (r.toHunt).measured = [] := rfl
@[simp] theorem Receiver.toHunt_q (r : Receiver) : (r.toHunt).q = r.q := rfl
@[simp] theorem Receiver.toHunt_n (r : Receiver) : (r.toHunt).n = r.n := rfl
@[simp] theorem Receiver.toHunt_a (r : Receiver) : (r.toHunt).a = r.a := rfl
@[simp] theorem Receiver.toHunt_s (r : Receiver) : (r.toHunt).s = r.s := rfl
@[simp] theorem Receiver.toHunt_goodSeen (r : Receiver) : (r.toHunt).goodSeen = r.goodSeen := rfl
@[simp] theorem Receiver.toHunt_inversionMade (r : Receiver) : (r.toHunt).inversionMade = r.inversionMade := rfl
@[simp] theorem Receiver.toHunt_spaceCount (r : Receiver) : (r.toHunt).spaceCount = r.spaceCount := rfl
@[simp] theorem Receiver.toHunt_lossCount (r : Receiver) : (r.toHunt).lossCount = r.lossCount := rfl
@[simp] theorem Receiver.toHunt_breakReady (r : Receiver) : (r.toHunt).breakReady = r.breakReady := rfl
@[simp] theorem Receiver.toHunt_clearReady (r : Receiver) : (r.toHunt).clearReady = r.clearReady := rfl
@[simp] theorem Receiver.toHunt_brk (r : Receiver) : (r.toHunt).brk = r.brk := rfl
@[simp] theorem Receiver.toHunt_clr (r : Receiver) : (r.toHunt).clr = r.clr := rfl
@[simp] theorem Receiver.toHunt_autoPolarity (r : Receiver) : (r.toHunt).autoPolarity = r.autoPolarity := rfl
@[simp] theorem Receiver.toHunt_orientation (r : Receiver) : (r.toHunt).orientation = r.orientation := rfl
@[simp] theorem Receiver.toHunt_s0 (r : Receiver) : (r.toHunt).s0 = r.s0 := rfl
@[simp] theorem Receiver.toHunt_qt (r : Receiver) : (r.toHunt).qt = r.qt := rfl
@[simp] theorem Receiver.resetFigures_rate (r : Receiver) : (r.resetFigures).rate = r.rate := rfl
@[simp] theorem Receiver.resetFigures_sense (r : Receiver) : (r.resetFigures).sense = r.sense := rfl
@[simp] theorem Receiver.resetFigures_cfgSense (r : Receiver) : (r.resetFigures).cfgSense = r.cfgSense := rfl
@[simp] theorem Receiver.resetFigures_loopCurrent (r : Receiver) : (r.resetFigures).loopCurrent = r.loopCurrent := rfl
@[simp] theorem Receiver.resetFigures_level (r : Receiver) : (r.resetFigures).level = r.level := rfl
@[simp] theorem Receiver.resetFigures_state (r : Receiver) : (r.resetFigures).state = r.state := rfl
@[simp] theorem Receiver.resetFigures_sc (r : Receiver) : (r.resetFigures).sc = r.sc := rfl
@[simp] theorem Receiver.resetFigures_edges (r : Receiver) : (r.resetFigures).edges = r.edges := rfl
@[simp] theorem Receiver.resetFigures_measured (r : Receiver) : (r.resetFigures).measured = r.measured := rfl
@[simp] theorem Receiver.resetFigures_q (r : Receiver) : (r.resetFigures).q = 0 := rfl
@[simp] theorem Receiver.resetFigures_n (r : Receiver) : (r.resetFigures).n = 0 := rfl
@[simp] theorem Receiver.resetFigures_a (r : Receiver) : (r.resetFigures).a = 0 := rfl
@[simp] theorem Receiver.resetFigures_s (r : Receiver) : (r.resetFigures).s = if r.orientation then 0 else r.s0 := rfl
@[simp] theorem Receiver.resetFigures_goodSeen (r : Receiver) : (r.resetFigures).goodSeen = r.goodSeen := rfl
@[simp] theorem Receiver.resetFigures_inversionMade (r : Receiver) : (r.resetFigures).inversionMade = r.inversionMade := rfl
@[simp] theorem Receiver.resetFigures_spaceCount (r : Receiver) : (r.resetFigures).spaceCount = r.spaceCount := rfl
@[simp] theorem Receiver.resetFigures_lossCount (r : Receiver) : (r.resetFigures).lossCount = r.lossCount := rfl
@[simp] theorem Receiver.resetFigures_breakReady (r : Receiver) : (r.resetFigures).breakReady = r.breakReady := rfl
@[simp] theorem Receiver.resetFigures_clearReady (r : Receiver) : (r.resetFigures).clearReady = r.clearReady := rfl
@[simp] theorem Receiver.resetFigures_brk (r : Receiver) : (r.resetFigures).brk = r.brk := rfl
@[simp] theorem Receiver.resetFigures_clr (r : Receiver) : (r.resetFigures).clr = r.clr := rfl
@[simp] theorem Receiver.resetFigures_autoPolarity (r : Receiver) : (r.resetFigures).autoPolarity = r.autoPolarity := rfl
@[simp] theorem Receiver.resetFigures_orientation (r : Receiver) : (r.resetFigures).orientation = r.orientation := rfl
@[simp] theorem Receiver.resetFigures_s0 (r : Receiver) : (r.resetFigures).s0 = r.s0 := rfl
@[simp] theorem Receiver.resetFigures_qt (r : Receiver) : (r.resetFigures).qt = r.qt := rfl
@[simp] theorem Receiver.connect_rate (r : Receiver) : (r.connect).rate = .r50 := rfl
@[simp] theorem Receiver.connect_sense (r : Receiver) : (r.connect).sense = r.cfgSense := rfl
@[simp] theorem Receiver.connect_cfgSense (r : Receiver) : (r.connect).cfgSense = r.cfgSense := rfl
@[simp] theorem Receiver.connect_loopCurrent (r : Receiver) : (r.connect).loopCurrent = r.loopCurrent := rfl
@[simp] theorem Receiver.connect_level (r : Receiver) : (r.connect).level = r.level := rfl
@[simp] theorem Receiver.connect_state (r : Receiver) : (r.connect).state = r.state := rfl
@[simp] theorem Receiver.connect_sc (r : Receiver) : (r.connect).sc = r.sc := rfl
@[simp] theorem Receiver.connect_edges (r : Receiver) : (r.connect).edges = r.edges := rfl
@[simp] theorem Receiver.connect_measured (r : Receiver) : (r.connect).measured = r.measured := rfl
@[simp] theorem Receiver.connect_q (r : Receiver) : (r.connect).q = 0 := rfl
@[simp] theorem Receiver.connect_n (r : Receiver) : (r.connect).n = 0 := rfl
@[simp] theorem Receiver.connect_a (r : Receiver) : (r.connect).a = 0 := rfl
@[simp] theorem Receiver.connect_s (r : Receiver) : (r.connect).s = if r.orientation then 0 else r.s0 := rfl
@[simp] theorem Receiver.connect_goodSeen (r : Receiver) : (r.connect).goodSeen = false := rfl
@[simp] theorem Receiver.connect_inversionMade (r : Receiver) : (r.connect).inversionMade = false := rfl
@[simp] theorem Receiver.connect_spaceCount (r : Receiver) : (r.connect).spaceCount = 0 := rfl
@[simp] theorem Receiver.connect_lossCount (r : Receiver) : (r.connect).lossCount = 0 := rfl
@[simp] theorem Receiver.connect_breakReady (r : Receiver) : (r.connect).breakReady = true := rfl
@[simp] theorem Receiver.connect_clearReady (r : Receiver) : (r.connect).clearReady = true := rfl
@[simp] theorem Receiver.connect_brk (r : Receiver) : (r.connect).brk = r.brk := rfl
@[simp] theorem Receiver.connect_clr (r : Receiver) : (r.connect).clr = r.clr := rfl
@[simp] theorem Receiver.connect_autoPolarity (r : Receiver) : (r.connect).autoPolarity = r.autoPolarity := rfl
@[simp] theorem Receiver.connect_orientation (r : Receiver) : (r.connect).orientation = r.orientation := rfl
@[simp] theorem Receiver.connect_s0 (r : Receiver) : (r.connect).s0 = r.s0 := rfl
@[simp] theorem Receiver.connect_qt (r : Receiver) : (r.connect).qt = r.qt := rfl
@[simp] theorem Receiver.softReset_rate (r : Receiver) : (r.softReset).rate = .r50 := rfl
@[simp] theorem Receiver.softReset_sense (r : Receiver) : (r.softReset).sense = r.cfgSense := rfl
@[simp] theorem Receiver.softReset_cfgSense (r : Receiver) : (r.softReset).cfgSense = r.cfgSense := rfl
@[simp] theorem Receiver.softReset_loopCurrent (r : Receiver) : (r.softReset).loopCurrent = r.loopCurrent := rfl
@[simp] theorem Receiver.softReset_level (r : Receiver) : (r.softReset).level = r.level := rfl
@[simp] theorem Receiver.softReset_state (r : Receiver) : (r.softReset).state = .hunt := rfl
@[simp] theorem Receiver.softReset_sc (r : Receiver) : (r.softReset).sc = r.sc := rfl
@[simp] theorem Receiver.softReset_edges (r : Receiver) : (r.softReset).edges = [] := rfl
@[simp] theorem Receiver.softReset_measured (r : Receiver) : (r.softReset).measured = [] := rfl
@[simp] theorem Receiver.softReset_q (r : Receiver) : (r.softReset).q = 0 := rfl
@[simp] theorem Receiver.softReset_n (r : Receiver) : (r.softReset).n = 0 := rfl
@[simp] theorem Receiver.softReset_a (r : Receiver) : (r.softReset).a = 0 := rfl
@[simp] theorem Receiver.softReset_s (r : Receiver) : (r.softReset).s = if r.orientation then 0 else r.s0 := rfl
@[simp] theorem Receiver.softReset_goodSeen (r : Receiver) : (r.softReset).goodSeen = false := rfl
@[simp] theorem Receiver.softReset_inversionMade (r : Receiver) : (r.softReset).inversionMade = false := rfl
@[simp] theorem Receiver.softReset_spaceCount (r : Receiver) : (r.softReset).spaceCount = 0 := rfl
@[simp] theorem Receiver.softReset_lossCount (r : Receiver) : (r.softReset).lossCount = 0 := rfl
@[simp] theorem Receiver.softReset_breakReady (r : Receiver) : (r.softReset).breakReady = true := rfl
@[simp] theorem Receiver.softReset_clearReady (r : Receiver) : (r.softReset).clearReady = true := rfl
@[simp] theorem Receiver.softReset_brk (r : Receiver) : (r.softReset).brk = r.brk := rfl
@[simp] theorem Receiver.softReset_clr (r : Receiver) : (r.softReset).clr = r.clr := rfl
@[simp] theorem Receiver.softReset_autoPolarity (r : Receiver) : (r.softReset).autoPolarity = r.autoPolarity := rfl
@[simp] theorem Receiver.softReset_orientation (r : Receiver) : (r.softReset).orientation = r.orientation := rfl
@[simp] theorem Receiver.softReset_s0 (r : Receiver) : (r.softReset).s0 = r.s0 := rfl
@[simp] theorem Receiver.softReset_qt (r : Receiver) : (r.softReset).qt = r.qt := rfl
@[simp] theorem Receiver.ended_rate (good : Bool) (r : Receiver) : (r.ended good).rate = r.rate := rfl
@[simp] theorem Receiver.ended_sense (good : Bool) (r : Receiver) : (r.ended good).sense = r.sense := rfl
@[simp] theorem Receiver.ended_cfgSense (good : Bool) (r : Receiver) : (r.ended good).cfgSense = r.cfgSense := rfl
@[simp] theorem Receiver.ended_loopCurrent (good : Bool) (r : Receiver) : (r.ended good).loopCurrent = r.loopCurrent := rfl
@[simp] theorem Receiver.ended_level (good : Bool) (r : Receiver) : (r.ended good).level = r.level := rfl
@[simp] theorem Receiver.ended_state (good : Bool) (r : Receiver) :
    (r.ended good).state = if good then .hunt else .waitMark := rfl
@[simp] theorem Receiver.ended_sc (good : Bool) (r : Receiver) : (r.ended good).sc = r.sc := rfl
@[simp] theorem Receiver.ended_edges (good : Bool) (r : Receiver) : (r.ended good).edges = [] := rfl
@[simp] theorem Receiver.ended_measured (good : Bool) (r : Receiver) : (r.ended good).measured = [] := rfl
@[simp] theorem Receiver.ended_q (good : Bool) (r : Receiver) : (r.ended good).q = r.q := rfl
@[simp] theorem Receiver.ended_n (good : Bool) (r : Receiver) : (r.ended good).n = r.n := rfl
@[simp] theorem Receiver.ended_a (good : Bool) (r : Receiver) : (r.ended good).a = r.a := rfl
@[simp] theorem Receiver.ended_s (good : Bool) (r : Receiver) : (r.ended good).s = r.s := rfl
@[simp] theorem Receiver.ended_goodSeen (good : Bool) (r : Receiver) : (r.ended good).goodSeen = r.goodSeen := rfl
@[simp] theorem Receiver.ended_inversionMade (good : Bool) (r : Receiver) :
    (r.ended good).inversionMade = r.inversionMade := rfl
@[simp] theorem Receiver.ended_spaceCount (good : Bool) (r : Receiver) : (r.ended good).spaceCount = r.spaceCount := rfl
@[simp] theorem Receiver.ended_lossCount (good : Bool) (r : Receiver) : (r.ended good).lossCount = r.lossCount := rfl
@[simp] theorem Receiver.ended_breakReady (good : Bool) (r : Receiver) : (r.ended good).breakReady = r.breakReady := rfl
@[simp] theorem Receiver.ended_clearReady (good : Bool) (r : Receiver) : (r.ended good).clearReady = r.clearReady := rfl
@[simp] theorem Receiver.ended_brk (good : Bool) (r : Receiver) : (r.ended good).brk = r.brk := rfl
@[simp] theorem Receiver.ended_clr (good : Bool) (r : Receiver) : (r.ended good).clr = r.clr := rfl
@[simp] theorem Receiver.ended_autoPolarity (good : Bool) (r : Receiver) : (r.ended good).autoPolarity = r.autoPolarity := rfl
@[simp] theorem Receiver.ended_orientation (good : Bool) (r : Receiver) : (r.ended good).orientation = r.orientation := rfl
@[simp] theorem Receiver.ended_s0 (good : Bool) (r : Receiver) : (r.ended good).s0 = r.s0 := rfl
@[simp] theorem Receiver.ended_qt (good : Bool) (r : Receiver) : (r.ended good).qt = r.qt := rfl

/-! ### Agreement -/

@[simp] theorem Agreement.setMax_active (m : Rate) (a : Agreement) : (a.setMax m).active = a.active := rfl
@[simp] theorem Agreement.setMax_localTop (m : Rate) (a : Agreement) : (a.setMax m).localTop = a.localTop := rfl
@[simp] theorem Agreement.setMax_localQuality (m : Rate) (a : Agreement) : (a.setMax m).localQuality = a.localQuality := rfl
@[simp] theorem Agreement.setMax_keptM1 (m : Rate) (a : Agreement) : (a.setMax m).keptM1 = a.keptM1 := rfl
@[simp] theorem Agreement.setMax_partnerMask (m : Rate) (a : Agreement) : (a.setMax m).partnerMask = a.partnerMask := rfl
@[simp] theorem Agreement.setMax_parser (m : Rate) (a : Agreement) : (a.setMax m).parser = a.parser := rfl
@[simp] theorem Agreement.setMax_offerSeen (m : Rate) (a : Agreement) : (a.setMax m).offerSeen = a.offerSeen := rfl
@[simp] theorem Agreement.setMax_nextCode (m : Rate) (a : Agreement) : (a.setMax m).nextCode = a.nextCode := rfl
@[simp] theorem Agreement.setMax_formed (m : Rate) (a : Agreement) : (a.setMax m).formed = a.formed := rfl
@[simp] theorem Agreement.setMax_sent (m : Rate) (a : Agreement) : (a.setMax m).sent = a.sent := rfl
@[simp] theorem Agreement.setMax_rcvd (m : Rate) (a : Agreement) : (a.setMax m).rcvd = a.rcvd := rfl
@[simp] theorem Agreement.setMax_txSwitched (m : Rate) (a : Agreement) : (a.setMax m).txSwitched = a.txSwitched := rfl
@[simp] theorem Agreement.setMax_rxSwitched (m : Rate) (a : Agreement) : (a.setMax m).rxSwitched = a.rxSwitched := rfl
@[simp] theorem Agreement.setMax_partnerQuality (m : Rate) (a : Agreement) :
    (a.setMax m).partnerQuality = a.partnerQuality := rfl
@[simp] theorem Agreement.setMax_timer (m : Rate) (a : Agreement) : (a.setMax m).timer = a.timer := rfl
@[simp] theorem Agreement.setMax_ceiling (m : Rate) (a : Agreement) : (a.setMax m).ceiling = m.lower a.ceiling := rfl
@[simp] theorem Agreement.setMax_cfgMax (m : Rate) (a : Agreement) : (a.setMax m).cfgMax = m := rfl

/-! ### Converter -/

@[simp] theorem Converter.softReset_letters (cv : Converter) : (cv.softReset).letters = cv.letters := rfl
@[simp] theorem Converter.softReset_figures (cv : Converter) : (cv.softReset).figures = cv.figures := rfl
@[simp] theorem Converter.softReset_ltrsShift (cv : Converter) : (cv.softReset).ltrsShift = cv.ltrsShift := rfl
@[simp] theorem Converter.softReset_figsShift (cv : Converter) : (cv.softReset).figsShift = cv.figsShift := rfl
@[simp] theorem Converter.softReset_valid (cv : Converter) : (cv.softReset).valid = cv.valid := rfl
@[simp] theorem Converter.softReset_rxPlane (cv : Converter) : (cv.softReset).rxPlane = .letters := rfl
@[simp] theorem Converter.softReset_txPlane (cv : Converter) : (cv.softReset).txPlane = .unknown := rfl
@[simp] theorem Converter.softReset_unshift (cv : Converter) : (cv.softReset).unshift = cv.unshift := rfl
@[simp] theorem Converter.softReset_answerback (cv : Converter) : (cv.softReset).answerback = cv.answerback := rfl
@[simp] theorem Converter.softReset_eom (cv : Converter) : (cv.softReset).eom = cv.eom := rfl
@[simp] theorem Converter.softReset_m (cv : Converter) : (cv.softReset).m = 0 := rfl
@[simp] theorem Converter.softReset_held (cv : Converter) : (cv.softReset).held = none := rfl

/-! ### Keyboard -/

@[simp] theorem Keyboard.setState_keymap (key : Nat) (st : KeyState) (k : Keyboard) :
    (k.setState key st).keymap = k.keymap := rfl
@[simp] theorem Keyboard.setState_keys (key : Nat) (st : KeyState) (k : Keyboard) :
    (k.setState key st).keys = k.keys.setIfInBounds key st := rfl
@[simp] theorem Keyboard.setState_agree (key : Nat) (st : KeyState) (k : Keyboard) :
    (k.setState key st).agree = k.agree := rfl
@[simp] theorem Keyboard.setState_pos (key : Nat) (st : KeyState) (k : Keyboard) : (k.setState key st).pos = k.pos := rfl
@[simp] theorem Keyboard.setState_list (key : Nat) (st : KeyState) (k : Keyboard) : (k.setState key st).list = k.list := rfl
@[simp] theorem Keyboard.setState_heldFull (key : Nat) (st : KeyState) (k : Keyboard) :
    (k.setState key st).heldFull = k.heldFull := rfl
@[simp] theorem Keyboard.setState_buffer (key : Nat) (st : KeyState) (k : Keyboard) :
    (k.setState key st).buffer = k.buffer := rfl
@[simp] theorem Keyboard.setState_hold (key : Nat) (st : KeyState) (k : Keyboard) : (k.setState key st).hold = k.hold := rfl
@[simp] theorem Keyboard.setState_count (key : Nat) (st : KeyState) (k : Keyboard) :
    (k.setState key st).count = k.count := rfl
@[simp] theorem Keyboard.setState_target (key : Nat) (st : KeyState) (k : Keyboard) :
    (k.setState key st).target = k.target := rfl
@[simp] theorem Keyboard.setState_timer (key : Nat) (st : KeyState) (k : Keyboard) :
    (k.setState key st).timer = k.timer := rfl
@[simp] theorem Keyboard.setState_fresh (key : Nat) (st : KeyState) (k : Keyboard) :
    (k.setState key st).fresh = k.fresh := rfl
@[simp] theorem Keyboard.setState_running (key : Nat) (st : KeyState) (k : Keyboard) :
    (k.setState key st).running = k.running := rfl
@[simp] theorem Keyboard.setState_noted (key : Nat) (st : KeyState) (k : Keyboard) :
    (k.setState key st).noted = k.noted := rfl
@[simp] theorem Keyboard.setAgree_keymap (key n : Nat) (k : Keyboard) : (k.setAgree key n).keymap = k.keymap := rfl
@[simp] theorem Keyboard.setAgree_keys (key n : Nat) (k : Keyboard) : (k.setAgree key n).keys = k.keys := rfl
@[simp] theorem Keyboard.setAgree_agree (key n : Nat) (k : Keyboard) :
    (k.setAgree key n).agree = k.agree.setIfInBounds key n := rfl
@[simp] theorem Keyboard.setAgree_pos (key n : Nat) (k : Keyboard) : (k.setAgree key n).pos = k.pos := rfl
@[simp] theorem Keyboard.setAgree_list (key n : Nat) (k : Keyboard) : (k.setAgree key n).list = k.list := rfl
@[simp] theorem Keyboard.setAgree_heldFull (key n : Nat) (k : Keyboard) : (k.setAgree key n).heldFull = k.heldFull := rfl
@[simp] theorem Keyboard.setAgree_buffer (key n : Nat) (k : Keyboard) : (k.setAgree key n).buffer = k.buffer := rfl
@[simp] theorem Keyboard.setAgree_hold (key n : Nat) (k : Keyboard) : (k.setAgree key n).hold = k.hold := rfl
@[simp] theorem Keyboard.setAgree_count (key n : Nat) (k : Keyboard) : (k.setAgree key n).count = k.count := rfl
@[simp] theorem Keyboard.setAgree_target (key n : Nat) (k : Keyboard) : (k.setAgree key n).target = k.target := rfl
@[simp] theorem Keyboard.setAgree_timer (key n : Nat) (k : Keyboard) : (k.setAgree key n).timer = k.timer := rfl
@[simp] theorem Keyboard.setAgree_fresh (key n : Nat) (k : Keyboard) : (k.setAgree key n).fresh = k.fresh := rfl
@[simp] theorem Keyboard.setAgree_running (key n : Nat) (k : Keyboard) : (k.setAgree key n).running = k.running := rfl
@[simp] theorem Keyboard.setAgree_noted (key n : Nat) (k : Keyboard) : (k.setAgree key n).noted = k.noted := rfl
@[simp] theorem Keyboard.endHold_keymap (k : Keyboard) : (k.endHold).keymap = k.keymap := rfl
@[simp] theorem Keyboard.endHold_keys (k : Keyboard) : (k.endHold).keys = k.keys := rfl
@[simp] theorem Keyboard.endHold_agree (k : Keyboard) : (k.endHold).agree = k.agree := rfl
@[simp] theorem Keyboard.endHold_pos (k : Keyboard) : (k.endHold).pos = k.pos := rfl
@[simp] theorem Keyboard.endHold_list (k : Keyboard) : (k.endHold).list = k.list := rfl
@[simp] theorem Keyboard.endHold_heldFull (k : Keyboard) : (k.endHold).heldFull = k.heldFull := rfl
@[simp] theorem Keyboard.endHold_buffer (k : Keyboard) : (k.endHold).buffer = k.buffer := rfl
@[simp] theorem Keyboard.endHold_hold (k : Keyboard) : (k.endHold).hold = .absent := rfl
@[simp] theorem Keyboard.endHold_count (k : Keyboard) : (k.endHold).count = 0 := rfl
@[simp] theorem Keyboard.endHold_target (k : Keyboard) : (k.endHold).target = none := rfl
@[simp] theorem Keyboard.endHold_timer (k : Keyboard) : (k.endHold).timer = none := rfl
@[simp] theorem Keyboard.endHold_fresh (k : Keyboard) : (k.endHold).fresh = k.fresh := rfl
@[simp] theorem Keyboard.endHold_running (k : Keyboard) : (k.endHold).running = k.running := rfl
@[simp] theorem Keyboard.endHold_noted (k : Keyboard) : (k.endHold).noted = k.noted := rfl
@[simp] theorem Keyboard.startAfresh_keymap (k : Keyboard) : (k.startAfresh).keymap = k.keymap := rfl
@[simp] theorem Keyboard.startAfresh_keys (k : Keyboard) : (k.startAfresh).keys = Vector.replicate 64 .up := rfl
@[simp] theorem Keyboard.startAfresh_agree (k : Keyboard) : (k.startAfresh).agree = Vector.replicate 64 0 := rfl
@[simp] theorem Keyboard.startAfresh_pos (k : Keyboard) : (k.startAfresh).pos = 0 := rfl
@[simp] theorem Keyboard.startAfresh_list (k : Keyboard) : (k.startAfresh).list = [] := rfl
@[simp] theorem Keyboard.startAfresh_heldFull (k : Keyboard) : (k.startAfresh).heldFull = [] := rfl
@[simp] theorem Keyboard.startAfresh_buffer (k : Keyboard) : (k.startAfresh).buffer = k.buffer := rfl
@[simp] theorem Keyboard.startAfresh_hold (k : Keyboard) : (k.startAfresh).hold = .absent := rfl
@[simp] theorem Keyboard.startAfresh_count (k : Keyboard) : (k.startAfresh).count = 0 := rfl
@[simp] theorem Keyboard.startAfresh_target (k : Keyboard) : (k.startAfresh).target = none := rfl
@[simp] theorem Keyboard.startAfresh_timer (k : Keyboard) : (k.startAfresh).timer = none := rfl
@[simp] theorem Keyboard.startAfresh_fresh (k : Keyboard) : (k.startAfresh).fresh = true := rfl
@[simp] theorem Keyboard.startAfresh_running (k : Keyboard) : (k.startAfresh).running = true := rfl
@[simp] theorem Keyboard.startAfresh_noted (k : Keyboard) : (k.startAfresh).noted = k.noted := rfl

/-! ### Printer -/

@[simp] theorem Printer.stopOff_offTicks (p : Printer) : (p.stopOff).offTicks = 0 := rfl
@[simp] theorem Printer.stopOff_state (p : Printer) : (p.stopOff).state = p.state := rfl
@[simp] theorem Printer.stopOff_motorOn (p : Printer) : (p.stopOff).motorOn = p.motorOn := rfl
@[simp] theorem Printer.stopOff_mode (p : Printer) : (p.stopOff).mode = p.mode := rfl
@[simp] theorem Printer.stopOff_catchUp (p : Printer) : (p.stopOff).catchUp = p.catchUp := rfl
@[simp] theorem Printer.stopOff_tracked (p : Printer) : (p.stopOff).tracked = p.tracked := rfl
@[simp] theorem Printer.stopOff_unavailable (p : Printer) : (p.stopOff).unavailable = p.unavailable := rfl
@[simp] theorem Printer.stopOff_startPending (p : Printer) : (p.stopOff).startPending = p.startPending := rfl
@[simp] theorem Printer.stopOff_queue (p : Printer) : (p.stopOff).queue = p.queue := rfl
@[simp] theorem Printer.stopOff_lostPending (p : Printer) : (p.stopOff).lostPending = p.lostPending := rfl
@[simp] theorem Printer.stopOff_lostCode (p : Printer) : (p.stopOff).lostCode = p.lostCode := rfl
@[simp] theorem Printer.stopOff_jobs (p : Printer) : (p.stopOff).jobs = p.jobs := rfl
@[simp] theorem Printer.stopOff_jobRun (p : Printer) : (p.stopOff).jobRun = p.jobRun := rfl
@[simp] theorem Printer.stopOff_column (p : Printer) : (p.stopOff).column = p.column := rfl
@[simp] theorem Printer.stopOff_columnKnown (p : Printer) : (p.stopOff).columnKnown = p.columnKnown := rfl
@[simp] theorem Printer.stopOff_lineEnd (p : Printer) : (p.stopOff).lineEnd = p.lineEnd := rfl
@[simp] theorem Printer.stopOff_intensityReq (p : Printer) : (p.stopOff).intensityReq = p.intensityReq := rfl
@[simp] theorem Printer.stopOff_intensity (p : Printer) : (p.stopOff).intensity = p.intensity := rfl
@[simp] theorem Printer.stopOff_cycle (p : Printer) : (p.stopOff).cycle = p.cycle := rfl
@[simp] theorem Printer.stopOff_ret (p : Printer) : (p.stopOff).ret = p.ret := rfl
@[simp] theorem Printer.stopOff_feed (p : Printer) : (p.stopOff).feed = p.feed := rfl
@[simp] theorem Printer.stopOff_waiting (p : Printer) : (p.stopOff).waiting = p.waiting := rfl
@[simp] theorem Printer.stopOff_buf (p : Printer) : (p.stopOff).buf = p.buf := rfl
@[simp] theorem Printer.stopOff_bufPos (p : Printer) : (p.stopOff).bufPos = p.bufPos := rfl
@[simp] theorem Printer.stopOff_hammer (p : Printer) : (p.stopOff).hammer = p.hammer := rfl
@[simp] theorem Printer.stopOff_bell (p : Printer) : (p.stopOff).bell = p.bell := rfl
@[simp] theorem Printer.stopOff_paper (p : Printer) : (p.stopOff).paper = p.paper := rfl
@[simp] theorem Printer.stopOff_motorFailed (p : Printer) : (p.stopOff).motorFailed = p.motorFailed := rfl
@[simp] theorem Printer.stopOff_jamTags (p : Printer) : (p.stopOff).jamTags = p.jamTags := rfl
@[simp] theorem Printer.stopOff_lineLength (p : Printer) : (p.stopOff).lineLength = p.lineLength := rfl
@[simp] theorem Printer.stopOff_margin (p : Printer) : (p.stopOff).margin = p.margin := rfl
@[simp] theorem Printer.stopOff_policy (p : Printer) : (p.stopOff).policy = p.policy := rfl
@[simp] theorem Printer.startReturn_offTicks (c : Option PrChar) (p : Printer) : (p.startReturn c).offTicks = p.offTicks := rfl
@[simp] theorem Printer.ownNewline_offTicks (p : Printer) : (p.ownNewline).offTicks = p.offTicks := rfl
@[simp] theorem Printer.startCycle_offTicks (c : PrChar) (p : Printer) : (p.startCycle c).offTicks = p.offTicks := rfl
@[simp] theorem Printer.startReturn_state (c : Option PrChar) (p : Printer) : (p.startReturn c).state = .returning := rfl
@[simp] theorem Printer.startReturn_motorOn (c : Option PrChar) (p : Printer) : (p.startReturn c).motorOn = p.motorOn := rfl
@[simp] theorem Printer.startReturn_mode (c : Option PrChar) (p : Printer) : (p.startReturn c).mode = p.mode := rfl
@[simp] theorem Printer.startReturn_catchUp (c : Option PrChar) (p : Printer) : (p.startReturn c).catchUp = p.catchUp := rfl
@[simp] theorem Printer.startReturn_tracked (c : Option PrChar) (p : Printer) : (p.startReturn c).tracked = p.tracked := rfl
@[simp] theorem Printer.startReturn_unavailable (c : Option PrChar) (p : Printer) :
    (p.startReturn c).unavailable = p.unavailable := rfl
@[simp] theorem Printer.startReturn_startPending (c : Option PrChar) (p : Printer) :
    (p.startReturn c).startPending = p.startPending := rfl
@[simp] theorem Printer.startReturn_queue (c : Option PrChar) (p : Printer) : (p.startReturn c).queue = p.queue := rfl
@[simp] theorem Printer.startReturn_lostPending (c : Option PrChar) (p : Printer) :
    (p.startReturn c).lostPending = p.lostPending := rfl
@[simp] theorem Printer.startReturn_lostCode (c : Option PrChar) (p : Printer) :
    (p.startReturn c).lostCode = p.lostCode := rfl
@[simp] theorem Printer.startReturn_jobs (c : Option PrChar) (p : Printer) : (p.startReturn c).jobs = p.jobs := rfl
@[simp] theorem Printer.startReturn_jobRun (c : Option PrChar) (p : Printer) : (p.startReturn c).jobRun = p.jobRun := rfl
@[simp] theorem Printer.startReturn_column (c : Option PrChar) (p : Printer) : (p.startReturn c).column = p.column := rfl
@[simp] theorem Printer.startReturn_columnKnown (c : Option PrChar) (p : Printer) :
    (p.startReturn c).columnKnown = p.columnKnown := rfl
@[simp] theorem Printer.startReturn_lineEnd (c : Option PrChar) (p : Printer) : (p.startReturn c).lineEnd = p.lineEnd := rfl
@[simp] theorem Printer.startReturn_intensityReq (c : Option PrChar) (p : Printer) :
    (p.startReturn c).intensityReq = p.intensityReq := rfl
@[simp] theorem Printer.startReturn_intensity (c : Option PrChar) (p : Printer) :
    (p.startReturn c).intensity = p.intensity := rfl
@[simp] theorem Printer.startReturn_cycle (c : Option PrChar) (p : Printer) : (p.startReturn c).cycle = p.cycle := rfl
@[simp] theorem Printer.startReturn_ret (c : Option PrChar) (p : Printer) : (p.startReturn c).ret = some ⟨c, [], false⟩ := rfl
@[simp] theorem Printer.startReturn_feed (c : Option PrChar) (p : Printer) : (p.startReturn c).feed = p.feed := rfl
@[simp] theorem Printer.startReturn_waiting (c : Option PrChar) (p : Printer) : (p.startReturn c).waiting = p.waiting := rfl
@[simp] theorem Printer.startReturn_buf (c : Option PrChar) (p : Printer) : (p.startReturn c).buf = p.buf := rfl
@[simp] theorem Printer.startReturn_bufPos (c : Option PrChar) (p : Printer) : (p.startReturn c).bufPos = p.bufPos := rfl
@[simp] theorem Printer.startReturn_hammer (c : Option PrChar) (p : Printer) : (p.startReturn c).hammer = p.hammer := rfl
@[simp] theorem Printer.startReturn_bell (c : Option PrChar) (p : Printer) : (p.startReturn c).bell = p.bell := rfl
@[simp] theorem Printer.startReturn_paper (c : Option PrChar) (p : Printer) : (p.startReturn c).paper = p.paper := rfl
@[simp] theorem Printer.startReturn_motorFailed (c : Option PrChar) (p : Printer) :
    (p.startReturn c).motorFailed = p.motorFailed := rfl
@[simp] theorem Printer.startReturn_jamTags (c : Option PrChar) (p : Printer) : (p.startReturn c).jamTags = p.jamTags := rfl
@[simp] theorem Printer.startReturn_lineLength (c : Option PrChar) (p : Printer) :
    (p.startReturn c).lineLength = p.lineLength := rfl
@[simp] theorem Printer.startReturn_margin (c : Option PrChar) (p : Printer) : (p.startReturn c).margin = p.margin := rfl
@[simp] theorem Printer.startReturn_policy (c : Option PrChar) (p : Printer) : (p.startReturn c).policy = p.policy := rfl
@[simp] theorem Printer.ownNewline_state (p : Printer) : (p.ownNewline).state = .returning := rfl
@[simp] theorem Printer.ownNewline_motorOn (p : Printer) : (p.ownNewline).motorOn = p.motorOn := rfl
@[simp] theorem Printer.ownNewline_mode (p : Printer) : (p.ownNewline).mode = p.mode := rfl
@[simp] theorem Printer.ownNewline_catchUp (p : Printer) : (p.ownNewline).catchUp = p.catchUp := rfl
@[simp] theorem Printer.ownNewline_tracked (p : Printer) : (p.ownNewline).tracked = p.tracked := rfl
@[simp] theorem Printer.ownNewline_unavailable (p : Printer) : (p.ownNewline).unavailable = p.unavailable := rfl
@[simp] theorem Printer.ownNewline_startPending (p : Printer) : (p.ownNewline).startPending = p.startPending := rfl
@[simp] theorem Printer.ownNewline_queue (p : Printer) : (p.ownNewline).queue = p.queue := rfl
@[simp] theorem Printer.ownNewline_lostPending (p : Printer) : (p.ownNewline).lostPending = p.lostPending := rfl
@[simp] theorem Printer.ownNewline_lostCode (p : Printer) : (p.ownNewline).lostCode = p.lostCode := rfl
@[simp] theorem Printer.ownNewline_jobs (p : Printer) : (p.ownNewline).jobs = p.jobs := rfl
@[simp] theorem Printer.ownNewline_jobRun (p : Printer) : (p.ownNewline).jobRun = p.jobRun := rfl
@[simp] theorem Printer.ownNewline_column (p : Printer) : (p.ownNewline).column = p.column := rfl
@[simp] theorem Printer.ownNewline_columnKnown (p : Printer) : (p.ownNewline).columnKnown = p.columnKnown := rfl
@[simp] theorem Printer.ownNewline_lineEnd (p : Printer) : (p.ownNewline).lineEnd = p.lineEnd := rfl
@[simp] theorem Printer.ownNewline_intensityReq (p : Printer) : (p.ownNewline).intensityReq = p.intensityReq := rfl
@[simp] theorem Printer.ownNewline_intensity (p : Printer) : (p.ownNewline).intensity = p.intensity := rfl
@[simp] theorem Printer.ownNewline_cycle (p : Printer) : (p.ownNewline).cycle = p.cycle := rfl
@[simp] theorem Printer.ownNewline_ret (p : Printer) : (p.ownNewline).ret = some ⟨none, [], false⟩ := rfl
@[simp] theorem Printer.ownNewline_feed (p : Printer) : (p.ownNewline).feed = some ⟨none⟩ := rfl
@[simp] theorem Printer.ownNewline_waiting (p : Printer) : (p.ownNewline).waiting = p.waiting := rfl
@[simp] theorem Printer.ownNewline_buf (p : Printer) : (p.ownNewline).buf = p.buf := rfl
@[simp] theorem Printer.ownNewline_bufPos (p : Printer) : (p.ownNewline).bufPos = p.bufPos := rfl
@[simp] theorem Printer.ownNewline_hammer (p : Printer) : (p.ownNewline).hammer = p.hammer := rfl
@[simp] theorem Printer.ownNewline_bell (p : Printer) : (p.ownNewline).bell = p.bell := rfl
@[simp] theorem Printer.ownNewline_paper (p : Printer) : (p.ownNewline).paper = p.paper := rfl
@[simp] theorem Printer.ownNewline_motorFailed (p : Printer) : (p.ownNewline).motorFailed = p.motorFailed := rfl
@[simp] theorem Printer.ownNewline_jamTags (p : Printer) : (p.ownNewline).jamTags = p.jamTags := rfl
@[simp] theorem Printer.ownNewline_lineLength (p : Printer) : (p.ownNewline).lineLength = p.lineLength := rfl
@[simp] theorem Printer.ownNewline_margin (p : Printer) : (p.ownNewline).margin = p.margin := rfl
@[simp] theorem Printer.ownNewline_policy (p : Printer) : (p.ownNewline).policy = p.policy := rfl
@[simp] theorem Printer.startCycle_state (c : PrChar) (p : Printer) : (p.startCycle c).state = .printing := rfl
@[simp] theorem Printer.startCycle_motorOn (c : PrChar) (p : Printer) : (p.startCycle c).motorOn = p.motorOn := rfl
@[simp] theorem Printer.startCycle_mode (c : PrChar) (p : Printer) : (p.startCycle c).mode = p.mode := rfl
@[simp] theorem Printer.startCycle_catchUp (c : PrChar) (p : Printer) : (p.startCycle c).catchUp = p.catchUp := rfl
@[simp] theorem Printer.startCycle_tracked (c : PrChar) (p : Printer) : (p.startCycle c).tracked = p.tracked := rfl
@[simp] theorem Printer.startCycle_unavailable (c : PrChar) (p : Printer) :
    (p.startCycle c).unavailable = p.unavailable := rfl
@[simp] theorem Printer.startCycle_startPending (c : PrChar) (p : Printer) :
    (p.startCycle c).startPending = p.startPending := rfl
@[simp] theorem Printer.startCycle_queue (c : PrChar) (p : Printer) : (p.startCycle c).queue = p.queue := rfl
@[simp] theorem Printer.startCycle_lostPending (c : PrChar) (p : Printer) :
    (p.startCycle c).lostPending = p.lostPending := rfl
@[simp] theorem Printer.startCycle_lostCode (c : PrChar) (p : Printer) : (p.startCycle c).lostCode = p.lostCode := rfl
@[simp] theorem Printer.startCycle_jobs (c : PrChar) (p : Printer) : (p.startCycle c).jobs = p.jobs := rfl
@[simp] theorem Printer.startCycle_jobRun (c : PrChar) (p : Printer) : (p.startCycle c).jobRun = p.jobRun := rfl
@[simp] theorem Printer.startCycle_column (c : PrChar) (p : Printer) : (p.startCycle c).column = p.column := rfl
@[simp] theorem Printer.startCycle_columnKnown (c : PrChar) (p : Printer) :
    (p.startCycle c).columnKnown = p.columnKnown := rfl
@[simp] theorem Printer.startCycle_lineEnd (c : PrChar) (p : Printer) : (p.startCycle c).lineEnd = p.lineEnd := rfl
@[simp] theorem Printer.startCycle_intensityReq (c : PrChar) (p : Printer) :
    (p.startCycle c).intensityReq = p.intensityReq := rfl
@[simp] theorem Printer.startCycle_intensity (c : PrChar) (p : Printer) : (p.startCycle c).intensity = p.intensityReq := rfl
@[simp] theorem Printer.startCycle_cycle (c : PrChar) (p : Printer) :
    (p.startCycle c).cycle = some ⟨c, false, false, p.lineLength, 0⟩ := rfl
@[simp] theorem Printer.startCycle_ret (c : PrChar) (p : Printer) : (p.startCycle c).ret = p.ret := rfl
@[simp] theorem Printer.startCycle_feed (c : PrChar) (p : Printer) : (p.startCycle c).feed = p.feed := rfl
@[simp] theorem Printer.startCycle_waiting (c : PrChar) (p : Printer) : (p.startCycle c).waiting = none := rfl
@[simp] theorem Printer.startCycle_buf (c : PrChar) (p : Printer) : (p.startCycle c).buf = p.buf := rfl
@[simp] theorem Printer.startCycle_bufPos (c : PrChar) (p : Printer) : (p.startCycle c).bufPos = p.bufPos := rfl
@[simp] theorem Printer.startCycle_hammer (c : PrChar) (p : Printer) :
    (p.startCycle c).hammer = decide (c.code ≠ Config.space) := rfl
@[simp] theorem Printer.startCycle_bell (c : PrChar) (p : Printer) : (p.startCycle c).bell = p.bell := rfl
@[simp] theorem Printer.startCycle_paper (c : PrChar) (p : Printer) : (p.startCycle c).paper = p.paper := rfl
@[simp] theorem Printer.startCycle_motorFailed (c : PrChar) (p : Printer) :
    (p.startCycle c).motorFailed = p.motorFailed := rfl
@[simp] theorem Printer.startCycle_jamTags (c : PrChar) (p : Printer) : (p.startCycle c).jamTags = p.jamTags := rfl
@[simp] theorem Printer.startCycle_lineLength (c : PrChar) (p : Printer) : (p.startCycle c).lineLength = p.lineLength := rfl
@[simp] theorem Printer.startCycle_margin (c : PrChar) (p : Printer) : (p.startCycle c).margin = p.margin := rfl
@[simp] theorem Printer.startCycle_policy (c : PrChar) (p : Printer) : (p.startCycle c).policy = p.policy := rfl

/-! ### Punch -/

@[simp] theorem Punch.startCycle_state (st : PuState) (r : RawCode) (c : Option (Option Tag)) (p : Punch) :
    (p.startCycle st r c).state = st := rfl
@[simp] theorem Punch.startCycle_queue (st : PuState) (r : RawCode) (c : Option (Option Tag)) (p : Punch) :
    (p.startCycle st r c).queue = p.queue := rfl
@[simp] theorem Punch.startCycle_chain (st : PuState) (r : RawCode) (c : Option (Option Tag)) (p : Punch) :
    (p.startCycle st r c).chain = p.chain := rfl
@[simp] theorem Punch.startCycle_stage (st : PuState) (r : RawCode) (c : Option (Option Tag)) (p : Punch) :
    (p.startCycle st r c).stage = p.stage := rfl
@[simp] theorem Punch.startCycle_shift (st : PuState) (r : RawCode) (c : Option (Option Tag)) (p : Punch) :
    (p.startCycle st r c).shift = p.shift := rfl
@[simp] theorem Punch.startCycle_held (st : PuState) (r : RawCode) (c : Option (Option Tag)) (p : Punch) :
    (p.startCycle st r c).held = p.held := rfl
@[simp] theorem Punch.startCycle_cycle (st : PuState) (r : RawCode) (c : Option (Option Tag)) (p : Punch) :
    (p.startCycle st r c).cycle = some ⟨r, c, false, 0⟩ := rfl
@[simp] theorem Punch.startCycle_holdPending (st : PuState) (r : RawCode) (c : Option (Option Tag)) (p : Punch) :
    (p.startCycle st r c).holdPending = p.holdPending := rfl
@[simp] theorem Punch.startCycle_tapeLow (st : PuState) (r : RawCode) (c : Option (Option Tag)) (p : Punch) :
    (p.startCycle st r c).tapeLow = p.tapeLow := rfl
@[simp] theorem Punch.startCycle_onTimeReq (st : PuState) (r : RawCode) (c : Option (Option Tag)) (p : Punch) :
    (p.startCycle st r c).onTimeReq = p.onTimeReq := rfl
@[simp] theorem Punch.startCycle_onTime (st : PuState) (r : RawCode) (c : Option (Option Tag)) (p : Punch) :
    (p.startCycle st r c).onTime = p.onTimeReq := rfl
@[simp] theorem Punch.startCycle_defLeader (st : PuState) (r : RawCode) (c : Option (Option Tag)) (p : Punch) :
    (p.startCycle st r c).defLeader = p.defLeader := rfl
@[simp] theorem Punch.startCycle_defTrailer (st : PuState) (r : RawCode) (c : Option (Option Tag)) (p : Punch) :
    (p.startCycle st r c).defTrailer = p.defTrailer := rfl

/-! ### Store -/

@[simp] theorem Store.allocate_memInit (st : Store) : (st.allocate).memInit = st.memInit := rfl
@[simp] theorem Store.allocate_selfRefresh (st : Store) : (st.allocate).selfRefresh = st.selfRefresh := rfl
@[simp] theorem Store.allocate_banks (st : Store) : (st.allocate).banks = st.banks := rfl
@[simp] theorem Store.allocate_debt (st : Store) : (st.allocate).debt = st.debt := rfl
@[simp] theorem Store.allocate_access (st : Store) : (st.allocate).access = st.access := rfl
@[simp] theorem Store.allocate_head (st : Store) : (st.allocate).head = st.head := rfl
@[simp] theorem Store.allocate_tail (st : Store) : (st.allocate).tail = (st.tail + 1) % Config.cells := rfl
@[simp] theorem Store.allocate_free (st : Store) : (st.allocate).free = st.free - 1 := rfl
@[simp] theorem Store.allocate_inCell (st : Store) : (st.allocate).inCell = st.inCell := rfl
@[simp] theorem Store.allocate_outCell (st : Store) : (st.allocate).outCell = st.outCell := rfl
@[simp] theorem Store.allocate_queue (st : Store) : (st.allocate).queue = st.queue := rfl
@[simp] theorem Store.allocate_dir (st : Store) : (st.allocate).dir = st.dir := rfl
@[simp] theorem Store.allocate_nextNumber (st : Store) : (st.allocate).nextNumber = st.nextNumber := rfl
@[simp] theorem Store.allocate_playRead (st : Store) : (st.allocate).playRead = st.playRead := rfl
@[simp] theorem Store.allocate_printRead (st : Store) : (st.allocate).printRead = st.printRead := rfl
@[simp] theorem Store.allocate_punchRead (st : Store) : (st.allocate).punchRead = st.punchRead := rfl
@[simp] theorem Store.allocate_hostRead (st : Store) : (st.allocate).hostRead = st.hostRead := rfl
@[simp] theorem Store.push_memInit (w : CellWrite) (st : Store) : (st.push w).memInit = st.memInit := rfl
@[simp] theorem Store.push_selfRefresh (w : CellWrite) (st : Store) : (st.push w).selfRefresh = st.selfRefresh := rfl
@[simp] theorem Store.push_banks (w : CellWrite) (st : Store) : (st.push w).banks = st.banks := rfl
@[simp] theorem Store.push_debt (w : CellWrite) (st : Store) : (st.push w).debt = st.debt := rfl
@[simp] theorem Store.push_access (w : CellWrite) (st : Store) : (st.push w).access = st.access := rfl
@[simp] theorem Store.push_head (w : CellWrite) (st : Store) : (st.push w).head = st.head := rfl
@[simp] theorem Store.push_tail (w : CellWrite) (st : Store) : (st.push w).tail = st.tail := rfl
@[simp] theorem Store.push_free (w : CellWrite) (st : Store) : (st.push w).free = st.free := rfl
@[simp] theorem Store.push_inCell (w : CellWrite) (st : Store) : (st.push w).inCell = st.inCell := rfl
@[simp] theorem Store.push_outCell (w : CellWrite) (st : Store) : (st.push w).outCell = st.outCell := rfl
@[simp] theorem Store.push_queue (w : CellWrite) (st : Store) : (st.push w).queue = st.queue ++ [w] := rfl
@[simp] theorem Store.push_dir (w : CellWrite) (st : Store) : (st.push w).dir = st.dir := rfl
@[simp] theorem Store.push_nextNumber (w : CellWrite) (st : Store) : (st.push w).nextNumber = st.nextNumber := rfl
@[simp] theorem Store.push_playRead (w : CellWrite) (st : Store) : (st.push w).playRead = st.playRead := rfl
@[simp] theorem Store.push_printRead (w : CellWrite) (st : Store) : (st.push w).printRead = st.printRead := rfl
@[simp] theorem Store.push_punchRead (w : CellWrite) (st : Store) : (st.push w).punchRead = st.punchRead := rfl
@[simp] theorem Store.push_hostRead (w : CellWrite) (st : Store) : (st.push w).hostRead = st.hostRead := rfl
@[simp] theorem Store.modify_memInit (n : Nat) (f : Entry → Entry) (st : Store) : (st.modify n f).memInit = st.memInit := rfl
@[simp] theorem Store.modify_selfRefresh (n : Nat) (f : Entry → Entry) (st : Store) :
    (st.modify n f).selfRefresh = st.selfRefresh := rfl
@[simp] theorem Store.modify_banks (n : Nat) (f : Entry → Entry) (st : Store) : (st.modify n f).banks = st.banks := rfl
@[simp] theorem Store.modify_debt (n : Nat) (f : Entry → Entry) (st : Store) : (st.modify n f).debt = st.debt := rfl
@[simp] theorem Store.modify_access (n : Nat) (f : Entry → Entry) (st : Store) : (st.modify n f).access = st.access := rfl
@[simp] theorem Store.modify_head (n : Nat) (f : Entry → Entry) (st : Store) : (st.modify n f).head = st.head := rfl
@[simp] theorem Store.modify_tail (n : Nat) (f : Entry → Entry) (st : Store) : (st.modify n f).tail = st.tail := rfl
@[simp] theorem Store.modify_free (n : Nat) (f : Entry → Entry) (st : Store) : (st.modify n f).free = st.free := rfl
@[simp] theorem Store.modify_inCell (n : Nat) (f : Entry → Entry) (st : Store) : (st.modify n f).inCell = st.inCell := rfl
@[simp] theorem Store.modify_outCell (n : Nat) (f : Entry → Entry) (st : Store) : (st.modify n f).outCell = st.outCell := rfl
@[simp] theorem Store.modify_queue (n : Nat) (f : Entry → Entry) (st : Store) : (st.modify n f).queue = st.queue := rfl
@[simp] theorem Store.modify_dir (n : Nat) (f : Entry → Entry) (st : Store) :
    (st.modify n f).dir = st.dir.map fun e => if e.number = n then f e else e := rfl
@[simp] theorem Store.modify_nextNumber (n : Nat) (f : Entry → Entry) (st : Store) :
    (st.modify n f).nextNumber = st.nextNumber := rfl
@[simp] theorem Store.modify_playRead (n : Nat) (f : Entry → Entry) (st : Store) :
    (st.modify n f).playRead = st.playRead := rfl
@[simp] theorem Store.modify_printRead (n : Nat) (f : Entry → Entry) (st : Store) :
    (st.modify n f).printRead = st.printRead := rfl
@[simp] theorem Store.modify_punchRead (n : Nat) (f : Entry → Entry) (st : Store) :
    (st.modify n f).punchRead = st.punchRead := rfl
@[simp] theorem Store.modify_hostRead (n : Nat) (f : Entry → Entry) (st : Store) :
    (st.modify n f).hostRead = st.hostRead := rfl
@[simp] theorem Store.toSelfRefresh_memInit (st : Store) : (st.toSelfRefresh).memInit = st.memInit := rfl
@[simp] theorem Store.toSelfRefresh_selfRefresh (st : Store) : (st.toSelfRefresh).selfRefresh = true := rfl
@[simp] theorem Store.toSelfRefresh_banks (st : Store) : (st.toSelfRefresh).banks = Vector.replicate 4 .closed := rfl
@[simp] theorem Store.toSelfRefresh_debt (st : Store) : (st.toSelfRefresh).debt = 0 := rfl
@[simp] theorem Store.toSelfRefresh_access (st : Store) : (st.toSelfRefresh).access = none := rfl
@[simp] theorem Store.toSelfRefresh_head (st : Store) : (st.toSelfRefresh).head = st.head := rfl
@[simp] theorem Store.toSelfRefresh_tail (st : Store) : (st.toSelfRefresh).tail = st.tail := rfl
@[simp] theorem Store.toSelfRefresh_free (st : Store) : (st.toSelfRefresh).free = st.free := rfl
@[simp] theorem Store.toSelfRefresh_inCell (st : Store) : (st.toSelfRefresh).inCell = st.inCell := rfl
@[simp] theorem Store.toSelfRefresh_outCell (st : Store) : (st.toSelfRefresh).outCell = st.outCell := rfl
@[simp] theorem Store.toSelfRefresh_queue (st : Store) : (st.toSelfRefresh).queue = st.queue := rfl
@[simp] theorem Store.toSelfRefresh_dir (st : Store) : (st.toSelfRefresh).dir = st.dir := rfl
@[simp] theorem Store.toSelfRefresh_nextNumber (st : Store) : (st.toSelfRefresh).nextNumber = st.nextNumber := rfl
@[simp] theorem Store.toSelfRefresh_playRead (st : Store) : (st.toSelfRefresh).playRead = st.playRead := rfl
@[simp] theorem Store.toSelfRefresh_printRead (st : Store) : (st.toSelfRefresh).printRead = st.printRead := rfl
@[simp] theorem Store.toSelfRefresh_punchRead (st : Store) : (st.toSelfRefresh).punchRead = st.punchRead := rfl
@[simp] theorem Store.toSelfRefresh_hostRead (st : Store) : (st.toSelfRefresh).hostRead = st.hostRead := rfl
@[simp] theorem Store.leaveOpen_memInit (c : Nat) (st : Store) : (st.leaveOpen c).memInit = st.memInit := rfl
@[simp] theorem Store.leaveOpen_selfRefresh (c : Nat) (st : Store) : (st.leaveOpen c).selfRefresh = st.selfRefresh := rfl
@[simp] theorem Store.leaveOpen_banks (c : Nat) (st : Store) :
    (st.leaveOpen c).banks = st.banks.set (cellBank c) (.open (cellRow c)) := rfl
@[simp] theorem Store.leaveOpen_debt (c : Nat) (st : Store) : (st.leaveOpen c).debt = st.debt := rfl
@[simp] theorem Store.leaveOpen_access (c : Nat) (st : Store) : (st.leaveOpen c).access = st.access := rfl
@[simp] theorem Store.leaveOpen_head (c : Nat) (st : Store) : (st.leaveOpen c).head = st.head := rfl
@[simp] theorem Store.leaveOpen_tail (c : Nat) (st : Store) : (st.leaveOpen c).tail = st.tail := rfl
@[simp] theorem Store.leaveOpen_free (c : Nat) (st : Store) : (st.leaveOpen c).free = st.free := rfl
@[simp] theorem Store.leaveOpen_inCell (c : Nat) (st : Store) : (st.leaveOpen c).inCell = st.inCell := rfl
@[simp] theorem Store.leaveOpen_outCell (c : Nat) (st : Store) : (st.leaveOpen c).outCell = st.outCell := rfl
@[simp] theorem Store.leaveOpen_queue (c : Nat) (st : Store) : (st.leaveOpen c).queue = st.queue := rfl
@[simp] theorem Store.leaveOpen_dir (c : Nat) (st : Store) : (st.leaveOpen c).dir = st.dir := rfl
@[simp] theorem Store.leaveOpen_nextNumber (c : Nat) (st : Store) : (st.leaveOpen c).nextNumber = st.nextNumber := rfl
@[simp] theorem Store.leaveOpen_playRead (c : Nat) (st : Store) : (st.leaveOpen c).playRead = st.playRead := rfl
@[simp] theorem Store.leaveOpen_printRead (c : Nat) (st : Store) : (st.leaveOpen c).printRead = st.printRead := rfl
@[simp] theorem Store.leaveOpen_punchRead (c : Nat) (st : Store) : (st.leaveOpen c).punchRead = st.punchRead := rfl
@[simp] theorem Store.leaveOpen_hostRead (c : Nat) (st : Store) : (st.leaveOpen c).hostRead = st.hostRead := rfl

end Sys2Proof.Machine
end

