-- ==== Sys2Proof/Laws/Store.lean ====
section
/-! SUPPORT. What the store's operations can do: the write queue stays within its four places, a reclaim only removes, an opening
appends one entry, and the cursors stay within the lengths (R167 to R180). -/

namespace Sys2Proof.Machine

/-! ### The write queue (R168, R169) -/

/-- An assembly cell that asks for a place gets one or waits; the queue grows by its cell or not at all. -/
theorem leave_queue (d : Dir) (st : Store) :
    (st.placeFree d = true ∧ (st.leave d).queue = st.queue ++ [(st.asm d).write])
      ∨ (st.placeFree d = false ∧ (st.leave d).queue = st.queue) := by
  unfold Store.leave
  cases h : st.placeFree d <;> cases d <;> simp [Store.setAsm]

/-- A free place is one of four. -/
theorem placeFree_length {d : Dir} {st : Store} (h : st.placeFree d = true) : st.queue.length < 4 := by
  cases d
  · exact of_decide_eq_true h
  · have h1 : st.queue.length + bit (decide (st.inCell.state = .waiting)) < 4 := of_decide_eq_true h
    omega

/-- Asking for a place keeps the queue within four cells. -/
theorem leave_bound {d : Dir} {st : Store} (h : st.queue.length ≤ 4) : (st.leave d).queue.length ≤ 4 := by
  rcases leave_queue d st with ⟨h1, h2⟩ | ⟨_, h2⟩
  · have := placeFree_length h1
    rw [h2]
    simp
    omega
  · rw [h2]
    exact h

/-- The fields of the store that asking for a place leaves as they are. -/
theorem leave_frame (d : Dir) (st : Store) :
    (st.leave d).dir = st.dir ∧ (st.leave d).tail = st.tail ∧ (st.leave d).free = st.free ∧ (st.leave d).head = st.head
      ∧ (st.leave d).nextNumber = st.nextNumber ∧ (st.leave d).access = st.access ∧ (st.leave d).debt = st.debt
      ∧ (st.leave d).banks = st.banks ∧ (st.leave d).hostRead = st.hostRead := by
  unfold Store.leave
  cases st.placeFree d <;> cases d <;> simp [Store.setAsm]

/-- Placing a character lengthens its message by one and nothing else of the directory. -/
theorem place_dir (d : Dir) (a : Asm) (e : Entry) (c : StationCode) (st : Store) :
    (st.place d a e c).dir = st.dir.map fun x => if x.number = e.number then { x with length := x.length + 1 } else x := by
  unfold Store.place
  dsimp only
  split
  · rw [(leave_frame d _).1]
    cases d <;> simp [Store.setAsm]
  · cases d <;> simp [Store.setAsm]

/-- Placing a character keeps the queue within four cells. -/
theorem place_bound {d : Dir} {a : Asm} {e : Entry} {c : StationCode} {st : Store} (h : st.queue.length ≤ 4) :
    (st.place d a e c).queue.length ≤ 4 := by
  unfold Store.place
  dsimp only
  split
  · refine leave_bound ?_
    cases d <;> simpa [Store.setAsm] using h
  · cases d <;> simpa [Store.setAsm] using h

/-- Storing a character changes the directory only by lengthening the message it is stored in. -/
theorem storeChar_dir (d : Dir) (e : Entry) (c : StationCode) (st : Store) :
    (st.storeChar d e c).1.dir = st.dir
      ∨ (st.storeChar d e c).1.dir
        = st.dir.map fun x => if x.number = e.number then { x with length := x.length + 1 } else x := by
  unfold Store.storeChar
  split
  · exact Or.inl rfl
  · split
    · exact Or.inr (place_dir _ _ _ _ _)
    · exact Or.inl rfl
  · split
    · exact Or.inl rfl
    · exact Or.inr (place_dir _ _ _ _ _)

/-- Storing a character keeps the queue within four cells. -/
theorem storeChar_bound {d : Dir} {e : Entry} {c : StationCode} {st : Store} (h : st.queue.length ≤ 4) :
    (st.storeChar d e c).1.queue.length ≤ 4 := by
  unfold Store.storeChar
  split
  · exact h
  · split
    · exact place_bound h
    · exact h
  · split
    · exact h
    · exact place_bound h

/-! ### Release and reclaim (R178, R180) -/

/-- What is left of the write queue when cells are freed is part of it. -/
theorem withoutFreed_sublist (e : Entry) (st : Store) : (st.withoutFreed e).Sublist st.queue := by
  unfold Store.withoutFreed
  split
  · exact List.nil_sublist _
  · rename_i w ws h
    rw [h]
    split
    · exact (List.filter_sublist).cons_cons w
    · exact (List.filter_sublist).cons w

/-- A reclaim removes entries and cell writes, frees cells, and leaves the rest. -/
theorem reclaim_frame (n : Nat) (st : Store) :
    (Store.reclaim n st).dir.Sublist st.dir ∧ (Store.reclaim n st).queue.Sublist st.queue
      ∧ st.free ≤ (Store.reclaim n st).free ∧ (Store.reclaim n st).tail = st.tail
      ∧ (Store.reclaim n st).nextNumber = st.nextNumber ∧ (Store.reclaim n st).inCell = st.inCell
      ∧ (Store.reclaim n st).outCell = st.outCell ∧ (Store.reclaim n st).access = st.access
      ∧ (Store.reclaim n st).debt = st.debt ∧ (Store.reclaim n st).banks = st.banks
      ∧ (Store.reclaim n st).memInit = st.memInit ∧ (Store.reclaim n st).selfRefresh = st.selfRefresh
      ∧ (Store.reclaim n st).playRead = st.playRead ∧ (Store.reclaim n st).printRead = st.printRead
      ∧ (Store.reclaim n st).punchRead = st.punchRead ∧ (Store.reclaim n st).hostRead = st.hostRead := by
  induction n generalizing st with
  | zero => simp [Store.reclaim]
  | succ n ih =>
    simp only [Store.reclaim]
    split
    · simp
    · rename_i e rest hd
      split
      · obtain ⟨h1, h2, h3, h4⟩ := ih (st.freeOldest e rest)
        refine ⟨h1.trans ?_, h2.trans (withoutFreed_sublist e st), Nat.le_trans ?_ h3, h4⟩
        · rw [hd]
          exact List.sublist_cons_self e rest
        · simp [Store.freeOldest]
      · simp

/-- A reclaim with fuel for every entry leaves no RELEASED entry at the head (R180). -/
theorem reclaim_head {n : Nat} {st : Store} (h : st.dir.length ≤ n) :
    ∀ e, (Store.reclaim n st).dir.head? = some e → e.state ≠ .released := by
  induction n generalizing st with
  | zero =>
    intro e he
    have : st.dir = [] := List.eq_nil_of_length_eq_zero (by omega)
    simp [Store.reclaim, this] at he
  | succ n ih =>
    simp only [Store.reclaim]
    split
    · rename_i hd
      intro e he
      simp [hd] at he
    · rename_i e rest hd
      split
      · exact ih (by simp [Store.freeOldest]; rw [hd] at h; simp at h; exact h)
      · rename_i hr
        intro x hx
        rw [hd] at hx
        simp at hx
        subst hx
        exact hr

/-! ### Openings (R172) -/

/-- An opening appends one entry, with the number it answers and the cell at the tail, and leaves the entries before it. -/
theorem openEntry_dir (d : Dir) (rate : Option Rate) (q : Nat) (st : Store) :
    ∃ e : Entry, (st.openEntry d rate q).1.dir = st.dir ++ [e] ∧ e.number = (st.openEntry d rate q).2 ∧ e.dir = d
      ∧ e.state = .open ∧ e.header = st.tail ∧ e.length = 0 ∧ e.cursorsOk := by
  refine ⟨_, rfl, rfl, rfl, rfl, rfl, rfl, ?_⟩
  simp [Entry.cursorsOk]

/-! ### Cursors (R171) -/

/-- A change of entries that keeps their cursors within their lengths keeps the directory's. -/
theorem modify_cursors {n : Nat} {f : Entry → Entry} {st : Store} (h : st.cursorInv)
    (hf : ∀ e : Entry, e.cursorsOk → (f e).cursorsOk) : (st.modify n f).cursorInv := by
  intro e he
  simp only [Store.modify, List.mem_map] at he
  obtain ⟨x, hx, rfl⟩ := he
  split
  · exact hf x (h x hx)
  · exact h x hx

/-- The print cursor is raised within the length. -/
theorem raisePrint_ok (v : Nat) {e : Entry} (h : e.cursorsOk) : (e.raisePrint v).cursorsOk := by
  obtain ⟨h1, h2, h3, h4⟩ := h
  unfold Entry.raisePrint
  dsimp only
  split <;> exact ⟨Nat.min_le_left _ _, h2, h3, h4⟩

/-- A release keeps the cursors within the lengths. -/
theorem release_cursors {n : Nat} {st : Store} (h : st.cursorInv) : (st.release n).cursorInv := by
  intro e he
  unfold Store.release at he
  dsimp only at he
  exact modify_cursors (n := n) (f := fun e => { e with state := .released, headerDue := true }) h (fun e he => he) e
    ((reclaim_frame _ _).1.subset he)

/-! ### The punch's settings (R136) -/

/-- The settings of the punch and its judgement of the tape. -/
def Punch.settings (p : Punch) : Nat × Nat × Nat × Nat × Bool := (p.onTimeReq, p.onTime, p.defLeader, p.defTrailer, p.tapeLow)

/-- Reads leave the settings. -/
theorem punchReads_settings (n : Nat) (s : State) : (punchReads n s).pu.settings = s.pu.settings := by
  induction n generalizing s with
  | zero => rfl
  | succ n ih =>
    simp only [punchReads]
    split
    · rfl
    · split
      · rw [ih]
        simp only [Punch.served]
        split <;> rfl
      · rfl

/-- Settling leaves the settings, the cycle in progress and the codes held. -/
theorem punchSettle_settings (s : State) : (punchSettle s).pu.settings = s.pu.settings := by
  have h1 : ∀ t : State, (finishJob t).pu.settings = t.pu.settings := by
    intro t
    unfold finishJob
    split
    · split
      · split
        · unfold endPunchJob
          split
          · rfl
          · dsimp only
            split <;> simp [enterTapeHold, Punch.settings]
        · rfl
      · rfl
    · split
      · unfold endPunchJob
        split
        · rfl
        · dsimp only
          split <;> simp [enterTapeHold, Punch.settings]
      · rfl
    · rfl
  unfold punchSettle
  split
  · rfl
  · dsimp only
    split
    · rw [h1, punchReads_settings]
    · exact (show (finishJob (punchReads 32 s)).pu.settings = s.pu.settings by rw [h1, punchReads_settings])

end Sys2Proof.Machine
end

