-- ==== Sys2Proof/Laws/Layout.lean ====
section
/-! SUPPORT. The order of the ring and the directory: what an opening, a release and a changed entry keep of it, and the numbers
of messages (R167, R170, R172, R178, R180). -/

namespace Sys2Proof.Machine

/-! ### The ring (R167) -/

/-- A change of entries that leaves their header cells and lengths leaves them laid out. -/
theorem laidOut_map {t h : Nat} {es : List Entry} {f : Entry → Entry}
    (hf : ∀ e ∈ es, (f e).header = e.header ∧ (f e).length = e.length) : laidOut t h (es.map f) ↔ laidOut t h es := by
  induction es generalizing h with
  | nil => rfl
  | cons e rest ih =>
    have h1 := hf e (List.mem_cons_self ..)
    have h2 : (f e).cells = e.cells := by simp [Entry.cells, h1.2]
    simp only [List.map_cons, laidOut, h1.1, h2, ih fun x hx => hf x (List.mem_cons_of_mem _ hx)]

/-- Entries laid out one list after another. -/
theorem laidOut_append {t h : Nat} {es fs : List Entry} :
    laidOut t h (es ++ fs) ↔ ∃ m, laidOut m h es ∧ laidOut t m fs := by
  induction es generalizing h with
  | nil => simp [laidOut]
  | cons e rest ih =>
    simp only [List.cons_append, laidOut, ih]
    constructor
    · rintro ⟨h1, m, h2, h3⟩
      exact ⟨m, ⟨h1, h2⟩, h3⟩
    · rintro ⟨m, ⟨h1, h2⟩, h3⟩
      exact ⟨h1, m, h2, h3⟩

/-- The tail follows from the head and the entries. -/
theorem laidOut_tail_lt {t h : Nat} {es : List Entry} (hh : h < Config.cells) (hl : laidOut t h es) : t < Config.cells := by
  induction es generalizing h with
  | nil => exact hl ▸ hh
  | cons e rest ih => exact ih (Nat.mod_lt _ (by decide)) hl.2

/-- The cells are accounted for and the entries laid out; the oldest may be RELEASED. -/
def Store.ringKept (st : Store) : Prop :=
  st.free + (st.dir.map Entry.cells).sum = Config.cells ∧ st.head < Config.cells ∧ laidOut st.tail st.head st.dir

/-- The cells of the oldest entry go back to free. -/
theorem freeOldest_ringKept {e : Entry} {rest : List Entry} {st : Store} (hd : st.dir = e :: rest) (h : st.ringKept) :
    (st.freeOldest e rest).ringKept := by
  obtain ⟨h1, h2, h3⟩ := h
  rw [hd] at h1 h3
  refine ⟨?_, Nat.mod_lt _ (by decide), h3.2⟩
  simp only [Store.freeOldest, List.map_cons, List.sum_cons] at h1 ⊢
  omega

/-- A reclaim keeps the ring. -/
theorem reclaim_ringKept (n : Nat) {st : Store} (h : st.ringKept) : (Store.reclaim n st).ringKept := by
  induction n generalizing st with
  | zero => exact h
  | succ n ih =>
    unfold Store.reclaim
    split
    · exact h
    · rename_i e rest hd
      split
      · exact ih (freeOldest_ringKept hd h)
      · exact h

/-- A changed entry keeps the ring when its header cell and length stay. -/
theorem modify_ringKept {n : Nat} {f : Entry → Entry} {st : Store}
    (hf : ∀ e, (f e).header = e.header ∧ (f e).length = e.length) (h : st.ringKept) : (st.modify n f).ringKept := by
  have hg : ∀ e, (if e.number = n then f e else e).header = e.header ∧ (if e.number = n then f e else e).length = e.length := by
    intro e
    split
    · exact hf e
    · exact ⟨rfl, rfl⟩
  obtain ⟨h1, h2, h3⟩ := h
  refine ⟨?_, h2, (laidOut_map fun e _ => hg e).2 h3⟩
  rw [← h1]
  simp only [Store.modify, List.map_map]
  congr 2
  exact List.map_congr_left fun e _ => by simp [Entry.cells, (hg e).2]

/-- A release keeps the ring, and leaves no RELEASED entry at the head (R178, R180). -/
theorem release_ringInv {n : Nat} {st : Store} (h : st.ringInv) : (st.release n).ringInv := by
  have h1 : st.ringKept := ⟨h.1, h.2.1, h.2.2.1⟩
  have h2 := reclaim_ringKept (st.modify n fun e => { e with state := .released, headerDue := true }).dir.length
    (modify_ringKept (n := n) (f := fun e => { e with state := .released, headerDue := true }) (fun _ => ⟨rfl, rfl⟩) h1)
  exact ⟨h2.1, h2.2.1, h2.2.2, reclaim_head (Nat.le_refl _)⟩

/-- An entry with no text has its header cell alone. -/
theorem cells_empty {e : Entry} (h : e.length = 0) : e.cells = 1 := by simp [Entry.cells, bodyCells, h]

/-- An opening keeps the ring while a cell is free (R172). -/
theorem openEntry_ringInv {d : Dir} {rate : Option Rate} {q : Nat} {st : Store} (hf : 1 ≤ st.free) (h : st.ringInv) :
    (st.openEntry d rate q).1.ringInv := by
  obtain ⟨h1, h2, h3, h4⟩ := h
  refine ⟨?_, h2, laidOut_append.2 ⟨st.tail, h3, rfl, ?_⟩, ?_⟩
  · have : (st.openEntry d rate q).1.free = st.free - 1 := rfl
    have h5 : ((st.openEntry d rate q).1.dir.map Entry.cells).sum = (st.dir.map Entry.cells).sum + 1 := by
      simp only [Store.openEntry, List.map_append, List.sum_append, List.map_cons, List.map_nil, List.sum_cons, List.sum_nil]
      rw [cells_empty rfl, Nat.add_zero]
    omega
  · simp only [laidOut, Store.openEntry, Store.allocate]
    rw [cells_empty rfl]
  · intro e he
    cases hd : st.dir with
    | nil =>
      simp only [Store.openEntry, Store.allocate, hd, List.nil_append, List.head?_cons, Option.some.injEq] at he
      subst he
      exact nofun
    | cons x rest =>
      simp only [Store.openEntry, Store.allocate, hd, List.cons_append, List.head?_cons] at he
      exact h4 e (by rw [hd]; exact he)

/-! ### The numbers of messages (R170) -/

/-- The number after a number of the range lies in the range. -/
theorem succNumber_range {n : Nat} (h : 1 ≤ n) : 1 ≤ succNumber n ∧ succNumber n ≤ 65535 := by
  unfold succNumber
  split
  · decide
  · omega

/-- The numbers after a number, counted, are those of the chain of successors. -/
theorem numberAfter_succ {n k : Nat} (h : 1 ≤ n) (h1 : n ≤ 65535) : numberAfter (succNumber n) k = numberAfter n (k + 1) := by
  unfold numberAfter succNumber
  split <;> omega

/-- The number an opening takes lies in the range. -/
theorem freshNumber_range (fuel : Nat) {n : Nat} {st : Store} (h : 1 ≤ n) (h1 : n ≤ 65535) :
    1 ≤ st.freshNumber fuel n ∧ st.freshNumber fuel n ≤ 65535 := by
  induction fuel generalizing n with
  | zero => exact ⟨h, h1⟩
  | succ fuel ih =>
    unfold Store.freshNumber
    split
    · exact ih (succNumber_range h).1 (succNumber_range h).2
    · exact ⟨h, h1⟩

/-- The number an opening takes is one of those that follow, and each before it is held; it is not held itself unless the fuel
ran out. -/
theorem freshNumber_spec (fuel : Nat) {n : Nat} {st : Store} (h : 1 ≤ n) (h1 : n ≤ 65535) :
    ∃ k, k ≤ fuel ∧ st.freshNumber fuel n = numberAfter n k ∧ (∀ j, j < k → (st.entry? (numberAfter n j)).isSome = true)
      ∧ (k < fuel → st.entry? (numberAfter n k) = none) := by
  induction fuel generalizing n with
  | zero => exact ⟨0, Nat.le_refl _, by simp only [Store.freshNumber, numberAfter]; omega, by omega, by omega⟩
  | succ fuel ih =>
    have h0 : numberAfter n 0 = n := by unfold numberAfter; omega
    unfold Store.freshNumber
    split
    · rename_i hs
      obtain ⟨k, hk, he, hj, hn⟩ := ih (succNumber_range h).1 (succNumber_range h).2
      refine ⟨k + 1, by omega, ?_, ?_, ?_⟩
      · rw [he, numberAfter_succ h h1]
      · intro j hj1
        cases j with
        | zero => rwa [h0]
        | succ j => rw [← numberAfter_succ h h1]; exact hj j (by omega)
      · intro hlt
        rw [← numberAfter_succ h h1]
        exact hn (by omega)
    · rename_i hs
      refine ⟨0, by omega, h0.symm, by omega, fun _ => ?_⟩
      rw [h0]
      simpa using hs

/-! ### The assembly cells (R168) -/

/-- A store whose directory and assembly cells are as they were keeps the relation of the two. -/
theorem asmInv_congr {d : Dir} {st st1 : Store} (hd : st1.dir = st.dir) (ha : st1.asm d = st.asm d) :
    st1.asmInv d ↔ st.asmInv d := by
  simp only [Store.asmInv, ha, Store.open?, hd]

end Sys2Proof.Machine
end

