-- ==== Sys2Proof/Laws/Memory.lean ====
section
/-! SUPPORT. The DRAM as bytes: every write keeps the canonical form, and changes the byte it writes and no other (R161, R162). -/

namespace Sys2Proof.Machine.Memory

/-- A list in canonical form from an address on is so from any lower one. -/
theorem wfFrom_mono {lo lo1 : Nat} {m : List Host.Cell} (h : wfFrom lo1 m = true) (hlo : lo ≤ lo1) :
    wfFrom lo m = true := by
  cases m with
  | nil => rfl
  | cons c rest =>
    obtain ⟨a, v⟩ := c
    simp [wfFrom] at h ⊢
    exact ⟨⟨⟨by omega, h.1.1.2⟩, h.1.2⟩, h.2⟩

/-- The canonical form from an address on says that every lower address reads as blank. -/
theorem read_below {lo : Nat} {m : List Host.Cell} (h : wfFrom lo m = true) {a : Nat} (ha : a < lo) :
    read m a = blank := by
  induction m generalizing lo with
  | nil => rfl
  | cons c rest ih =>
    obtain ⟨b, v⟩ := c
    simp [wfFrom] at h
    have hb : b ≠ a := by omega
    simp [read, hb]
    exact ih h.2 (by omega)

/-- A write inside the device keeps the canonical form from any address at or below the one written. -/
theorem write_wfFrom {lo : Nat} {m : List Host.Cell} {a : Nat} {v : Byte} (h : wfFrom lo m = true) (hlo : lo ≤ a)
    (ha : a < size) : wfFrom lo (write m a v) = true := by
  induction m generalizing lo with
  | nil =>
    simp only [write]
    split
    · rfl
    · rename_i hv
      simp [wfFrom, hlo, ha, hv]
  | cons c rest ih =>
    obtain ⟨b, w⟩ := c
    simp [wfFrom] at h
    obtain ⟨⟨⟨h1, h2⟩, h3⟩, h4⟩ := h
    simp only [write]
    split
    · rename_i hab
      split
      · simp [wfFrom, h1, h2, h3, h4]
      · rename_i hv
        have hab2 : a + 1 ≤ b := hab
        simp [wfFrom, hlo, ha, hv, h2, h3, h4, hab2]
    · split
      · rename_i hab
        subst hab
        split
        · exact wfFrom_mono h4 (by omega)
        · rename_i hv
          simp [wfFrom, hlo, ha, hv, h4]
      · have hba : b + 1 ≤ a := by omega
        simp [wfFrom, h1, h2, h3, ih h4 hba]

/-- A write inside the device keeps the canonical form. -/
theorem write_wf {m : List Host.Cell} {a : Nat} {v : Byte} (h : wf m = true) (ha : a < size) : wf (write m a v) = true :=
  write_wfFrom h (Nat.zero_le a) ha

/-- A write inside the device of several bytes keeps the canonical form. -/
theorem writeBytes_wf {bs : List Byte} {m : List Host.Cell} {a : Nat} (h : wf m = true) (ha : a + bs.length ≤ size) :
    wf (writeBytes m a bs) = true := by
  induction bs generalizing m a with
  | nil => exact h
  | cons b rest ih =>
    simp only [List.length_cons] at ha
    exact ih (write_wf h (by omega)) (by omega)

/-- What an address reads as after a write, from any address on below which nothing is listed. -/
theorem read_write_from {lo : Nat} {m : List Host.Cell} (a b : Nat) (v : Byte) (h : wfFrom lo m = true) :
    read (write m a v) b = if b = a then v else read m b := by
  induction m generalizing lo with
  | nil =>
    simp only [write]
    by_cases hb : b = a
    · subst hb
      split <;> simp_all [read]
    · have hba : a ≠ b := fun x => hb x.symm
      split <;> simp [read, hba]
  | cons c rest ih =>
    obtain ⟨k, w⟩ := c
    simp [wfFrom] at h
    obtain ⟨⟨⟨h1, h2⟩, h3⟩, h4⟩ := h
    simp only [write]
    split
    · rename_i hak
      by_cases hb : b = a
      · subst hb
        split
        · rename_i hv
          have hkb : k ≠ b := by omega
          simp [read, hkb, hv]
          exact read_below h4 (by omega)
        · simp [read]
      · have hab : a ≠ b := fun x => hb x.symm
        split <;> simp [read, hab]
    · split
      · rename_i hak
        subst hak
        by_cases hb : b = a
        · subst hb
          split
          · rename_i hv
            simp only [if_true]
            rw [hv]
            exact read_below h4 (by omega)
          · simp [read]
        · have hab : a ≠ b := fun x => hb x.symm
          split <;> simp [read, hab]
      · rename_i hak hne
        by_cases hk : k = b
        · subst hk
          have : k ≠ a := fun x => hne x.symm
          simp [read, this]
        · simp [read, hk, ih h4]

/-- A write changes the byte at its address and no other. -/
theorem read_write {m : List Host.Cell} (a b : Nat) (v : Byte) (h : wf m = true) :
    read (write m a v) b = if b = a then v else read m b := read_write_from a b v h

/-- A write of several bytes changes no byte outside them. -/
theorem read_writeBytes_outside {bs : List Byte} {m : List Host.Cell} {a b : Nat} (h : wf m = true)
    (ha : a + bs.length ≤ size) (hb : b < a ∨ a + bs.length ≤ b) : read (writeBytes m a bs) b = read m b := by
  induction bs generalizing m a with
  | nil => rfl
  | cons v rest ih =>
    simp only [List.length_cons] at ha hb
    have hw : wf (write m a v) = true := write_wf h (by omega)
    simp only [writeBytes]
    rw [ih hw (by omega) (by omega), read_write a b v h, if_neg (by omega)]

/-- A write of several bytes puts each at its place. -/
theorem read_writeBytes_inside {bs : List Byte} {m : List Host.Cell} {a i : Nat} {v : Byte} (h : wf m = true)
    (ha : a + bs.length ≤ size) (hv : bs[i]? = some v) : read (writeBytes m a bs) (a + i) = v := by
  induction bs generalizing m a i with
  | nil => simp at hv
  | cons w rest ih =>
    simp only [List.length_cons] at ha
    have hw : wf (write m a w) = true := write_wf h (by omega)
    simp only [writeBytes]
    cases i with
    | zero =>
      simp at hv
      rw [read_writeBytes_outside hw (by omega) (by omega)]
      subst hv
      exact (read_write a a w h).trans (if_pos rfl)
    | succ j =>
      simp at hv
      have := ih (a := a + 1) (i := j) hw (by omega) hv
      rw [show a + (j + 1) = a + 1 + j by omega]
      exact this

/-- Empty memory is in canonical form, and it is the memory after power-on. -/
theorem reset_wf : wf State.reset.mem = true := rfl

end Sys2Proof.Machine.Memory
end

