-- ==== Sys2Proof/Laws/Operands.lean ====
section
/-! SUPPORT. The bytes of fields, one lemma for each width, and the lengths of the records that are made of them. -/

namespace Sys2Proof.Machine

/-- A one-byte field in front of other bytes. -/
theorem put1_append (n : Nat) (l : List Byte) : put1 n ++ l = BitVec.ofNat 8 n :: l := rfl

/-- A two-byte field in front of other bytes. -/
theorem put2_append (n : Nat) (l : List Byte) : put2 n ++ l = BitVec.ofNat 8 (n / 256) :: BitVec.ofNat 8 n :: l := rfl

/-- A three-byte field in front of other bytes. -/
theorem put3_append (n : Nat) (l : List Byte) :
    put3 n ++ l = BitVec.ofNat 8 (n / 65536) :: BitVec.ofNat 8 (n / 256) :: BitVec.ofNat 8 n :: l := rfl

/-- One byte. -/
@[simp] theorem put1_length (n : Nat) : (put1 n).length = 1 := rfl

/-- Two bytes. -/
@[simp] theorem put2_length (n : Nat) : (put2 n).length = 2 := rfl

/-- Three bytes. -/
@[simp] theorem put3_length (n : Nat) : (put3 n).length = 3 := rfl

/-- A directory listing has 26 bytes (10 section 10.6). -/
theorem listing_length (e : Entry) : e.listing.length = 26 := by
  unfold Entry.listing
  simp only [List.length_append, put1_length, put2_length, put3_length]

/-- A header cell has 8 bytes (10 section 10.6). -/
theorem headerBytes_length (e : Entry) : e.headerBytes.length = 8 := by
  unfold Entry.headerBytes
  simp only [List.length_append, put1_length, put2_length, put3_length]

/-- The STATUS record has 32 bytes (10 section 10.6). -/
theorem statusRecord_length (s : State) : s.statusRecord.length = 32 := by
  unfold State.statusRecord
  simp only [List.length_append, put1_length, put2_length, put3_length]

/-- The call state is the first byte of the STATUS record. -/
theorem statusRecord_state (s : State) : s.statusRecord[0]? = some (BitVec.ofNat 8 s.call.state.number) := by
  unfold State.statusRecord
  simp only [List.append_assoc, put1_append, List.cons_append, List.getElem?_cons_zero]

/-- The latches are byte 6 of the STATUS record. -/
theorem statusRecord_latches (s : State) : s.statusRecord[6]? = some (BitVec.ofNat 8 s.latches.byte) := by
  unfold State.statusRecord
  simp only [List.append_assoc, put1_append, List.cons_append, List.getElem?_cons_zero, List.getElem?_cons_succ]

/-- The live flags are byte 7 of the STATUS record (R38). -/
theorem statusRecord_flags (s : State) :
    s.statusRecord[7]? = some (BitVec.ofNat 8 (bit s.rx.loopCurrent + 2 * bit s.rx.receiving)) := by
  unfold State.statusRecord
  simp only [List.append_assoc, put1_append, List.cons_append, List.getElem?_cons_zero, List.getElem?_cons_succ]

/-- The bytes of LINK-TEXT, SET-ANSWERBACK and the like that are station codes are as many as their codes. -/
theorem stationCodes?_length {body : List Byte} {codes : List StationCode} (h : stationCodes? body = some codes) :
    codes.length = body.length := by
  induction body generalizing codes with
  | nil => simp [stationCodes?] at h; subst h; rfl
  | cons b rest ih =>
    simp only [stationCodes?] at h
    split at h
    · rename_i c cs hc hcs
      simp only [Option.some.injEq] at h
      subst h
      simp [ih hcs]
    · simp at h

end Sys2Proof.Machine
end

