-- ==== Sys2Proof/WellFormed.lean ====
section
/-! DEFINITION. When a command is one that the part can meet: the checks on operands. -/

namespace Sys2Proof

/-- The body of a frame holds 0 to 240 bytes (10 section 10.1). -/
def bodyOk (body : List Byte) : Bool := decide (body.length ≤ 240)

/-- Key numbers run from 0 to 63 (R80); one to three readings come together, for three in a row settle a level (R81). -/
def keyOk (k : KeyReadings) : Bool := decide (k.key < 64) && decide (1 ≤ k.readings) && decide (k.readings ≤ 3)

/-- The three samples of a filtered transition agree (R18), and its date lies no later than the latest stop sample,
208 + 6 (R21). -/
def transitionOk (date : Nat) (s1 s2 s3 : Level) : Bool :=
  decide (date ≤ 214) && decide (s1 = s2) && decide (s2 = s3)

/-- The well-formed commands. -/
def Instr.wf : Instr → Bool
  | .powerOn => true
  | .setStation body => bodyOk body
  | .setLine body => bodyOk body
  | .loadCodeTable body => bodyOk body
  | .loadKeymap body => bodyOk body
  | .setAnswerback body => bodyOk body
  | .setEom body => bodyOk body
  | .setRoutes body => bodyOk body
  | .setPrinter body => bodyOk body
  | .setPunch body => bodyOk body
  | .answer body => bodyOk body
  | .call body => bodyOk body
  | .clear body => bodyOk body
  | .sendBreak body => bodyOk body
  | .sendAnswerback body => bodyOk body
  | .standby body => bodyOk body
  | .linkText body => bodyOk body
  | .playback body => bodyOk body
  | .playbackResume body => bodyOk body
  | .playbackCancel body => bodyOk body
  | .storeOpen body => bodyOk body
  | .storeAppend body => bodyOk body
  | .storeClose body => bodyOk body
  | .readMessage body => bodyOk body
  | .release body => bodyOk body
  | .listDirectory body => bodyOk body
  | .printMessage body => bodyOk body
  | .printerRestart body => bodyOk body
  | .punchMessage body => bodyOk body
  | .punchControlContinue body => bodyOk body
  | .punchControlCancel body => bodyOk body
  | .punchControlFeed body => bodyOk body
  | .status body => bodyOk body
  | .fetchReport body => bodyOk body
  | .resetStation body => bodyOk body
  | .frameReceived _ => true
  | .frameAbandoned => true
  | .linkFrameSent => true
  | .characterReceived => true
  | .breakThreshold => true
  | .clearThreshold => true
  | .loopCurrentLost => true
  | .ringAsserted => true
  | .ringAbsent => true
  | .ringQualified => true
  | .ringLockoutClear => true
  | .answerWaitExpiry => true
  | .loopCurrentPresent => true
  | .loopTimerExpiry => true
  | .agreementTimer3s => true
  | .agreementTimer7s => true
  | .idleClearExpiry => true
  | .standbyAfterExpiry => true
  | .breakSignalEnd => true
  | .clearSignalComplete => true
  | .clearingLossCount => true
  | .sentPoint => true
  | .frontStopEnd => true
  | .arbiterFill => true
  | .holdingSourceTake _ => true
  | .lostMarkJoin => true
  | .keyDown keys => keyOk keys
  | .keyUp keys => keyOk keys
  | .repeatTimerExpiry => true
  | .freshStartScan _ => true
  | .wakeEvent _ => true
  | .wakeComplete => true
  | .motorStart => true
  | .motorReady => true
  | .motorStartTimeout => true
  | .motorReadyDrop => true
  | .motorOffTimerExpiry => true
  | .printerTake => true
  | .printCycleEnd => true
  | .encoderPulse => true
  | .stepTimeout => true
  | .returnComplete => true
  | .returnTimeout => true
  | .lineFeedComplete => true
  | .bellPulseEnd => true
  | .paperOut => true
  | .paperBack => true
  | .punchTakeEntry => true
  | .punchCycleEnd => true
  | .punchJobStart => true
  | .tapeLowAsserted => true
  | .tapeLowClear => true
  | .refreshTimer => true
  | .memoryInitComplete => true
  | .dramGrant => true
  | .dramAccessComplete => true
  | .writeQueueClaim => true
  | .writeThrough => true
  | .filteredTransition date s1 s2 s3 => transitionOk date s1 s2 s3
  | .startUnitCheck => true
  | .linkByteReceived _ => true
  | .rightwardStep => true

end Sys2Proof
end

