-- ==== Sys2Proof/Laws/PerInstr.lean ====
section
/-! SUPPORT. What the well-formedness check says of each command: a request's body fits a frame and its KIND is in the catalogue,
keys, their readings and transitions are in range, and every other command is well formed. -/

namespace Sys2Proof.Laws.WfChecks

open Sys2Proof Sys2Proof.Machine

/-- What the check says of a command (R18, R21, R80, 10 section 10.1). -/
def Statement (i : Instr) : Prop :=
  (∀ k b, request? i = some (k, b) → (i.wf = true ↔ b.length ≤ 240) ∧ requestKinds.contains k = true)
    ∧ (request? i = none → (∀ key n, i ≠ .keyDown ⟨key, n⟩ ∧ i ≠ .keyUp ⟨key, n⟩) →
        (∀ date s1 s2 s3, i ≠ .filteredTransition date s1 s2 s3) → i.wf = true)
    ∧ (∀ key n, i = .keyDown ⟨key, n⟩ ∨ i = .keyUp ⟨key, n⟩ → (i.wf = true ↔ key < 64 ∧ 1 ≤ n ∧ n ≤ 3))
    ∧ ∀ date s1 s2 s3, i = .filteredTransition date s1 s2 s3 → (i.wf = true ↔ date ≤ 214 ∧ s1 = s2 ∧ s2 = s3)

/-- Every request's check is the length of its body. -/
theorem request (i : Instr) (k : Byte) (b : List Byte) (hr : request? i = some (k, b)) (hw : i.wf = bodyOk b)
    (hk : requestKinds.contains k = true) (h1 : ∀ key n, i ≠ .keyDown ⟨key, n⟩ ∧ i ≠ .keyUp ⟨key, n⟩)
    (h2 : ∀ date s1 s2 s3, i ≠ .filteredTransition date s1 s2 s3) : Statement i := by
  refine ⟨?_, ?_, ?_, ?_⟩
  · intro k1 b1 h
    rw [hr] at h
    simp only [Option.some.injEq, Prod.mk.injEq] at h
    obtain ⟨rfl, rfl⟩ := h
    exact ⟨by simp [hw, bodyOk], hk⟩
  · intro h
    rw [hr] at h
    simp at h
  · intro key n h
    rcases h with h | h
    · exact absurd h (h1 key n).1
    · exact absurd h (h1 key n).2
  · intro date s1 s2 s3 h
    exact absurd h (h2 date s1 s2 s3)

/-- Every event but those of keys and transitions is well formed. -/
theorem event (i : Instr) (hr : request? i = none) (hw : i.wf = true) (h1 : ∀ key n, i ≠ .keyDown ⟨key, n⟩ ∧ i ≠ .keyUp ⟨key, n⟩)
    (h2 : ∀ date s1 s2 s3, i ≠ .filteredTransition date s1 s2 s3) : Statement i := by
  refine ⟨?_, fun _ _ _ => hw, ?_, ?_⟩
  · intro k b h
    rw [hr] at h
    simp at h
  · intro key n h
    rcases h with h | h
    · exact absurd h (h1 key n).1
    · exact absurd h (h1 key n).2
  · intro date s1 s2 s3 h
    exact absurd h (h2 date s1 s2 s3)

theorem powerOn : Statement .powerOn := event _ rfl rfl (by simp) (by simp)
theorem setStation (body : List Byte) : Statement (.setStation body) := request _ _ _ rfl rfl (by decide) (by simp) (by simp)
theorem setLine (body : List Byte) : Statement (.setLine body) := request _ _ _ rfl rfl (by decide) (by simp) (by simp)
theorem loadCodeTable (body : List Byte) : Statement (.loadCodeTable body) :=
  request _ _ _ rfl rfl (by decide) (by simp) (by simp)
theorem loadKeymap (body : List Byte) : Statement (.loadKeymap body) := request _ _ _ rfl rfl (by decide) (by simp) (by simp)
theorem setAnswerback (body : List Byte) : Statement (.setAnswerback body) :=
  request _ _ _ rfl rfl (by decide) (by simp) (by simp)
theorem setEom (body : List Byte) : Statement (.setEom body) := request _ _ _ rfl rfl (by decide) (by simp) (by simp)
theorem setRoutes (body : List Byte) : Statement (.setRoutes body) := request _ _ _ rfl rfl (by decide) (by simp) (by simp)
theorem setPrinter (body : List Byte) : Statement (.setPrinter body) := request _ _ _ rfl rfl (by decide) (by simp) (by simp)
theorem setPunch (body : List Byte) : Statement (.setPunch body) := request _ _ _ rfl rfl (by decide) (by simp) (by simp)
theorem answer (body : List Byte) : Statement (.answer body) := request _ _ _ rfl rfl (by decide) (by simp) (by simp)
theorem call (body : List Byte) : Statement (.call body) := request _ _ _ rfl rfl (by decide) (by simp) (by simp)
theorem clear (body : List Byte) : Statement (.clear body) := request _ _ _ rfl rfl (by decide) (by simp) (by simp)
theorem sendBreak (body : List Byte) : Statement (.sendBreak body) := request _ _ _ rfl rfl (by decide) (by simp) (by simp)
theorem sendAnswerback (body : List Byte) : Statement (.sendAnswerback body) :=
  request _ _ _ rfl rfl (by decide) (by simp) (by simp)
theorem standby (body : List Byte) : Statement (.standby body) := request _ _ _ rfl rfl (by decide) (by simp) (by simp)
theorem linkText (body : List Byte) : Statement (.linkText body) := request _ _ _ rfl rfl (by decide) (by simp) (by simp)
theorem playback (body : List Byte) : Statement (.playback body) := request _ _ _ rfl rfl (by decide) (by simp) (by simp)
theorem playbackResume (body : List Byte) : Statement (.playbackResume body) :=
  request _ _ _ rfl rfl (by decide) (by simp) (by simp)
theorem playbackCancel (body : List Byte) : Statement (.playbackCancel body) :=
  request _ _ _ rfl rfl (by decide) (by simp) (by simp)
theorem storeOpen (body : List Byte) : Statement (.storeOpen body) := request _ _ _ rfl rfl (by decide) (by simp) (by simp)
theorem storeAppend (body : List Byte) : Statement (.storeAppend body) :=
  request _ _ _ rfl rfl (by decide) (by simp) (by simp)
theorem storeClose (body : List Byte) : Statement (.storeClose body) := request _ _ _ rfl rfl (by decide) (by simp) (by simp)
theorem readMessage (body : List Byte) : Statement (.readMessage body) :=
  request _ _ _ rfl rfl (by decide) (by simp) (by simp)
theorem release (body : List Byte) : Statement (.release body) := request _ _ _ rfl rfl (by decide) (by simp) (by simp)
theorem listDirectory (body : List Byte) : Statement (.listDirectory body) :=
  request _ _ _ rfl rfl (by decide) (by simp) (by simp)
theorem printMessage (body : List Byte) : Statement (.printMessage body) :=
  request _ _ _ rfl rfl (by decide) (by simp) (by simp)
theorem printerRestart (body : List Byte) : Statement (.printerRestart body) :=
  request _ _ _ rfl rfl (by decide) (by simp) (by simp)
theorem punchMessage (body : List Byte) : Statement (.punchMessage body) :=
  request _ _ _ rfl rfl (by decide) (by simp) (by simp)
theorem punchControlContinue (body : List Byte) : Statement (.punchControlContinue body) :=
  request _ _ _ rfl rfl (by decide) (by simp) (by simp)
theorem punchControlCancel (body : List Byte) : Statement (.punchControlCancel body) :=
  request _ _ _ rfl rfl (by decide) (by simp) (by simp)
theorem punchControlFeed (body : List Byte) : Statement (.punchControlFeed body) :=
  request _ _ _ rfl rfl (by decide) (by simp) (by simp)
theorem status (body : List Byte) : Statement (.status body) := request _ _ _ rfl rfl (by decide) (by simp) (by simp)
theorem fetchReport (body : List Byte) : Statement (.fetchReport body) :=
  request _ _ _ rfl rfl (by decide) (by simp) (by simp)
theorem resetStation (body : List Byte) : Statement (.resetStation body) :=
  request _ _ _ rfl rfl (by decide) (by simp) (by simp)
theorem frameReceived (check : Byte) : Statement (.frameReceived check) := event _ rfl rfl (by simp) (by simp)
theorem frameAbandoned : Statement .frameAbandoned := event _ rfl rfl (by simp) (by simp)
theorem linkFrameSent : Statement .linkFrameSent := event _ rfl rfl (by simp) (by simp)
theorem characterReceived : Statement .characterReceived := event _ rfl rfl (by simp) (by simp)
theorem breakThreshold : Statement .breakThreshold := event _ rfl rfl (by simp) (by simp)
theorem clearThreshold : Statement .clearThreshold := event _ rfl rfl (by simp) (by simp)
theorem loopCurrentLost : Statement .loopCurrentLost := event _ rfl rfl (by simp) (by simp)
theorem ringAsserted : Statement .ringAsserted := event _ rfl rfl (by simp) (by simp)
theorem ringAbsent : Statement .ringAbsent := event _ rfl rfl (by simp) (by simp)
theorem ringQualified : Statement .ringQualified := event _ rfl rfl (by simp) (by simp)
theorem ringLockoutClear : Statement .ringLockoutClear := event _ rfl rfl (by simp) (by simp)
theorem answerWaitExpiry : Statement .answerWaitExpiry := event _ rfl rfl (by simp) (by simp)
theorem loopCurrentPresent : Statement .loopCurrentPresent := event _ rfl rfl (by simp) (by simp)
theorem loopTimerExpiry : Statement .loopTimerExpiry := event _ rfl rfl (by simp) (by simp)
theorem agreementTimer3s : Statement .agreementTimer3s := event _ rfl rfl (by simp) (by simp)
theorem agreementTimer7s : Statement .agreementTimer7s := event _ rfl rfl (by simp) (by simp)
theorem idleClearExpiry : Statement .idleClearExpiry := event _ rfl rfl (by simp) (by simp)
theorem standbyAfterExpiry : Statement .standbyAfterExpiry := event _ rfl rfl (by simp) (by simp)
theorem breakSignalEnd : Statement .breakSignalEnd := event _ rfl rfl (by simp) (by simp)
theorem clearSignalComplete : Statement .clearSignalComplete := event _ rfl rfl (by simp) (by simp)
theorem clearingLossCount : Statement .clearingLossCount := event _ rfl rfl (by simp) (by simp)
theorem sentPoint : Statement .sentPoint := event _ rfl rfl (by simp) (by simp)
theorem frontStopEnd : Statement .frontStopEnd := event _ rfl rfl (by simp) (by simp)
theorem arbiterFill : Statement .arbiterFill := event _ rfl rfl (by simp) (by simp)
theorem holdingSourceTake (source : HoldingSource) : Statement (.holdingSourceTake source) :=
  event _ rfl rfl (by simp) (by simp)
theorem lostMarkJoin : Statement .lostMarkJoin := event _ rfl rfl (by simp) (by simp)
theorem keyDown (keys : KeyReadings) : Statement (.keyDown keys) := by
  refine ⟨by simp [request?], fun _ h => absurd rfl (h keys.key keys.readings).1, ?_, by simp⟩
  intro k n h
  simp at h
  subst h
  simp [Instr.wf, keyOk, and_assoc]
theorem keyUp (keys : KeyReadings) : Statement (.keyUp keys) := by
  refine ⟨by simp [request?], fun _ h => absurd rfl (h keys.key keys.readings).2, ?_, by simp⟩
  intro k n h
  simp at h
  subst h
  simp [Instr.wf, keyOk, and_assoc]
theorem repeatTimerExpiry : Statement .repeatTimerExpiry := event _ rfl rfl (by simp) (by simp)
theorem freshStartScan (down : BitVec 64) : Statement (.freshStartScan down) := event _ rfl rfl (by simp) (by simp)
theorem wakeEvent (cause : WakeCause) : Statement (.wakeEvent cause) := event _ rfl rfl (by simp) (by simp)
theorem wakeComplete : Statement .wakeComplete := event _ rfl rfl (by simp) (by simp)
theorem motorStart : Statement .motorStart := event _ rfl rfl (by simp) (by simp)
theorem motorReady : Statement .motorReady := event _ rfl rfl (by simp) (by simp)
theorem motorStartTimeout : Statement .motorStartTimeout := event _ rfl rfl (by simp) (by simp)
theorem motorReadyDrop : Statement .motorReadyDrop := event _ rfl rfl (by simp) (by simp)
theorem motorOffTimerExpiry : Statement .motorOffTimerExpiry := event _ rfl rfl (by simp) (by simp)
theorem printerTake : Statement .printerTake := event _ rfl rfl (by simp) (by simp)
theorem printCycleEnd : Statement .printCycleEnd := event _ rfl rfl (by simp) (by simp)
theorem encoderPulse : Statement .encoderPulse := event _ rfl rfl (by simp) (by simp)
theorem stepTimeout : Statement .stepTimeout := event _ rfl rfl (by simp) (by simp)
theorem returnComplete : Statement .returnComplete := event _ rfl rfl (by simp) (by simp)
theorem returnTimeout : Statement .returnTimeout := event _ rfl rfl (by simp) (by simp)
theorem lineFeedComplete : Statement .lineFeedComplete := event _ rfl rfl (by simp) (by simp)
theorem bellPulseEnd : Statement .bellPulseEnd := event _ rfl rfl (by simp) (by simp)
theorem paperOut : Statement .paperOut := event _ rfl rfl (by simp) (by simp)
theorem paperBack : Statement .paperBack := event _ rfl rfl (by simp) (by simp)
theorem punchTakeEntry : Statement .punchTakeEntry := event _ rfl rfl (by simp) (by simp)
theorem punchCycleEnd : Statement .punchCycleEnd := event _ rfl rfl (by simp) (by simp)
theorem punchJobStart : Statement .punchJobStart := event _ rfl rfl (by simp) (by simp)
theorem tapeLowAsserted : Statement .tapeLowAsserted := event _ rfl rfl (by simp) (by simp)
theorem tapeLowClear : Statement .tapeLowClear := event _ rfl rfl (by simp) (by simp)
theorem refreshTimer : Statement .refreshTimer := event _ rfl rfl (by simp) (by simp)
theorem memoryInitComplete : Statement .memoryInitComplete := event _ rfl rfl (by simp) (by simp)
theorem dramGrant : Statement .dramGrant := event _ rfl rfl (by simp) (by simp)
theorem dramAccessComplete : Statement .dramAccessComplete := event _ rfl rfl (by simp) (by simp)
theorem writeQueueClaim : Statement .writeQueueClaim := event _ rfl rfl (by simp) (by simp)
theorem writeThrough : Statement .writeThrough := event _ rfl rfl (by simp) (by simp)
theorem filteredTransition (date : Nat) (s1 s2 s3 : Level) : Statement (.filteredTransition date s1 s2 s3) := by
  refine ⟨by simp [request?], fun _ _ h => absurd rfl (h date s1 s2 s3), by simp, ?_⟩
  intro d a b c h
  simp at h
  obtain ⟨rfl, rfl, rfl, rfl⟩ := h
  simp [Instr.wf, transitionOk, and_assoc]
theorem startUnitCheck : Statement .startUnitCheck := event _ rfl rfl (by simp) (by simp)
theorem linkByteReceived (byte : Byte) : Statement (.linkByteReceived byte) := event _ rfl rfl (by simp) (by simp)
theorem rightwardStep : Statement .rightwardStep := event _ rfl rfl (by simp) (by simp)

end Sys2Proof.Laws.WfChecks
end

