-- ==== Sys2Proof/Laws/Printer.lean ====
section
/-! SUPPORT. What a tick does to the printer: the advance of a print cycle, the reading of HOME in a return
and the motor-off timer, which live work stops. -/

namespace Sys2Proof.Machine

/-- With no print cycle nothing advances (R101). -/
theorem Printer.advance_idle {p : Printer} (h : p.cycle = none) : p.advance = p := by simp [Printer.advance, h]

/-- An advance touches the print cycle and the intensity in force alone (R101). -/
theorem Printer.advance_frame (p : Printer) :
    p.advance = { p with cycle := p.advance.cycle, intensity := p.advance.intensity } := by
  cases h : p.cycle with
  | none => rw [Printer.advance_idle h]
  | some c => simp [Printer.advance, h]

/-- The intensity in force is the one before or the requested one (R101). -/
theorem Printer.advance_intensity (p : Printer) :
    p.advance.intensity = p.intensity ∨ p.advance.intensity = p.intensityReq := by
  cases h : p.cycle with
  | none => exact .inl (by rw [Printer.advance_idle h])
  | some c =>
    simp only [Printer.advance, h]
    split
    · exact .inl rfl
    · exact .inr rfl

/-- No pulse is given without the train, nor without a print cycle (R100, R101). -/
theorem Printer.no_pulse {p : Printer} (h : p.hammer = false ∨ p.cycle = none) : p.hammerPulse = false := by
  rcases h with h | h <;> simp [Printer.hammerPulse, h]

/-- The leftward drive: a return in which HOME has not been asserted (R103). -/
theorem State.leftward_iff (s : State) :
    s.leftward = true ↔ ∃ r, s.pr.ret = some r ∧ r.homed = false ∧ (s.pr.columnKnown = true → s.pins.home = false) := by
  cases h : s.pr.ret <;> cases hk : s.pr.columnKnown <;> simp [State.leftward, h, hk]

/-- HOME read asserted ends the travel. -/
@[simp] theorem readHome_leftward (s : State) : (readHome true s).leftward = false := by
  simp only [readHome, State.leftward, if_true]
  cases s.pr.ret <;> simp

/-- Out of a return, and once HOME is asserted, a tick reads nothing (R103). -/
theorem homeTick_idle {s : State} (h : s.leftward = false) : homeTick s = s := by simp [homeTick, h]

/-- In a return short of HOME a tick takes a free reading (R99, R103; log 57). -/
theorem homeTick_travel {s : State} (h : s.leftward = true) :
    homeTick s = readHome (Config.freeReading s.freeCount) { s with freeCount := s.freeCount + 1 } := by
  simp only [homeTick, h, useFree, if_true]

/-- The reading of HOME changes no other pin. -/
theorem homeTick_pins (s : State) : (homeTick s).pins = { s.pins with home := (homeTick s).pins.home } := by
  cases h : s.leftward with
  | false => rw [homeTick_idle h]
  | true => rw [homeTick_travel h]; rfl

/-- The motor-off timer runs in READY and DIRECT, with no message tracked and no work (R98). -/
theorem State.motorOffRuns_iff (s : State) :
    s.motorOffRuns = true ↔ s.pr.state = .ready ∧ s.printerWork = false ∧ s.pr.tracked = none ∧ s.pr.mode = .direct := by
  simp [State.motorOffRuns, and_assoc]

/-- While the timer does not run a tick leaves the printer to its other times (R98). -/
theorem motorOffTick_stands {s : State} (h : s.motorOffRuns = false) : motorOffTick s = s := by simp [motorOffTick, h]

/-- A tick of a running timer counts, and the tick that completes 10 s stops the motor (R98; log 68). -/
theorem motorOffTick_runs {s : State} (h : s.motorOffRuns = true) :
    (s.pr.offTicks + 1 < 640 ∧ motorOffTick s = { s with pr := { s.pr with offTicks := s.pr.offTicks + 1 } })
      ∨ (640 ≤ s.pr.offTicks + 1 ∧ motorOffTick s = motorOff s) := by
  by_cases hn : s.pr.offTicks + 1 < 640
  · exact .inl ⟨hn, by simp [motorOffTick, h, Config.motorOffTicks, hn]⟩
  · exact .inr ⟨by omega, by simp [motorOffTick, h, Config.motorOffTicks, hn]⟩

/-- Live work stops the motor-off timer, so that the timer has its 10 s when it next runs (R98). -/
theorem noteLiveWork_stops_timer {s : State} (h : s.pr.noLiveWork = false) : (noteLiveWork s).pr.offTicks = 0 := by
  simp only [noteLiveWork, h, suspendJob]
  split
  · contradiction
  · split <;> rfl

/-- Without live work nothing happens (R113). -/
theorem noteLiveWork_idle {s : State} (h : s.pr.noLiveWork = true) : noteLiveWork s = s := by simp [noteLiveWork, h]

theorem passCycles_pins (s : State) : (passCycles s).pins = { s.pins with home := (passCycles s).pins.home } := by
  unfold passCycles
  split
  · rfl
  · rw [(motorOffTick_frame _).2.2.2.2.2.2.2.2.2.2.2.2.1]
    exact homeTick_pins _

/-- A tick changes no pin but HOME and WAKE. -/
theorem tick_pins (s : State) :
    (tick s).pins = { s.pins with home := (tick s).pins.home, wake := (tick s).pins.wake } := by
  have h : (tick s).pins = (wakeTick (passCycles s)).pins := by
    simp only [tick, whileIn]
    split <;> simp
  have hw : (wakeTick (passCycles s)).pins =
      { (passCycles s).pins with wake := (wakeTick (passCycles s)).pins.wake } := by
    unfold wakeTick
    split <;> rfl
  rw [h, hw, passCycles_pins s]

end Sys2Proof.Machine
end

