-- ==== Sys2Proof/Laws/Reports.lean ====
section
/-! SUPPORT. The report queue and the reply queue: what joins, what leaves, and that the bounds of R186 stay. -/

namespace Sys2Proof.Machine

/-- The bounds of R186 on a list of reports. -/
def ReportsOk (rs : List Report) : Prop :=
  rs.length ≤ 24 ∧ countedReports rs ≤ 12 ∧ ((rs.filter Report.isStatus).map Report.kind).Nodup

/-- The invariant of the link is the bounds and an idle transmitter's empty reply queue. -/
theorem reportsInv_iff (l : Link) : l.reportsInv ↔ ReportsOk l.reports ∧ (l.sending = none → l.replies = []) := by
  simp [Link.reportsInv, ReportsOk, and_assoc]

/-- What is left without the first entry of a kind is part of the list. -/
theorem dropFirst_sublist (p : Report → Bool) (rs : List Report) : (dropFirst p rs).Sublist rs := by
  induction rs with
  | nil => exact List.Sublist.slnil
  | cons r rest ih =>
    simp only [dropFirst]
    split
    · exact List.sublist_cons_self r rest
    · exact ih.cons_cons r

/-- One entry leaves when one of the kind is there. -/
theorem dropFirst_length {p : Report → Bool} {rs : List Report} (h : rs.any p = true) :
    (dropFirst p rs).length + 1 = rs.length := by
  induction rs with
  | nil => simp at h
  | cons r rest ih =>
    simp only [dropFirst]
    by_cases hp : p r = true
    · simp [hp]
    · have : rest.any p = true := by simpa [hp] using h
      simp [hp, ih this]

/-- One counted report leaves when one is there. -/
theorem dropFirst_countP {p : Report → Bool} {rs : List Report} (h : rs.any p = true) :
    (dropFirst p rs).countP p + 1 = rs.countP p := by
  induction rs with
  | nil => simp at h
  | cons r rest ih =>
    simp only [dropFirst]
    by_cases hp : p r = true
    · simp [hp]
    · have : rest.any p = true := by simpa [hp] using h
      simp [hp, ih this]

/-- What is left without the last entry of a kind is part of the list. -/
theorem dropNewest_sublist (p : Report → Bool) (rs : List Report) : (dropNewest p rs).Sublist rs := by
  have h := (dropFirst_sublist p rs.reverse).reverse
  simpa [dropNewest] using h

/-- One entry leaves when one of the kind is there. -/
theorem dropNewest_length {p : Report → Bool} {rs : List Report} (h : rs.any p = true) :
    (dropNewest p rs).length + 1 = rs.length := by
  have h1 : rs.reverse.any p = true := by simpa using h
  have h2 := dropFirst_length h1
  simpa [dropNewest] using h2

/-- Part of a list within the bounds is within them. -/
theorem ReportsOk.sublist {rs ts : List Report} (h : ReportsOk rs) (hs : ts.Sublist rs) : ReportsOk ts :=
  ⟨Nat.le_trans hs.length_le h.1, Nat.le_trans hs.countP_le h.2.1, ((hs.filter _).map _).nodup h.2.2⟩

/-- A report whose status kind is not there joins a list with room for it. -/
theorem ReportsOk.append {rs : List Report} {r : Report} (h : ReportsOk rs) (hl : rs.length < 24)
    (hc : r.isCounted = true → countedReports rs < 12)
    (hs : r.isStatus = true → rs.any (fun x => x.kind == r.kind) = false) : ReportsOk (rs ++ [r]) := by
  refine ⟨by simp; omega, ?_, ?_⟩
  · simp only [countedReports, List.countP_append, List.countP_singleton] at *
    split
    · rename_i hr
      have := hc hr
      omega
    · exact h.2.1
  · simp only [List.filter_append, List.map_append]
    by_cases hr : r.isStatus = true
    · simp only [List.filter_cons, hr, if_true, List.filter_nil, List.map_cons, List.map_nil]
      rw [List.nodup_append]
      refine ⟨h.2.2, by simp, ?_⟩
      intro a ha b hb
      simp only [List.mem_map, List.mem_filter] at ha
      obtain ⟨x, ⟨hx, _⟩, rfl⟩ := ha
      have hk := hs hr
      simp only [List.mem_singleton] at hb
      subst hb
      intro heq
      have : rs.any (fun x => x.kind == r.kind) = true := List.any_eq_true.2 ⟨x, hx, by simp [heq]⟩
      simp [hk] at this
    · simp [hr, h.2.2]

/-- A counted report is of no other sort. -/
theorem isStatus_false_of_counted {r : Report} (h : r.isCounted = true) : r.isStatus = false := by
  simp [Report.isStatus, h]

/-- A status report that finds one of its kind takes its place. -/
theorem ReportsOk.coalesce {rs : List Report} {r : Report} (h : ReportsOk rs) (hr : r.isStatus = true) :
    ReportsOk (rs.map fun x => if x.kind == r.kind then r else x) := by
  have hk : ∀ x : Report, x.kind = r.kind → x.isStatus = true ∧ x.isCounted = false := by
    intro x hx
    cases r <;> simp [Report.isStatus, Report.isText, Report.isCounted] at hr <;> cases x <;>
      simp_all [Report.kind, Report.isStatus, Report.isText, Report.isCounted]
  have hrc : r.isCounted = false := (hk r rfl).2
  refine ⟨by simpa using h.1, ?_, ?_⟩
  · refine Nat.le_trans (Nat.le_of_eq ?_) h.2.1
    simp only [countedReports, List.countP_map]
    refine List.countP_congr fun x _ => ?_
    by_cases hx : x.kind = r.kind
    · simp [hx, hrc, (hk x hx).2]
    · simp [hx]
  · have : ((rs.map fun x => if x.kind == r.kind then r else x).filter Report.isStatus).map Report.kind
        = (rs.filter Report.isStatus).map Report.kind := by
      induction rs with
      | nil => rfl
      | cons x rest ih =>
        have h2 : ReportsOk rest := h.sublist (List.sublist_cons_self x rest)
        have h3 := ih h2
        simp only [beq_iff_eq] at h3 ⊢
        by_cases hx : x.kind = r.kind
        · simp [hx, hr, (hk x hx).1, h3]
        · simp only [List.map_cons, hx, if_false, List.filter_cons]
          split <;> simp [h3]
    rw [this]
    exact h.2.2

/-- A report joins a queue within the bounds, and the queue stays within them (R186). -/
theorem joinReports_ok {rs : List Report} (r : Report) (h : ReportsOk rs) : ReportsOk (joinReports r rs).1 := by
  unfold joinReports
  have hno : ∀ ts : List Report, ts.Sublist rs →
      ¬(r.isStatus && rs.any (fun x => x.kind == r.kind)) = true →
      r.isStatus = true → ts.any (fun x => x.kind == r.kind) = false := by
    intro ts hts hc hr
    cases hcon : ts.any (fun x => x.kind == r.kind) with
    | false => rfl
    | true =>
      obtain ⟨x, hx, hx2⟩ := List.any_eq_true.1 hcon
      refine absurd ?_ hc
      simp only [hr, Bool.true_and]
      exact List.any_eq_true.2 ⟨x, hts.subset hx, hx2⟩
  split
  · rename_i hc
    simp only [Bool.and_eq_true] at hc
    exact h.coalesce hc.1
  · rename_i hc
    have hno := fun ts hts => hno ts hts hc
    split
    · rename_i h2
      simp only [Bool.and_eq_true, decide_eq_true_eq] at h2
      have hpos : rs.any Report.isCounted = true := by
        have : 0 < rs.countP Report.isCounted := by
          have := h2.2
          simp [countedReports, Config.eventCapacity] at this
          omega
        obtain ⟨x, hx, hp⟩ := List.countP_pos_iff.1 this
        exact List.any_eq_true.2 ⟨x, hx, hp⟩
      have hl := dropFirst_length hpos
      have hcnt := dropFirst_countP hpos
      have hle := h.2.1
      refine (h.sublist (dropFirst_sublist _ _)).append (by have := h.1; omega) ?_ (hno _ (dropFirst_sublist _ _))
      intro _
      simp only [countedReports] at *
      omega
    · rename_i h2
      have hcount : r.isCounted = true → countedReports rs < 12 := by
        intro hr
        by_cases h3 : 12 ≤ countedReports rs
        · exact absurd (by simp [hr, h3, Config.eventCapacity]) h2
        · omega
      split
      · rename_i h3
        exact h.append h3 hcount (hno _ (List.Sublist.refl _))
      · split
        · exact h
        · split
          · rename_i h5
            have hl := dropNewest_length h5
            refine (h.sublist (dropNewest_sublist _ _)).append (by have := h.1; omega) ?_ (hno _ (dropNewest_sublist _ _))
            intro hr
            exact Nat.lt_of_le_of_lt (dropNewest_sublist _ rs).countP_le (hcount hr)
          · split
            · rename_i h6
              have hl := dropFirst_length h6
              refine (h.sublist (dropFirst_sublist _ _)).append (by have := h.1; omega) ?_ (hno _ (dropFirst_sublist _ _))
              intro hr
              exact Nat.lt_of_le_of_lt (dropFirst_sublist _ rs).countP_le (hcount hr)
            · exact h

/-- What the transmitter's choice does: nothing, or the oldest reply begins to be sent, or the head report (R184, R187). -/
theorem kick_cases (l : Link) :
    l.kick = l ∨ (l.sending = none ∧ ∃ f rest, l.replies = f :: rest ∧ l.kick = { l with sending := some f, replies := rest })
      ∨ (l.sending = none ∧ l.replies = [] ∧ l.mode = .push ∧ ∃ r, headReport? l.reports = some r
          ∧ l.kick = { l with sending := some (.report r), reports := dropHead r l.reports }) := by
  unfold Link.kick
  split
  · exact Or.inl rfl
  · rename_i f rest h1 h2
    exact Or.inr (Or.inl ⟨h1, f, rest, h2, rfl⟩)
  · rename_i h1 h2
    split
    · exact Or.inl rfl
    · rename_i hm
      split
      · exact Or.inl rfl
      · rename_i r hr
        exact Or.inr (Or.inr ⟨h1, h2, hm, r, hr, rfl⟩)

/-- After the transmitter's choice no reply waits while it is idle. -/
theorem kick_idle (l : Link) : l.kick.sending = none → l.kick.replies = [] := by
  unfold Link.kick
  split
  · rename_i h
    intro h2
    simp [h] at h2
  · intro h2
    simp at h2
  · rename_i h
    split
    · exact fun _ => h
    · split
      · exact fun _ => h
      · intro h2
        simp at h2

/-- The transmitter's choice keeps the bounds. -/
theorem kick_inv {l : Link} (h : ReportsOk l.reports) : l.kick.reportsInv := by
  rw [reportsInv_iff]
  refine ⟨?_, kick_idle l⟩
  rcases kick_cases l with h1 | ⟨_, f, rest, _, h1⟩ | ⟨_, _, _, r, _, h1⟩
  · rw [h1]
    exact h
  · rw [h1]
    exact h
  · rw [h1]
    exact h.sublist (dropFirst_sublist _ _)

/-- A report that is raised keeps the bounds of the queue (R186). -/
theorem raise_inv {s : State} (r : Report) (h : s.link.reportsInv) : (raise r s).link.reportsInv :=
  kick_inv (joinReports_ok r ((reportsInv_iff _).1 h).1)

/-- A reply that joins keeps the bounds of the report queue. -/
theorem reply_inv {s : State} (k : Byte) (a : Answer) (h : ReportsOk s.link.reports) : (reply k a s).link.reportsInv := by
  refine kick_inv ?_
  unfold Link.overrunStep
  split
  · exact h
  · split
    · unfold Link.reject
      split <;> exact h
    · exact h

/-- A report that is raised moves nothing but the report queue, the reply queue and the frame being sent in the link. -/
theorem raise_link (r : Report) (s : State) :
    (raise r s).link.rx = s.link.rx ∧ (raise r s).link.holding = s.link.holding ∧ (raise r s).link.overrun = s.link.overrun
      ∧ (raise r s).link.mode = s.link.mode := by
  have h := kick_cases { s.link with reports := (joinReports r s.link.reports).1 }
  simp only [raise]
  rcases h with h | ⟨_, f, rest, _, h⟩ | ⟨_, _, _, x, _, h⟩ <;> rw [h] <;> exact ⟨rfl, rfl, rfl, rfl⟩

/-- The head report is the oldest of the lowest class: every report before it is of a higher class, none is of a lower (R187). -/
theorem findReport {c : Nat} {rs : List Report} {r : Report} (h : rs.find? (fun x => x.cls == c) = some r) :
    r.cls = c ∧ ∃ pre post, rs = pre ++ r :: post ∧ (∀ x ∈ pre, x.cls ≠ c)
      ∧ dropFirst (fun x => x.cls == c) rs = pre ++ post := by
  induction rs with
  | nil => simp at h
  | cons x rest ih =>
    by_cases hx : x.cls = c
    · simp [hx] at h
      subst h
      exact ⟨hx, [], rest, rfl, by simp, by simp [dropFirst, hx]⟩
    · simp [hx] at h
      obtain ⟨h1, pre, post, h2, h3, h4⟩ := ih h
      refine ⟨h1, x :: pre, post, by simp [h2], ?_, by simp [dropFirst, hx, h4]⟩
      intro y hy
      rcases List.mem_cons.1 hy with rfl | hy
      · exact hx
      · exact h3 y hy

end Sys2Proof.Machine
end

