-- ==== Sys2Proof/Laws/Requests.lean ====
section
/-! SUPPORT. What the taking of a request comes to, once it can be taken. -/

namespace Sys2Proof.Machine

/-- A request that can be taken is answered by the act of its block, or by BAD-VALUE for a body of the wrong length. -/
theorem accept_asked {kind : Byte} {body : List Byte} {s s0 : State} (fits : Bool) (act : State → State × Answer)
    (h : s.asked kind body s0) :
    accept kind fits body act s =
      if fits then reply kind (act (touchStandby s0)).2 (act (touchStandby s0)).1
      else reply kind (badLength (touchStandby s0)) (useFree (touchStandby s0)) := by
  obtain ⟨h1, h2⟩ := h
  simp [accept, h1, h2]

/-- A request that cannot be taken changes nothing. -/
theorem accept_untaken {kind : Byte} {body : List Byte} {s : State} (fits : Bool) (act : State → State × Answer)
    (h : s.linkFree = false ∨ s.takes? kind body = none) : accept kind fits body act s = s := by
  unfold accept
  rcases h with h | h <;> simp [h]

/-- A READ-MESSAGE that can be taken is tested, or answered BAD-VALUE for a body of the wrong length. -/
theorem acceptRead_asked {body : List Byte} {s s0 : State} (h : s.asked 0x33#8 body s0) :
    acceptRead body s =
      if body.length = 6 then
        match readTest body (touchStandby s0) with
        | .inl a => reply 0x33#8 a (touchStandby s0)
        | .inr r => hostContinue r (touchStandby s0)
      else reply 0x33#8 (badLength (touchStandby s0)) (useFree (touchStandby s0)) := by
  obtain ⟨h1, h2⟩ := h
  unfold acceptRead
  refine (if_pos h1).trans ?_
  generalize s.takes? 0x33#8 body = x at h2
  subst h2
  rfl

/-- The frame of a request stands in `s0` at the head of the input holding; nothing else differs from `s`. -/
theorem asked_frame {kind : Byte} {body : List Byte} {s s0 : State} (h : s.asked kind body s0) :
    s0 = { s with link := { s.link with holding := s0.link.holding } } := by
  obtain ⟨_, h2⟩ := h
  unfold State.takes? at h2
  split at h2
  · split at h2 <;> simp_all
  · split at h2 <;> simp_all
    rw [← h2]

/-- A request that can be taken finds no READ-MESSAGE being served. -/
theorem asked_hostRead {kind : Byte} {body : List Byte} {s s0 : State} (h : s.asked kind body s0) :
    s.store.hostRead = none := by
  have h1 := h.1
  simp [State.linkFree] at h1
  exact h1.2

/-- The station codes of bytes that are all below 128. -/
theorem stationCodes?_good {body : List Byte} (h : ∀ b ∈ body, b.toNat < 128) :
    stationCodes? body = some (body.map (BitVec.setWidth 7)) := by
  induction body with
  | nil => rfl
  | cons b rest ih =>
    have hb := h b (by simp)
    have hr := ih fun x hx => h x (by simp [hx])
    simp [stationCodes?, stationCode?, hb, hr]

/-- A byte above 127 spoils a run of station codes. -/
theorem stationCodes?_bad {body : List Byte} (h : ∃ b ∈ body, 128 ≤ b.toNat) : stationCodes? body = none := by
  induction body with
  | nil => simp at h
  | cons b rest ih =>
    by_cases hb : b.toNat < 128
    · have hr : ∃ x ∈ rest, 128 ≤ x.toNat := by
        obtain ⟨x, hx, hx2⟩ := h
        rcases List.mem_cons.1 hx with rfl | hx
        · omega
        · exact ⟨x, hx, hx2⟩
      simp [stationCodes?, ih hr]
    · simp [stationCodes?, stationCode?, hb]

end Sys2Proof.Machine
end

