-- ==== Sys2Proof/Laws/Transmitter.lean ====
section
/-! SUPPORT. The arbiter's repeated choice and the advance of a character being sent. -/

namespace Sys2Proof.Machine

@[simp] theorem refill_zero (s : State) : refill 0 s = s := rfl

/-- A fill ends with a choice that is no unsendable winner (R42). -/
theorem refill_stop (n : Nat) {s : State} (h : (chooseNext s).2 = false) : refill (n + 1) s = (chooseNext s).1 := by
  simp [refill, h]

/-- After an unsendable winner the arbiter chooses again (R42). -/
theorem refill_again (n : Nat) {s : State} (h : (chooseNext s).2 = true) : refill (n + 1) s = refill n (chooseNext s).1 := by
  simp [refill, h]

/-- What every choice keeps, a fill keeps. -/
theorem refill_keeps {P : State → Prop} (hP : ∀ s, P s → P (chooseNext s).1) (n : Nat) (s : State) (h : P s) : P (refill n s) := by
  induction n generalizing s with
  | zero => exact h
  | succ n ih =>
    cases hc : (chooseNext s).2 with
    | true => rw [refill_again n hc]; exact ih _ (hP s h)
    | false => rw [refill_stop n hc]; exact hP s h

/-- With no character in FRONT nothing advances (R39). -/
theorem advance_idle {t : Transmitter} (h : t.front = none) : t.advance = t := by simp [Transmitter.advance, h]

/-- An advance touches FRONT and TXD alone (R39). -/
theorem advance_frame (t : Transmitter) : t.advance = { t with front := t.advance.front, txd := t.advance.txd } := by
  cases h : t.front with
  | none => rw [advance_idle h]
  | some f => simp [Transmitter.advance, h]

theorem sampleCycles_pos (r : Rate) : 0 < sampleCycles r := by cases r <;> decide

/-- The next unit begins later than now, so a character comes to every unit (R39). -/
theorem Front.lt_nextUnit (f : Front) : f.cycles < f.nextUnit := by
  have h := Nat.div_add_mod f.cycles (32 * sampleCycles f.rate)
  have hm := Nat.mod_lt f.cycles (show 0 < 32 * sampleCycles f.rate from Nat.mul_pos (by decide) (sampleCycles_pos f.rate))
  simp only [Front.nextUnit, Nat.add_mul, Nat.one_mul]
  rw [Nat.mul_comm (f.cycles / _)]
  omega

end Sys2Proof.Machine
end

