-- ==== Sys2Proof/Tests/Slice0.lean ====
section
/-! SUPPORT. Tests: ill-formed commands, the worked examples of the spec, and for every statement a state and operands that
meet its hypotheses, clause by clause. -/

namespace Sys2Proof.Tests

open Sys2Proof Sys2Proof.Machine

/-! ### Small states -/

/-- The part after MEMORY-INIT. -/
def base : State :=
  { State.reset with store := { Store.reset with memInit := false, banks := Vector.replicate 4 .closed } }

def onConv (f : Converter → Converter) (s : State) : State := { s with conv := f s.conv }
def onRx (f : Receiver → Receiver) (s : State) : State := { s with rx := f s.rx }
def onTx (f : Transmitter → Transmitter) (s : State) : State := { s with tx := f s.tx }
def onAgr (f : Agreement → Agreement) (s : State) : State := { s with agr := f s.agr }
def onRouter (f : Router → Router) (s : State) : State := { s with router := f s.router }
def onKb (f : Keyboard → Keyboard) (s : State) : State := { s with kb := f s.kb }
def onPr (f : Printer → Printer) (s : State) : State := { s with pr := f s.pr }
def onPu (f : Punch → Punch) (s : State) : State := { s with pu := f s.pu }
def onCall (f : CallCtl → CallCtl) (s : State) : State := { s with call := f s.call }
def onStore (f : Store → Store) (s : State) : State := { s with store := f s.store }
def onLink (f : Link → Link) (s : State) : State := { s with link := f s.link }

/-- In a call state. -/
def inCall (c : CallState) (s : State) : State := onCall (fun x => { x with state := c }) s

/-- A directory entry. -/
def entry (number : Nat) (dir : Dir) (st : MsgState) (header length : Nat) : Entry :=
  { number := number, dir := dir, state := st, header := header, length := length, flags := MsgFlags.none, errors := 0
    rate := none, peakQ := 0, print := 0, punch := 0, sent := 0, delivered := 0, trackedMark := false, punchNamed := false
    headerDue := false }

/-- One message in the directory: number 1, at cell 0, three characters of its body in cell 1. -/
def withMessage (dir : Dir) (st : MsgState) (s : State) : State :=
  { onStore (fun x => { x with dir := [entry 1 dir st 0 3], tail := 2, free := 524286, nextNumber := 2 }) s with
    mem := [(8, 0x41#8), (9, 0x42#8), (10, 0x43#8)] }

/-- The code table of the example of R10, with ASK-ID at raw code 9 of LETTERS (R4). -/
def exampleTable (cv : Converter) : Converter :=
  { cv with
    letters := ⟨((((Vector.replicate 32 none).set 3 (some 0x41#7)).set 4 (some 0x20#7)).set 9 (some 0x01#7)), true⟩
    figures := ⟨((((Vector.replicate 32 none).set 3 (some 0x2D#7)).set 4 (some 0x20#7)).set 23 (some 0x31#7)), true⟩
    ltrsShift := some 31#5, figsShift := some 27#5, valid := true, unshift := true }

/-- What a next state is asked. -/
def after (o : Host.Outcome State Fault Refusal) (p : State → Bool) : Bool :=
  match o with
  | .next t => p t
  | _ => false

/-! ### Requests in the input holding -/

/-- A frame stands alone in the input holding, with nothing in the way of its taking. -/
def asks (kind : Byte) (body : List Byte) (s : State) : State :=
  { s with
    link := { s.link with rx := .hunt, holding := [⟨kind, body⟩], replies := [] }
    store := { s.store with hostRead := none } }

theorem asks_asked (kind : Byte) (body : List Byte) (s : State) : (asks kind body s).asked kind body (asks kind body s) := by
  constructor
  · simp [State.linkFree, asks]
  · simp [State.takes?, asks]

/-- Some state is asked the request and has the property once the standby-after timer is set. -/
def Met (kind : Byte) (body : List Byte) (p : State → Prop) : Prop :=
  ∃ s s0 : State, s.asked kind body s0 ∧ p (touchStandby s0)

theorem met {kind : Byte} {body : List Byte} {p : State → Prop} (t : State) (h : p (touchStandby (asks kind body t))) :
    Met kind body p := ⟨_, _, asks_asked kind body t, h⟩

/-- The same, of the body too. -/
def MetB (kind : Byte) (body : List Byte) (p : List Byte → State → Prop) : Prop :=
  ∃ s s0 : State, s.asked kind body s0 ∧ p body (touchStandby s0)

theorem metB {kind : Byte} {body : List Byte} {p : List Byte → State → Prop} (t : State)
    (h : p body (touchStandby (asks kind body t))) : MetB kind body p := ⟨_, _, asks_asked kind body t, h⟩

/-! ### Commands that are not well formed -/

theorem test_wf_body_at_the_limit : (Instr.storeAppend (List.replicate 240 0)).wf = true := by decide +kernel
theorem test_wf_body_too_long : (Instr.storeAppend (List.replicate 241 0)).wf = false := by decide +kernel
theorem test_wf_key_number : (Instr.keyDown ⟨63, 3⟩).wf = true ∧ (Instr.keyDown ⟨64, 1⟩).wf = false ∧ (Instr.keyUp ⟨64, 1⟩).wf = false := by
  decide
theorem test_wf_key_readings : (Instr.keyDown ⟨0, 1⟩).wf = true ∧ (Instr.keyDown ⟨0, 0⟩).wf = false ∧ (Instr.keyUp ⟨0, 4⟩).wf = false := by
  decide
theorem test_wf_transition_date : (Instr.filteredTransition 214 .mark .mark .mark).wf = true
    ∧ (Instr.filteredTransition 215 .mark .mark .mark).wf = false := by decide
theorem test_wf_transition_samples : (Instr.filteredTransition 3 .mark .space .mark).wf = false := by decide
theorem test_no_word_spells_a_command (nbits w : Nat) (s : State) :
    decodeTableWord nbits w = none ∧ s.withFetchWord nbits w = s := ⟨rfl, rfl⟩

/-! ### The worked examples of the spec -/

/-- The example of R10: "1", SPACE, "A" cost 27, 23, 4, 3 from the plane UNKNOWN. -/
theorem test_R10_example :
    (exampleTable Converter.reset).encode .unknown 0x31#7 = some ⟨some 27#5, 23#5, .figures⟩
    ∧ (exampleTable Converter.reset).encode .figures 0x20#7 = some ⟨none, 4#5, .letters⟩
    ∧ (exampleTable Converter.reset).encode .letters 0x41#7 = some ⟨none, 3#5, .letters⟩ := by decide +kernel

/-- With unshift-on-space off "A" costs 31 and 3 (R10). -/
theorem test_R10_example_off :
    (exampleTable { Converter.reset with unshift := false }).encode .unknown 0x41#7 = some ⟨some 31#5, 3#5, .letters⟩
    ∧ ({ exampleTable Converter.reset with unshift := false }).encode .figures 0x41#7 = some ⟨some 31#5, 3#5, .letters⟩ := by
  decide +kernel

/-- 01 section 1.7: N N N N over five N, then CR. -/
theorem test_eom_overlapping :
    (fun eom => (eomMatch eom 0 0x4E#7, eomMatch eom 3 0x4E#7, eomMatch eom 1 0x03#7)) (List.replicate 4 0x4E#7)
      = ((1, false), (0, true), (0, false)) := by decide

/-- 01 section 1.7: + + N over + + + N; the third + falls back. -/
theorem test_eom_failed_partial :
    eomMatch [0x2B#7, 0x2B#7, 0x4E#7] 2 0x2B#7 = (2, false) ∧ eomMatch [0x2B#7, 0x2B#7, 0x4E#7] 2 0x4E#7 = (0, true) := by
  decide

/-- 02 section 2.7: the quality figure over the four characters. -/
theorem test_quality_example : nextQ 512 3 = 544 ∧ nextQ 544 4 = 604 ∧ nextQ 604 16 = 1040 ∧ nextQ 1040 1 = 942 := by decide

/-- 02 section 2.7: A and s over the second character, and the two cases at their limits. -/
theorem test_drift_example :
    adjustDrift 4 (50, 0) = (2, 1) ∧ adjustDrift 4 (60, 6) = (12, 6) ∧ adjustDrift 4 (137, 5) = (41, 6) := by decide

/-- 02 section 2.7: the displacements of the second and third characters. -/
theorem test_displacement_example :
    displacement 36 = (32, 4) ∧ displacement 99 = (96, 3) ∧ displacement 160 = (160, 0) ∧ displacement 70 = (64, 6)
    ∧ displacement 200 = (192, 8) ∧ displacement 191 = (192, -1) := by decide

/-- 02 section 2.7: character 1, units M S S M M, is received with Q = 544 and A = 43. -/
theorem test_first_character_of_the_example :
    (fun r : Receiver => (r.rawCode, r.isGood, r.updated.q, r.updated.a, r.updated.s))
      { Receiver.reset with
        state := .assemble, q := 512, a := 40
        edges := [(0, .space), (35, .mark), (66, .space), (126, .mark)], measured := [(32, 3), (64, 2), (128, -2)] }
      = (0x19#5, true, 544, 43, 0) := by decide

/-- 03 section 3.8: the masks of rates up to 300 and up to 150 agree on 150 units/s. -/
theorem test_agreed_rate_example :
    ({ Agreement.reset with localTop := .r300, partnerMask := some 0x07#5 }).agreedRate = .r150
    ∧ ({ Agreement.reset with localTop := .r150 }).m1 = 0x07#5 ∧ ({ Agreement.reset with localTop := .r300 }).m1 = 0x1F#5 := by
  decide

/-- 09 section 9.11: position 29 of message 131 lies in cell 0; RELEASE 88 reclaims 100 cells. -/
theorem test_ring_example :
    bodyCell 524284 29 = 0 ∧ bodyCell 524284 0 = 524285
    ∧ (fun st : Store => (fun r : Store => (r.free, r.head, r.dir.length)) (Store.reclaim 64 st))
        { Store.reset with
          head := 300000, tail := 1, free := 299999
          dir := [entry 88 .in .released 300000 792, entry 89 .in .closed 300100 1600, entry 90 .in .released 300301 40] }
        = (300099, 300100, 2) := by decide +kernel

/-- R161: the bank, row and column of a cell: c div 32 mod 4, c div 128 and 8 (c mod 32). -/
theorem test_cell_places : (cellBank 97, cellRow 97, cellColumn 97) = (3, 0, 8) ∧ (cellBank 128, cellRow 128) = (0, 1) := by
  decide

/-- The example of R69: 20 codes over a holding of 50. -/
theorem test_R69_example :
    after (exec (.linkText (List.replicate 20 0x41#8))
        (asks 0x20#8 (List.replicate 20 0x41#8) (onRouter (fun r => { r with linkText := List.replicate 50 0x42#7 }) base)))
      (fun t => decide (t.link.sending = some (.reply 0x20#8 ⟨.part 14, [14#8]⟩)) && decide (t.router.linkText.length = 64))
      = true := by decide +kernel

/-- The example of R183: the OVERRUN rejection of SET-PRINTER waits behind the reply to the STATUS that was held. -/
theorem test_R183_example :
    ((Link.answer 0x33#8 (ok []) { Link.reset with
        holding := [⟨0x33#8, []⟩, ⟨0x50#8, []⟩], overrun := some ⟨0x08#8, 1, 2⟩ }).answer 0x50#8 (ok [])).replies
      = [.reply 0x50#8 (ok []), .rejected .overrun 0x08#8 1] := by decide

/-- A frame on the wire: the sum of LEN, KIND, body and CHECK is 0 modulo 256 (10 section 10.1). -/
theorem test_frame_bytes : (OutFrame.reply 0x05#8 (plainAnswer .wrongState)).bytes = [0xA5#8, 0x02#8, 0x05#8, 0x03#8, 0xF6#8] := by
  decide

/-- Three characters that lie in the DRAM are read with one access and answered. -/
theorem test_read_message_waits_and_answers :
    after (exec (.readMessage [0, 1, 0, 0, 0, 200]) (asks 0x33#8 [0, 1, 0, 0, 0, 200] (withMessage .in .closed base)))
      (fun t => t.store.hostRead.isSome && after (exec .dramGrant t) fun u =>
        after (exec .dramAccessComplete u) fun v =>
          decide (v.link.sending = some (.reply 0x33#8 (ok [0, 0, 0, 3, 0x41, 0x42, 0x43])))) = true := by decide +kernel

/-! ### Steps and requests: what meets the hypotheses -/

theorem test_met_StepRunsFrontCommand :
    (∃ s : State, s.pending = [.refreshTimer, .powerOn]) ∧ ∃ s : State, s.pending = [] :=
  ⟨⟨{ base with pending := [.refreshTimer, .powerOn] }, rfl⟩, ⟨base, rfl⟩⟩

theorem test_met_CommandsKeepQueueAndMemory :
    (∃ (s t : State), exec .refreshTimer s = .next t)
    ∧ ∃ (s : State) (r : Fault), exec .dramAccessComplete s = .fault r :=
  ⟨⟨base, _, rfl⟩, ⟨onStore (fun x => { x with access := some ⟨.read .host 524288 true, 11⟩ }) base, .noSuchCell, rfl⟩⟩

theorem test_met_UntakenAndMalformedRequests :
    (∃ s : State, request? (.status []) = some (0x50#8, []) ∧ (0x50#8 : Byte) ≠ 0x52#8 ∧ s.linkFree = false)
    ∧ (∃ s : State, request? (.status []) = some (0x50#8, []) ∧ s.takes? 0x50#8 [] = none)
    ∧ ∃ s s0 : State, request? (.setPunch [8, 16]) = some (0x09#8, [8, 16]) ∧ lengthFits 0x09#8 [8, 16] = false
        ∧ s.asked 0x09#8 [8, 16] s0 :=
  ⟨⟨onLink (fun l => { l with rx := .stopped }) base, by decide +kernel⟩,
   ⟨onLink (fun l => { l with holding := [⟨0x51#8, []⟩] }) base, by decide +kernel⟩,
   ⟨_, _, rfl, by decide, asks_asked _ _ base⟩⟩

theorem test_met_ResetStationIsSoftReset :
    (∃ s s0 : State, s.asked 0x52#8 [] s0)
    ∧ (∃ (s : State) (h : HostRead) (f : Frame), s.store.hostRead = some h ∧ s.link.holding = [f, ⟨0x52#8, []⟩]
        ∧ s.link.replies.any OutFrame.isReply = false ∧ s.link.rx ≠ .stopped)
    ∧ ∃ s : State, s.link.sending = none → s.link.replies = [] :=
  ⟨⟨_, _, asks_asked _ _ base⟩,
   ⟨{ base with
      link := { base.link with holding := [⟨0x33#8, [0, 1, 0, 0, 0, 9]⟩, ⟨0x52#8, []⟩] }
      store := { base.store with hostRead := some ⟨1, 0, 3, []⟩ } }, ⟨1, 0, 3, []⟩, ⟨0x33#8, [0, 1, 0, 0, 0, 9]⟩, rfl, rfl,
      by decide +kernel⟩,
   ⟨base, fun _ => rfl⟩⟩

/-! ### Settings, tables and strings -/

theorem test_met_SetStationApplies :
    MetB 0x01#8 ([1, 0, 1, 0xFF, 0xFF, 0, 1]) (fun b _ =>
        b.length = 7 ∧ mode? (field1 b 0) = some .unattended ∧ onOff? (field1 b 5) = some true
        ∧ reportMode? (field1 b 6) = some .pull)
    ∧ MetB 0x01#8 ([2, 0, 1, 0, 0, 0, 1]) (fun b _ => b.length = 7 ∧ mode? (field1 b 0) = none)
    ∧ MetB 0x01#8 ([0, 0, 1, 0, 0, 2, 1]) (fun b _ => b.length = 7 ∧ onOff? (field1 b 5) = none)
    ∧ MetB 0x01#8 ([0, 0, 1, 0, 0, 1, 2]) (fun b _ => b.length = 7 ∧ reportMode? (field1 b 6) = none) :=
  ⟨metB base (by decide), metB base (by decide), metB base (by decide), metB base (by decide)⟩

theorem test_met_SetLineApplies :
    MetB 0x02#8 ([0, 3, 1, 0, 0, 1, 1, 0xF9, 0xFF, 0xFF, 2, 0, 5, 1]) (fun b _ =>
        b.length = 14 ∧ field2 b 2 = 256 ∧ onOff? (field1 b 4) = some true ∧ sense? (field1 b 5) = some .inverted
        ∧ onOff? (field1 b 6) = some false ∧ stopLength? (field1 b 10) = some .two ∧ onOff? (field1 b 11) = some true
        ∧ Rate.ofIndex? (field1 b 12) = some .r300 ∧ onOff? (field1 b 13) = some false)
    ∧ MetB 0x02#8 ([0, 3, 0, 255, 2, 2, 2, 0xF9, 0xFF, 0xFF, 3, 2, 6, 2]) (fun b _ =>
        b.length = 14 ∧ onOff? (field1 b 4) = none ∧ sense? (field1 b 5) = none
        ∧ onOff? (field1 b 6) = none ∧ stopLength? (field1 b 10) = none ∧ onOff? (field1 b 11) = none
        ∧ Rate.ofIndex? (field1 b 12) = none ∧ onOff? (field1 b 13) = none) :=
  ⟨metB base (by decide), metB base (by decide)⟩

/-- The body that loads a plane with the 32 entries given. -/
def tableBody (p ltrs figs : Byte) (entries : List Byte) : List Byte := [p, ltrs, figs] ++ entries

theorem test_met_LoadCodeTableFollowsR3 :
    MetB 0x03#8 (tableBody 0 31 27 (List.replicate 32 0x80#8)) (fun b _ => b.length = 35 ∧ (firstFault (tableFields b) = some 3)
        ∧ ∃ i, i < 32 ∧ tableEntry? (b.getD (3 + i) 0) = none)
    ∧ MetB 0x03#8 (tableBody 2 31 27 (List.replicate 32 0xFF#8)) (fun b _ => b.length = 35 ∧ plane? (field1 b 0) = none)
    ∧ MetB 0x03#8 (tableBody 1 31 27 (List.replicate 31 0xFF#8 ++ [0x7F#8])) (fun b s =>
        b.length = 35 ∧ plane? (field1 b 0) = some .figures ∧ rawCode? (b.getD 1 0) = some 31#5
        ∧ rawCode? (b.getD 2 0) = some 27#5 ∧ (∀ i, i < 32 → (tableEntry? (b.getD (3 + i) 0)).isSome)
        ∧ s.call.state = .idle ∧ s.kb.buffer = [] ∧ s.pu.queue = [] ∧ s.pu.chain = [])
    ∧ MetB 0x03#8 (tableBody 1 31 31 (List.replicate 32 0xFF#8)) (fun b _ =>
        b.length = 35 ∧ rawCode? (b.getD 1 0) = rawCode? (b.getD 2 0))
    ∧ Met 0x03#8 (tableBody 1 31 27 (List.replicate 32 0xFF#8)) fun s => s.call.state ≠ .idle :=
  ⟨metB base ⟨by decide, by decide +kernel, 31, by decide, by decide⟩, metB base (by decide), metB base (by decide +kernel),
   metB base (by decide), met (inCall .connected base) (by decide +kernel)⟩

theorem test_met_LoadKeymapReplaces :
    MetB 0x04#8 ([63, 1, 0, 0x41, 0x7F]) (fun b _ =>
        keymapFits b = true ∧ 1 ≤ field1 b 1 ∧ field1 b 0 + field1 b 1 ≤ 64
        ∧ ∀ i, i < field1 b 1 → (loadedKey b i).isSome)
    ∧ MetB 0x04#8 ([63, 2, 6, 0, 0, 6, 0, 0]) (fun b _ => keymapFits b = true ∧ 64 < field1 b 0 + field1 b 1)
    ∧ MetB 0x04#8 ([0, 0]) (fun b _ => keymapFits b = true ∧ field1 b 1 < 1)
    ∧ MetB 0x04#8 ([0, 65]) (fun b _ => keymapFits b = true ∧ 64 < field1 b 1)
    ∧ MetB 0x04#8 ([0, 1, 7, 0, 0]) (fun b _ =>
        keymapFits b = true ∧ ∃ i, i < field1 b 1 ∧ loadedKey b i = none)
    ∧ MetB 0x04#8 ([0, 1, 0, 0x80, 0]) (fun b _ =>
        keymapFits b = true ∧ ∃ i, i < field1 b 1 ∧ loadedKey b i = none) :=
  ⟨metB base (by decide), metB base (by decide), metB base (by decide), metB base (by decide),
   metB base ⟨by decide, 0, by decide, by decide⟩, metB base ⟨by decide, 0, by decide, by decide⟩⟩

theorem test_met_AnswerbackStringFollowsR11 :
    MetB 0x05#8 (List.replicate 21 0x41#8) (fun b _ => 20 < b.length)
    ∧ MetB 0x05#8 ([0x80]) (fun b _ => b.length ≤ 20 ∧ ∃ x ∈ b, 128 ≤ x.toNat)
    ∧ MetB 0x05#8 (List.replicate 20 0x7F#8) (fun b s =>
        b.length ≤ 20 ∧ (∀ x ∈ b, x.toNat < 128) ∧ s.tx.duty ≠ .none)
    ∧ MetB 0x05#8 (List.replicate 20 0x7F#8) (fun b s =>
        b.length ≤ 20 ∧ (∀ x ∈ b, x.toNat < 128) ∧ s.tx.duty = .none) :=
  ⟨metB base (by decide), metB base (by decide), metB (onTx (fun t => { t with duty := .pending }) base) (by decide),
   metB base (by decide)⟩

theorem test_met_EomSequenceFollowsR13 :
    MetB 0x06#8 (List.replicate 9 0x41#8) (fun b _ => 8 < b.length)
    ∧ MetB 0x06#8 (List.replicate 8 0xFF#8) (fun b _ => b.length ≤ 8 ∧ ∃ x ∈ b, 128 ≤ x.toNat)
    ∧ MetB 0x06#8 (List.replicate 8 0x4E#8) (fun b _ => b.length ≤ 8 ∧ ∀ x ∈ b, x.toNat < 128) :=
  ⟨metB base (by decide), metB base (by decide), metB base (by decide)⟩

theorem test_met_SetRoutesFollowsR65 :
    MetB 0x07#8 ([3, 0, 1, 1, 0, 1]) (fun b _ => b.length = 6 ∧ 2 < field1 b 0)
    ∧ MetB 0x07#8 ([2, 0, 1, 32, 0, 1]) (fun b _ => b.length = 6 ∧ ∃ i, i < 5 ∧ 32 ≤ field1 b (1 + i))
    ∧ MetB 0x07#8 ([2, 31, 1, 31, 4, 4]) (fun b _ =>
        b.length = 6 ∧ field1 b 0 ≤ 2 ∧ row? (b.getD 1 0) = some ⟨true, true, true, true, true⟩
        ∧ row? (b.getD 2 0) = some ⟨true, false, false, false, false⟩ ∧ row? (b.getD 3 0) = some ⟨true, true, true, true, true⟩
        ∧ row? (b.getD 4 0) = some ⟨false, false, true, false, false⟩
        ∧ row? (b.getD 5 0) = some ⟨false, false, true, false, false⟩)
    ∧ MetB 0x07#8 ([0, 9, 1, 1, 0, 1]) (fun b _ =>
        b.length = 6 ∧ field1 b 0 = 0 ∧ row? (b.getD 1 0) = some ⟨true, false, false, true, false⟩
        ∧ row? (b.getD 4 0) = some ⟨false, false, false, false, false⟩) :=
  ⟨metB base (by decide), metB base ⟨by decide, 2, by decide, by decide⟩, metB base (by decide), metB base (by decide)⟩

theorem test_met_SetPrinterApplies :
    MetB 0x08#8 ([19, 133, 1, 0, 0x7F]) (fun b s =>
        b.length = 5 ∧ policy? (field1 b 2) = some .autoNewline ∧ stationCode? (b.getD 4 0) = some 0x7F#7
        ∧ clampNat 20 132 (field1 b 0) < s.pr.column)
    ∧ MetB 0x08#8 ([73, 64, 0, 15, 0]) (fun b s =>
        b.length = 5 ∧ policy? (field1 b 2) = some .overprint ∧ stationCode? (b.getD 4 0) = some 0#7
        ∧ s.pr.lineLength < 73 ∧ s.pr.column < 73)
    ∧ MetB 0x08#8 ([72, 64, 2, 8, 0x80]) (fun b _ =>
        b.length = 5 ∧ policy? (field1 b 2) = none ∧ stationCode? (b.getD 4 0) = none) :=
  ⟨metB (onPr (fun p => { p with column := 21 }) base) (by decide),
   metB (onPr (fun p => { p with column := 72 }) base) (by decide), metB base (by decide)⟩

theorem test_met_SetPunchFollowsR136 :
    MetB 0x09#8 ([3, 0, 255]) (fun b _ => b.length = 3)
    ∧ (∃ s : State, s.pu.chain.length < 8) ∧ ∃ b : List Byte, field1 b 5 = 1 :=
  ⟨metB base (by decide), ⟨onPu (fun p => { p with chain := List.replicate 7 ⟨1, 0, 0, 0, false, 0, 0⟩ }) base, by decide⟩,
   ⟨[0, 1, 0, 0, 0, 1, 9, 1, 9], by decide⟩⟩

/-! ### Calls -/

/-- A ring waits for ANSWER. -/
def waiting : State := onCall (fun c => { c with state := .ringCheck, ringCount := 16, attendedWait := true, configured := true }) base

theorem test_met_CallRequests :
    Met 0x10#8 [] (fun s => s.call.attendedWait = false)
    ∧ Met 0x10#8 [] (fun s => s.call.attendedWait = true ∧ s.store.free < 1024)
    ∧ Met 0x10#8 [] (fun s => s.call.attendedWait = true ∧ 64 ≤ s.store.dir.length)
    ∧ Met 0x10#8 [] (fun s => s.call.attendedWait = true ∧ s.store.memInit = true)
    ∧ Met 0x10#8 [] (fun s => s.call.attendedWait = true ∧ s.store.memInit = false ∧ 1024 ≤ s.store.free
        ∧ s.store.dir.length < 64)
    ∧ Met 0x11#8 [] (fun s => s.call.state ≠ .idle) ∧ Met 0x11#8 [] (fun s => s.call.configured = false)
    ∧ Met 0x11#8 [] (fun s => s.call.state = .idle ∧ s.call.configured = true)
    ∧ Met 0x12#8 [] (fun s => s.call.state = .ringCheck ∧ s.call.attendedWait = true)
    ∧ Met 0x12#8 [] (fun s => s.call.state = .ringCheck ∧ s.call.attendedWait = false)
    ∧ Met 0x12#8 [] (fun s => s.call.state = .starting) ∧ Met 0x12#8 [] (fun s => s.call.state = .answering)
    ∧ Met 0x12#8 [] (fun s => s.call.state = .originating) ∧ Met 0x12#8 [] (fun s => s.call.state = .agreeing)
    ∧ Met 0x12#8 [] (fun s => s.call.state = .connected) ∧ Met 0x12#8 [] (fun s => s.call.state = .clearing)
    ∧ Met 0x12#8 [] (fun s => s.call.state = .idle) ∧ Met 0x12#8 [] (fun s => s.call.state = .standby) :=
  ⟨met base (by decide), met (onStore (fun x => { x with free := 1023 }) waiting) (by decide),
   met (onStore (fun x => { x with dir := List.replicate 64 (entry 1 .in .closed 0 0) }) waiting) (by decide +kernel),
   met (onStore (fun x => { x with memInit := true }) waiting) (by decide),
   met (onStore (fun x => { x with free := 1024, dir := List.replicate 63 (entry 1 .in .closed 0 0) }) waiting)
     (by decide +kernel),
   met (inCall .clearing base) (by decide), met base (by decide),
   met (onCall (fun c => { c with configured := true }) base) (by decide), met waiting (by decide),
   met (inCall .ringCheck base) (by decide), met (inCall .starting base) (by decide), met (inCall .answering base) (by decide),
   met (inCall .originating base) (by decide), met (inCall .agreeing base) (by decide), met (inCall .connected base) (by decide),
   met (inCall .clearing base) (by decide), met base (by decide), met (inCall .standby base) (by decide)⟩

theorem test_met_EntryToClearing :
    (∃ s : State, s.call.state = .connected ∧ s.rx.qt ≤ s.rx.q)
    ∧ (∃ s : State, s.call.state = .connected ∧ s.rx.q < s.rx.qt / 2 ∧ 64 ≤ s.rx.n)
    ∧ (∃ s : State, s.call.play.state = .running) ∧ (∃ s : State, s.call.play.state = .paused)
    ∧ (∃ s : State, s.call.play.state ≠ .running ∧ s.call.play.state ≠ .paused)
    ∧ Cause.noLoop ≠ .lineLost :=
  ⟨⟨onRx (fun r => { r with q := 1536 }) (inCall .connected base), by decide⟩,
   ⟨onRx (fun r => { r with q := 767, n := 64 }) (inCall .connected base), by decide⟩,
   ⟨onCall (fun c => { c with play := { c.play with state := .running } }) base, by decide⟩,
   ⟨onCall (fun c => { c with play := { c.play with state := .paused } }) base, by decide⟩, ⟨base, by decide⟩, by decide⟩

theorem test_met_RingReadings :
    (∃ s : State, s.call.lockout = true)
    ∧ (∃ s : State, s.call.lockout = false ∧ s.call.state = .idle)
    ∧ (∃ s : State, s.call.lockout = false ∧ s.call.state = .ringCheck ∧ s.call.ringCount = 14)
    ∧ (∃ s : State, s.call.lockout = false ∧ s.call.state = .ringCheck ∧ s.call.ringCount = 15)
    ∧ (∃ s : State, s.call.lockout = false ∧ s.call.state = .standby ∧ s.call.waking = false)
    ∧ (∃ s : State, s.call.lockout = false ∧ s.call.state = .standby ∧ s.call.waking = true ∧ s.call.ringCount = 0)
    ∧ (∃ s : State, s.call.lockout = false ∧ s.call.state = .standby ∧ s.call.waking = true ∧ s.call.ringCount = 15)
    ∧ (∃ s : State, s.call.lockout = false ∧ s.call.state ≠ .idle ∧ s.call.state ≠ .ringCheck ∧ s.call.state ≠ .standby)
    ∧ (∃ s : State, s.call.lockout = true ∧ s.call.quiet = 126) ∧ ∃ s : State, s.call.lockout = true ∧ s.call.quiet = 127 :=
  ⟨⟨onCall (fun c => { c with lockout := true }) base, by decide⟩, ⟨base, by decide⟩,
   ⟨onCall (fun c => { c with state := .ringCheck, ringCount := 14 }) base, by decide⟩,
   ⟨onCall (fun c => { c with state := .ringCheck, ringCount := 15 }) base, by decide⟩, ⟨inCall .standby base, by decide⟩,
   ⟨onCall (fun c => { c with state := .standby, waking := true }) base, by decide⟩,
   ⟨onCall (fun c => { c with state := .standby, waking := true, ringCount := 15 }) base, by decide⟩,
   ⟨inCall .connected base, by decide⟩,
   ⟨onCall (fun c => { c with lockout := true, quiet := 126 }) base, by decide⟩,
   ⟨onCall (fun c => { c with lockout := true, quiet := 127 }) base, by decide⟩⟩

/-- A ring about to qualify in a configured station. -/
def checking (m : Mode) : State :=
  onCall (fun c => { c with state := .ringCheck, ringCount := 15, configured := true, callMode := some m }) base

theorem test_met_RingQualifiedAndWait :
    (∃ s : State, s.call.state = .ringCheck ∧ s.call.attendedWait = false ∧ s.call.lockout = false ∧ s.call.configured = false)
    ∧ (∃ s : State, s.call.state = .ringCheck ∧ s.call.attendedWait = false ∧ s.call.lockout = false ∧ s.call.configured = true
        ∧ s.store.free < 1024)
    ∧ (∃ s : State, s.call.state = .ringCheck ∧ s.call.attendedWait = false ∧ s.call.lockout = false ∧ s.call.configured = true
        ∧ s.store.memInit = false ∧ 1024 ≤ s.store.free ∧ s.store.dir.length < 64 ∧ s.call.callMode = some .unattended)
    ∧ (∃ s : State, s.call.state = .ringCheck ∧ s.call.attendedWait = false ∧ s.call.lockout = false ∧ s.call.configured = true
        ∧ s.store.memInit = false ∧ 1024 ≤ s.store.free ∧ s.store.dir.length < 64 ∧ s.call.callMode ≠ some .unattended)
    ∧ (∃ s : State, s.call.lockout = true ∧ s.call.attendedWait = false)
    ∧ ∃ s : State, s.call.lockout = true ∧ s.call.attendedWait = true :=
  ⟨⟨inCall .ringCheck base, by decide⟩, ⟨onStore (fun x => { x with free := 1023 }) (checking .attended), by decide⟩,
   ⟨onStore (fun x => { x with free := 1024 }) (checking .unattended), by decide⟩, ⟨checking .attended, by decide⟩,
   ⟨onCall (fun c => { c with lockout := true }) base, by decide⟩,
   ⟨onCall (fun c => { c with lockout := true }) waiting, by decide⟩⟩

theorem test_met_LoopAndCallEnds :
    (∃ s : State, s.call.state = .answering) ∧ (∃ s : State, s.call.state = .originating)
    ∧ ∃ s : State, s.call.state = .clearing ∧ s.tx.signal = .clr 127 :=
  ⟨⟨inCall .answering base, by decide⟩, ⟨inCall .originating base, by decide⟩,
   ⟨onTx (fun t => { t with signal := .clr 127 }) (inCall .clearing base), by decide⟩⟩

theorem test_met_IdleClearAndStandbyAfter :
    (∃ s : State, s.call.state = .connected ∧ s.call.idleTimer.isSome = true)
    ∧ (∃ s : State, s.call.state = .idle ∧ s.call.standbyTimer.isSome = true ∧ s.standbyOk = true)
    ∧ ∃ s : State, s.call.state = .idle ∧ s.call.standbyTimer.isSome = true ∧ s.standbyOk = false :=
  ⟨⟨onCall (fun c => { c with state := .connected, idleTimer := some 1 }) base, by decide⟩, ⟨base, by decide +kernel⟩,
   ⟨{ base with pins := { base.pins with wake := true } }, by decide +kernel⟩⟩

theorem test_met_StandbyAndFramesSent :
    Met 0x15#8 [] (fun s => ({ s with link := { s.link with holding := s.link.holding.tail } }).standbyOk = true)
    ∧ Met 0x15#8 [] (fun s => ({ s with link := { s.link with holding := s.link.holding.tail } }).standbyOk = false)
    ∧ (∃ s : State, s.call.standbyPending = true ∧ s.link.sending = some (.reply 0x15#8 (ok []))
        ∧ s.link.replies.any OutFrame.isStandbyOk = false
        ∧ ({ s with link := { s.link with sending := none }, call := { s.call with standbyPending := false } }).standbyOk = true)
    ∧ (∃ s : State, s.call.standbyPending = true ∧ s.link.sending = some (.reply 0x15#8 (ok []))
        ∧ s.link.replies.any OutFrame.isStandbyOk = true
        ∧ ({ s with link := { s.link with sending := none }, call := { s.call with standbyPending := true } }).standbyOk = false)
    ∧ (∃ (s : State), s.link.sending = some (.report .ring) ∧ s.call.standbyPending = false)
    ∧ (∃ l : Link, l.sending = none ∧ l.replies = [.reply 0x15#8 (ok [])])
    ∧ (∃ l : Link, l.sending = none ∧ l.replies = [] ∧ l.mode = .push ∧ headReport? l.reports = some .ring)
    ∧ (∃ l : Link, l.sending = none ∧ l.replies = [] ∧ l.mode = .pull) ∧ ∃ l : Link, l.sending = none ∧ l.replies = [] ∧ l.reports = [] :=
  ⟨met base (by decide +kernel), met (onPr (fun p => { p with state := .ready }) base) (by decide +kernel),
   ⟨{ base with
      call := { base.call with standbyPending := true }
      link := { base.link with sending := some (.reply 0x15#8 (ok [])) } }, by decide +kernel⟩,
   ⟨{ base with
      call := { base.call with standbyPending := true }
      link := { base.link with sending := some (.reply 0x15#8 (ok [])), replies := [.reply 0x15#8 (ok [])] } }, by decide +kernel⟩,
   ⟨onLink (fun l => { l with sending := some (.report .ring) }) base, by decide⟩,
   ⟨{ Link.reset with replies := [.reply 0x15#8 (ok [])] }, by decide⟩,
   ⟨{ Link.reset with reports := [.paperOut, .ring] }, by decide⟩, ⟨{ Link.reset with mode := .pull }, by decide⟩,
   ⟨Link.reset, by decide⟩⟩

theorem test_met_WakeEvents :
    (∃ s : State, s.call.state = .standby ∧ s.call.waking = false ∧ s.call.lockout = false ∧ (1 : BitVec 8) ≠ s.kb.noted)
    ∧ (∃ s : State, s.call.state = .standby ∧ s.call.waking = false ∧ s.call.lockout = true)
    ∧ (∃ s : State, s.call.state ≠ .standby)
    ∧ (∃ s : State, s.call.state = .standby ∧ s.call.waking = true ∧ s.call.ringCount = 1)
    ∧ ∃ s : State, s.call.state = .standby ∧ s.call.waking = true ∧ s.call.ringCount = 0 :=
  ⟨⟨inCall .standby base, by decide⟩, ⟨onCall (fun c => { c with lockout := true }) (inCall .standby base), by decide⟩,
   ⟨base, by decide⟩, ⟨onCall (fun c => { c with state := .standby, waking := true, ringCount := 1 }) base, by decide⟩,
   ⟨onCall (fun c => { c with state := .standby, waking := true }) base, by decide⟩⟩

/-- A ring that begins a wake fixes the call mode at its first tick; one lost within the wake gives it up (R138, R159; log 37). -/
theorem test_wake_fixes_the_call_mode :
    let asleep : State := onCall (fun c => { c with mode := .unattended }) (inCall .standby base)
    after (exec (.wakeEvent .ring) asleep) (fun t => decide (t.call.callMode = some .unattended)
      && after (exec .wakeComplete t) (fun u => decide (u.call.state = .ringCheck) && decide (u.call.callMode = some .unattended))
      && after (exec .ringAbsent t) fun u => decide (u.call.callMode = none)) = true := by
  decide +kernel

/-- WAKE asserted within a wake that a ring began stands after it, and keeps the part out of STANDBY (R157, R159; log 61). -/
theorem test_wake_asserted_within_a_wake :
    after (exec (.wakeEvent .ring) (inCall .standby base)) (fun t => after (exec (.wakeEvent .wakeInput) t) fun u =>
      decide (u.call = t.call) && after (exec .wakeComplete u) fun v => v.pins.wake && !v.standbyOk) = true := by
  decide +kernel

/-! ### The transmitter, the answerback and rate agreement -/

theorem test_met_BreakSent :
    Met 0x13#8 [] (fun s => s.call.state ≠ .connected)
    ∧ Met 0x13#8 [] (fun s => s.call.state = .connected ∧ s.tx.signal ≠ .none)
    ∧ Met 0x13#8 [] (fun s => s.call.state = .connected ∧ s.tx.signal = .none ∧ s.call.play.state ≠ .running)
    ∧ Met 0x13#8 [] (fun s => s.call.state = .connected ∧ s.tx.signal = .none ∧ s.call.play.state = .running)
    ∧ ∃ s : State, s.tx.signal = .brk 19 :=
  ⟨met base (by decide), met (onTx (fun t => { t with signal := .brk 0 }) (inCall .connected base)) (by decide),
   met (inCall .connected base) (by decide),
   met (onCall (fun c => { c with play := { c.play with state := .running } }) (inCall .connected base)) (by decide),
   ⟨onTx (fun t => { t with signal := .brk 19 }) base, rfl⟩⟩

/-- With an answerback string of one code. -/
def named (s : State) : State := onConv (fun c => { exampleTable c with answerback := [0x41#7] }) s

theorem test_met_SendAnswerback :
    Met 0x14#8 [] (fun s => s.call.state ≠ .idle ∧ s.call.state ≠ .agreeing ∧ s.call.state ≠ .connected)
    ∧ Met 0x14#8 [] (fun s => s.call.state = .connected ∧ s.tx.duty ≠ .none)
    ∧ Met 0x14#8 [] (fun s => s.call.state = .agreeing ∧ s.tx.duty = .none ∧ s.conv.answerback = [])
    ∧ Met 0x14#8 [] (fun s => s.call.state = .connected ∧ s.tx.duty = .none ∧ s.conv.answerback ≠ [] ∧ s.call.state ≠ .idle)
    ∧ Met 0x14#8 [] (fun s => s.call.state = .idle ∧ s.tx.duty = .none ∧ s.conv.answerback ≠ []) :=
  ⟨met (inCall .clearing base) (by decide), met (onTx (fun t => { t with duty := .sending }) (inCall .connected base)) (by decide),
   met (inCall .agreeing base) (by decide), met (named (inCall .connected base)) (by decide), met (named base) (by decide)⟩

/-- An entry stands in FRONT. -/
def fronted (x : Slot) (sent : Bool) (s : State) : State := onTx (fun t => { t with front := some ⟨x, sent, .r50, .two, 0⟩ }) s

theorem test_met_SentPointAndStop :
    (∃ (s : State) (f : Front), s.tx.front = some f ∧ f.sent = false ∧ f.slot.source = .offer ∧ f.slot.kind = .offerCode 3 true
        ∧ s.agr.active = true)
    ∧ (∃ (s : State) (f : Front), s.tx.front = some f ∧ f.sent = false ∧ f.slot.source = .offer ∧ f.slot.kind ≠ .offerCode 3 true)
    ∧ (∃ (s : State) (f : Front), s.tx.front = some f ∧ f.sent = false ∧ f.slot.source = .answerback ∧ f.slot.kind = .char
        ∧ s.tx.duty ≠ .none)
    ∧ (∃ (s : State) (f : Front), s.tx.front = some f ∧ f.sent = false ∧ f.slot.source = .playback ∧ f.slot.kind = .char
        ∧ s.call.play.state = .running ∧ s.call.play.run = f.slot.run)
    ∧ (∃ (s : State) (f : Front), s.tx.front = some f ∧ f.sent = false ∧ f.slot.source = .keyboard)
    ∧ (∃ (s : State) (f : Front) (x : Slot), s.tx.front = some f ∧ f.sent = true ∧ s.tx.next = some x)
    ∧ (∃ (s : State) (f : Front) (x : Slot), s.tx.front = some f ∧ f.sent = true ∧ s.tx.next = none ∧ s.conv.held = some x)
    ∧ ∃ (s : State) (f : Front), s.tx.front = some f ∧ f.sent = true ∧ s.tx.next = none ∧ s.conv.held = none :=
  ⟨⟨onAgr (fun a => { a with active := true }) (fronted ⟨1, .offer, .offerCode 3 true, 0, 0⟩ false base), _, rfl, by decide⟩,
   ⟨fronted ⟨1, .offer, .offerCode 3 false, 0, 0⟩ false base, _, rfl, by decide⟩,
   ⟨onTx (fun t => { t with duty := .sending }) (fronted ⟨1, .answerback, .char, 0, 0⟩ false base), _, rfl, by decide⟩,
   ⟨onCall (fun c => { c with play := { c.play with state := .running, run := 1 } })
      (fronted ⟨1, .playback, .char, 2, 1⟩ false base), _, rfl, by decide⟩,
   ⟨fronted ⟨1, .keyboard, .char, 0, 0⟩ false base, _, rfl, by decide⟩,
   ⟨onTx (fun t => { t with next := some ⟨1, .keyboard, .char, 0, 0⟩ }) (fronted ⟨1, .keyboard, .char, 0, 0⟩ true base), _, _,
      rfl, rfl, rfl⟩,
   ⟨onConv (fun c => { c with held := some ⟨1, .keyboard, .char, 0, 0⟩ }) (fronted ⟨31, .keyboard, .shift, 0, 0⟩ true base), _,
      _, rfl, rfl, rfl, rfl⟩,
   ⟨fronted ⟨1, .keyboard, .char, 0, 0⟩ true base, _, rfl, by decide⟩⟩

/-- A connected call with the transmitter open, a code table and an answerback string. -/
def talking : State := named (inCall .connected base)

theorem test_met_ArbiterFill :
    (∃ s : State, s.tx.next.isSome = true) ∧ (∃ s : State, s.txOpen = false)
    ∧ (∃ s : State, s.tx.next = none ∧ s.txOpen = true ∧ s.conv.held.isSome = true ∧ s.tx.front.isSome = true)
    ∧ (∃ s : State, s.tx.next = none ∧ s.txOpen = true ∧ s.conv.held.isSome = true ∧ s.tx.front = none)
    ∧ (∃ s : State, s.tx.next = none ∧ s.txOpen = true ∧ s.conv.held = none ∧ s.call.state = .agreeing ∧ s.agr.active = true
        ∧ s.agr.formed = 1)
    ∧ (∃ s : State, s.tx.next = none ∧ s.txOpen = true ∧ s.conv.held = none ∧ s.call.state = .agreeing ∧ s.agr.formed = 2)
    ∧ (∃ a : Agreement, a.nextCode = 0) ∧ (∃ a : Agreement, a.nextCode = 1) ∧ (∃ a : Agreement, a.nextCode = 2)
    ∧ (∃ a : Agreement, a.nextCode = 3)
    ∧ (∃ s : State, s.tx.next = none ∧ s.txOpen = true ∧ s.conv.held = none ∧ s.call.state = .connected ∧ s.tx.duty ≠ .none
        ∧ s.tx.given = 4 ∧ ([0x03#7, 0x04#7] ++ s.conv.answerback ++ [0x03#7, 0x04#7])[s.tx.given]? = some 0x04#7)
    ∧ (∃ s : State, s.tx.next = none ∧ s.txOpen = true ∧ s.conv.held = none ∧ s.call.state = .connected ∧ s.tx.duty = .none
        ∧ s.call.play.state = .running ∧ s.call.play.buf = [0x41#7])
    ∧ (∃ s : State, s.tx.next = none ∧ s.txOpen = true ∧ s.conv.held = none ∧ s.call.state = .connected ∧ s.tx.duty = .none
        ∧ s.call.play.state ≠ .running ∧ s.kb.buffer = [0x41#7] ∧ (s.row .keyboard).lineOut = true
        ∧ s.sinksReady .keyboard = true)
    ∧ (∃ s : State, s.tx.next = none ∧ s.txOpen = true ∧ s.conv.held = none ∧ s.call.state = .connected ∧ s.tx.duty = .none
        ∧ s.call.play.state ≠ .running ∧ s.kb.buffer = [] ∧ s.router.linkText = [0x41#7] ∧ (s.row .linkText).lineOut = true
        ∧ s.sinksReady .linkText = true)
    ∧ (∃ s : State, s.tx.next = none ∧ s.txOpen = true ∧ s.conv.held = none ∧ s.call.state = .connected ∧ s.tx.duty = .none
        ∧ s.call.play.state ≠ .running ∧ s.kb.buffer = [] ∧ s.router.linkText = []) :=
  ⟨⟨onTx (fun t => { t with next := some ⟨1, .keyboard, .char, 0, 0⟩ }) base, by decide⟩, ⟨base, by decide⟩,
   ⟨onConv (fun c => { c with held := some ⟨1, .keyboard, .char, 0, 0⟩ }) (fronted ⟨31, .keyboard, .shift, 0, 0⟩ true talking),
      by decide⟩,
   ⟨onConv (fun c => { c with held := some ⟨1, .keyboard, .char, 0, 0⟩ }) talking, by decide⟩,
   ⟨onAgr (fun a => { a with active := true, formed := 1 }) (inCall .agreeing base), by decide⟩,
   ⟨onAgr (fun a => { a with active := true, formed := 2 }) (inCall .agreeing base), by decide⟩,
   ⟨Agreement.reset, rfl⟩, ⟨{ Agreement.reset with nextCode := 1 }, rfl⟩, ⟨{ Agreement.reset with nextCode := 2 }, rfl⟩,
   ⟨{ Agreement.reset with nextCode := 3 }, rfl⟩,
   ⟨onTx (fun t => { t with duty := .sending, given := 4 }) talking, by decide⟩,
   ⟨onCall (fun c => { c with play := { c.play with state := .running, buf := [0x41#7] } }) talking, by decide⟩,
   ⟨onKb (fun k => { k with buffer := [0x41#7] }) talking, by decide⟩,
   ⟨onRouter (fun r => { r with linkText := [0x41#7] }) talking, by decide⟩, ⟨talking, by decide⟩⟩

/-- The three ways of a character at LINE-OUT: unsendable, sent as it is, sent after a shift code. -/
theorem test_met_ArbiterFill_encoding :
    (fun (c : StationCode) =>
      (takeAt .keyboard (talking.row .keyboard) c talking).1.conv.encode
        (takeAt .keyboard (talking.row .keyboard) c talking).1.conv.txPlane c) 0x42#7 = none
    ∧ (takeAt .keyboard (talking.row .keyboard) 0x20#7 talking).1.conv.encode
        (takeAt .keyboard (talking.row .keyboard) 0x20#7 talking).1.conv.txPlane 0x20#7 = some ⟨none, 4#5, .letters⟩
    ∧ (takeAt .keyboard (talking.row .keyboard) 0x31#7 talking).1.conv.encode
        (takeAt .keyboard (talking.row .keyboard) 0x31#7 talking).1.conv.txPlane 0x31#7 = some ⟨some 27#5, 23#5, .figures⟩ := by
  decide +kernel

theorem test_met_AgreementTimers :
    (∃ s : State, s.call.state = .agreeing ∧ s.agr.offerSeen = false ∧ s.agr.timer = 191)
    ∧ ∃ s : State, s.call.state = .agreeing ∧ s.agr.rxSwitched = false :=
  ⟨⟨onAgr (fun a => { a with timer := 191 }) (inCall .agreeing base), by decide⟩, ⟨inCall .agreeing base, by decide⟩⟩

/-! ### The line receiver -/

theorem test_met_ReceiverEvents :
    (∃ s : State, Level.space = s.rx.level.flip ∧ s.rx.dateFits 0 = true ∧ s.call.state ≠ .standby ∧ s.rx.state = .hunt
        ∧ s.call.state.assembles = true)
    ∧ (∃ s : State, Level.mark = s.rx.level.flip ∧ s.rx.dateFits 0 = true ∧ s.call.state ≠ .standby ∧ s.rx.state = .hunt)
    ∧ (∃ s : State, Level.mark = s.rx.level.flip ∧ s.rx.dateFits 3 = true ∧ s.call.state ≠ .standby
        ∧ s.rx.state = .startCheck)
    ∧ (∃ s : State, Level.mark = s.rx.level.flip ∧ s.rx.dateFits 17 = true ∧ s.call.state ≠ .standby ∧ s.rx.state = .assemble
        ∧ (17 : Int) < 208 + s.rx.sc ∧ s.rx.measured.length < 6
        ∧ s.rx.measured.all (fun x => x.1 != 32 * ((17 + 16) / 32)) = true)
    ∧ (∃ s : State, Level.mark = s.rx.level.flip ∧ s.rx.dateFits 208 = true ∧ s.call.state ≠ .standby ∧ s.rx.state = .assemble
        ∧ ¬(208 : Int) < 208 + s.rx.sc)
    ∧ (∃ s : State, Level.mark = s.rx.level.flip ∧ s.rx.dateFits 0 = true ∧ s.call.state ≠ .standby ∧ s.rx.state = .waitMark)
    ∧ (∃ s : State, Level.space = s.rx.level.flip ∧ s.rx.dateFits 0 = true ∧ s.call.state ≠ .standby ∧ s.rx.state = .waitMark)
    ∧ ¬(Level.mark = Level.mark ∧ Level.space = Level.mark)
    ∧ (∃ s : State, s.rx.state = .startCheck ∧ s.rx.level = .space) ∧ ∃ s : State, s.rx.state = .startCheck ∧ s.rx.level = .mark :=
  ⟨⟨inCall .connected base, by decide⟩, ⟨onRx (fun r => { r with level := .space }) base, by decide⟩,
   ⟨onRx (fun r => { r with level := .space, state := .startCheck, edges := [(0, .space)] }) base, by decide⟩,
   ⟨onRx (fun r => { r with level := .space, state := .assemble, edges := [(0, .space)] }) base, by decide⟩,
   ⟨onRx (fun r => { r with level := .space, state := .assemble, edges := [(0, .space)] }) base, by decide⟩,
   ⟨onRx (fun r => { r with level := .space, state := .waitMark }) base, by decide⟩,
   ⟨onRx (fun r => { r with state := .waitMark }) base, by decide⟩, by decide,
   ⟨onRx (fun r => { r with state := .startCheck, level := .space }) base, by decide⟩,
   ⟨onRx (fun r => { r with state := .startCheck }) base, by decide⟩⟩

/-- A character of five mark units ends well in a call state. -/
def received (c : CallState) : State :=
  onRx (fun r => { r with state := .assemble, edges := [(0, .space), (32, .mark)], measured := [(32, 0)] }) (inCall c base)

theorem test_met_CharacterReceived :
    (∃ s : State, s.rx.state = .assemble ∧ s.call.state = .agreeing
        ∧ (agreementTake (some s.rx.rawCode) { s with rx := s.rx.updated.ended s.rx.isGood
                                                      store := s.store.handQ s.rx.updated.q }).2 = true)
    ∧ (∃ s : State, s.rx.state = .assemble ∧ s.call.state = .agreeing
        ∧ (agreementTake (some s.rx.rawCode) { s with rx := s.rx.updated.ended s.rx.isGood
                                                      store := s.store.handQ s.rx.updated.q }).2 = false)
    ∧ (∃ s : State, s.rx.state = .assemble ∧ s.call.state = .connected ∧ levelAt s.rx.edges (208 + s.rx.sc) = .mark)
    ∧ (∃ s : State, s.rx.state = .assemble ∧ s.call.state = .connected ∧ levelAt s.rx.edges (208 + s.rx.sc) = .space)
    ∧ (∃ s : State, s.rx.state = .assemble ∧ s.call.state = .clearing)
    ∧ (∃ s : State, s.rx.state = .assemble ∧ s.rx.orientation = false) ∧ ∃ s : State, s.rx.state = .assemble ∧ s.rx.measured = [] :=
  ⟨⟨received .agreeing, by decide⟩, ⟨onAgr (fun a => { a with offerSeen := true }) (received .agreeing), by decide⟩,
   ⟨received .connected, by decide⟩, ⟨onRx (fun r => { r with edges := [(0, .space)] }) (received .connected), by decide⟩,
   ⟨received .clearing, by decide⟩, ⟨onRx (fun r => { r with orientation := false }) (received .clearing), by decide⟩,
   ⟨onRx (fun r => { r with measured := [] }) (received .clearing), by decide⟩⟩

theorem test_met_ConverterTakes :
    (∃ s : State, s.conv.ltrsShift = some 31#5) ∧ (∃ s : State, s.conv.ltrsShift ≠ some 27#5 ∧ s.conv.figsShift = some 27#5)
    ∧ (∃ s : State, s.conv.designated 3#5 = false ∧ s.call.state = .connected
        ∧ (s.conv.table s.conv.rxPlane).entry 3#5 = some 0x41#7)
    ∧ (∃ s : State, s.conv.designated 0#5 = false ∧ s.call.state = .connected ∧ (s.conv.table s.conv.rxPlane).entry 0#5 = none)
    ∧ (∃ s : State, (eomMatch s.conv.eom s.conv.m 0x41#7).2 = false)
    ∧ (∃ s : State, (eomMatch s.conv.eom s.conv.m 0x4E#7).2 = true)
    ∧ (∃ s : State, (s.row .lineIn).store = true ∧ s.store.open? .in = some (entry 1 .in .open 0 3))
    ∧ (∃ s : State, (s.row .lineIn).store = true ∧ s.store.open? .in = none ∧ s.store.free = 1)
    ∧ ∃ s : State, (s.row .lineIn).store = true ∧ s.store.open? .in = none ∧ s.store.dir.length < 64 ∧ s.store.free = 2
        ∧ ((openIncoming (s.row .lineIn) s).store.open? .in).isSome = true :=
  ⟨⟨talking, rfl⟩, ⟨talking, by decide⟩, ⟨talking, by decide⟩, ⟨talking, by decide⟩, ⟨talking, by decide⟩,
   ⟨onConv (fun c => { c with eom := [0x4E#7, 0x4E#7], m := 1 }) talking, by decide⟩,
   ⟨withMessage .in .open talking, by decide⟩, ⟨onStore (fun x => { x with free := 1 }) talking, by decide⟩,
   ⟨onStore (fun x => { x with free := 2 }) talking, by decide⟩⟩

/-- A run of space on the line. -/
def spacing (c : CallState) : State := onRx (fun r => { r with level := .space, spaceCount := 96 }) (inCall c base)

theorem test_met_LineConditions :
    (∃ s : State, s.rx.level = .space ∧ s.rx.breakReady = true ∧ s.call.state = .connected)
    ∧ (∃ s : State, s.rx.level = .space ∧ s.rx.breakReady = true ∧ s.call.state = .agreeing ∧ s.agr.rxSwitched = true)
    ∧ (∃ s : State, s.rx.level = .space ∧ s.rx.breakReady = true ∧ s.call.state = .agreeing ∧ s.agr.rxSwitched = false)
    ∧ (∃ s : State, s.call.play.state = .running)
    ∧ (∃ s : State, s.call.state = .agreeing ∧ s.rx.level = .space ∧ s.rx.clearReady = true ∧ s.rx.breakReady = false
        ∧ s.rx.goodSeen = false ∧ s.rx.autoPolarity = true ∧ s.rx.inversionMade = false)
    ∧ (∃ s : State, s.call.state = .connected ∧ s.rx.level = .space ∧ s.rx.clearReady = true ∧ s.rx.breakReady = false
        ∧ s.rx.goodSeen = true)
    ∧ (∃ s : State, s.call.state = .connected ∧ s.rx.level = .space ∧ s.rx.clearReady = true ∧ s.rx.breakReady = false
        ∧ s.rx.inversionMade = true) :=
  ⟨⟨spacing .connected, by decide⟩, ⟨onAgr (fun a => { a with rxSwitched := true }) (spacing .agreeing), by decide⟩,
   ⟨spacing .agreeing, by decide⟩, ⟨onCall (fun c => { c with play := { c.play with state := .running } }) base, by decide⟩,
   ⟨onRx (fun r => { r with breakReady := false }) (spacing .agreeing), by decide⟩,
   ⟨onRx (fun r => { r with breakReady := false, goodSeen := true }) (spacing .connected), by decide⟩,
   ⟨onRx (fun r => { r with breakReady := false, inversionMade := true }) (spacing .connected), by decide⟩⟩

theorem test_met_MatcherFindsLongest :
    LongestMatch [0x2B#7, 0x2B#7, 0x4E#7] [0x41#7, 0x2B#7, 0x2B#7] 2 ∧ LongestMatch [0x4E#7] [] 0 := by
  unfold LongestMatch; decide

/-! ### The router -/

theorem test_met_HoldingSourcesAndSinks_sources :
    (∃ s : State, s.call.state ≠ .standby ∧ s.kb.buffer = [0x41#7] ∧ (s.row .keyboard).lineOut = false
        ∧ s.sinksReady .keyboard = true)
    ∧ (∃ s : State, s.call.state ≠ .standby ∧ s.router.linkText = [0x41#7] ∧ (s.row .linkText).lineOut = false
        ∧ s.sinksReady .linkText = true)
    ∧ (∃ s : State, s.call.state ≠ .standby ∧ s.kb.buffer = [0x41#7] ∧ (s.row .keyboard).lineOut = true)
    ∧ (∃ s : State, s.call.state ≠ .standby ∧ s.kb.buffer = [0x41#7] ∧ s.sinksReady .keyboard = false)
    ∧ (∃ s : State, s.call.state ≠ .standby ∧ s.router.linkText = [] ∧ s.kb.buffer = [])
    ∧ (∃ s : State, s.pr.lostPending = true ∧ s.pr.queue.length = 63) ∧ (∃ s : State, s.pr.lostPending = false)
    ∧ ∃ s : State, s.pr.lostPending = true ∧ s.pr.queue.length = 64 :=
  ⟨⟨onKb (fun k => { k with buffer := [0x41#7] }) base, by decide⟩,
   ⟨onRouter (fun r => { r with linkText := [0x41#7] }) base, by decide⟩,
   ⟨onKb (fun k => { k with buffer := [0x41#7] }) talking, by decide⟩,
   ⟨onPr (fun p => { p with queue := List.replicate 64 ⟨0x41#7, none⟩ }) (onKb (fun k => { k with buffer := [0x41#7] }) base),
      by decide +kernel⟩, ⟨base, by decide⟩,
   ⟨onPr (fun p => { p with lostPending := true, queue := List.replicate 63 ⟨0x41#7, none⟩ }) base, by decide +kernel⟩,
   ⟨base, by decide⟩,
   ⟨onPr (fun p => { p with lostPending := true, queue := List.replicate 64 ⟨0x41#7, none⟩ }) base, by decide +kernel⟩⟩

theorem test_met_HoldingSourcesAndSinks_sinks :
    (∃ s : State, s.pr.unavailable = true) ∧ (∃ s : State, s.pr.unavailable = false ∧ s.pr.queue.length = 63)
    ∧ (∃ s : State, s.pr.unavailable = false ∧ s.pr.queue.length = 64) ∧ (∃ s : State, s.pr.mode = .catchUp)
    ∧ (∃ s : State, s.pr.mode = .direct ∧ s.pr.queue.length = 63) ∧ (∃ s : State, s.pr.mode = .direct ∧ s.pr.queue.length = 64)
    ∧ (∃ s : State, s.pu.chain = [] ∧ s.pu.queue.length = 31) ∧ (∃ s : State, s.pu.queue.length = 32)
    ∧ (∃ s : State, s.link.joinsText .keyboard = true)
    ∧ (∃ s : State, s.link.joinsText .keyboard = false ∧ s.link.reports.length = 23)
    ∧ (∃ s : State, s.link.joinsText .keyboard = false ∧ s.link.reports.length = 24)
    ∧ ∀ r ∈ [Report.ring], r.isText = false :=
  ⟨⟨onPr (fun p => { p with unavailable := true }) base, rfl⟩,
   ⟨onPr (fun p => { p with queue := List.replicate 63 ⟨0x41#7, none⟩ }) base, by decide +kernel⟩,
   ⟨onPr (fun p => { p with queue := List.replicate 64 ⟨0x41#7, none⟩ }) base, by decide +kernel⟩,
   ⟨onPr (fun p => { p with mode := .catchUp }) base, rfl⟩,
   ⟨onPr (fun p => { p with queue := List.replicate 63 ⟨0x41#7, none⟩ }) base, by decide +kernel⟩,
   ⟨onPr (fun p => { p with queue := List.replicate 64 ⟨0x41#7, none⟩ }) base, by decide +kernel⟩,
   ⟨onPu (fun p => { p with queue := List.replicate 31 .ltrs }) base, by decide⟩,
   ⟨onPu (fun p => { p with queue := List.replicate 32 .ltrs }) base, by decide⟩,
   ⟨onLink (fun l => { l with reports := [.text .keyboard (List.replicate 15 0x41#7), .ring] }) base, by decide⟩,
   ⟨onLink (fun l => { l with
      reports := List.replicate 22 (.text .lineIn [0x41#7]) ++ [.text .keyboard (List.replicate 16 0x41#7)] }) base, by decide⟩,
   ⟨onLink (fun l => { l with reports := List.replicate 24 (.text .lineIn [0x41#7]) }) base, by decide⟩, by decide⟩

theorem test_met_LinkTextFollowsR69 :
    (∃ s : State, s.router.linkText = [0x41#7])
    ∧ (∃ s s0 t : State, s.asked 0x20#8 [0x41#8] s0 ∧ s0.router.linkText.length ≤ 64 ∧ exec (.linkText [0x41#8]) s = .next t)
    ∧ MetB 0x20#8 [0x80#8] (fun b _ => b.length ≤ 240 ∧ ∃ x ∈ b, 128 ≤ x.toNat)
    ∧ MetB 0x20#8 [] (fun b _ => b.length ≤ 240 ∧ b = [])
    ∧ MetB 0x20#8 (List.replicate 64 0x7F#8) (fun b s => b.length ≤ 240 ∧ (∀ x ∈ b, x.toNat < 128) ∧ b ≠ []
        ∧ s.router.linkText.length + b.length = 64)
    ∧ MetB 0x20#8 [0x41#8, 0x42#8] (fun b s => b.length ≤ 240 ∧ (∀ x ∈ b, x.toNat < 128) ∧ s.router.linkText.length = 63
        ∧ 64 < s.router.linkText.length + b.length)
    ∧ MetB 0x20#8 [0x41#8] (fun b s => b.length ≤ 240 ∧ (∀ x ∈ b, x.toNat < 128) ∧ b ≠ [] ∧ s.router.linkText.length = 64) :=
  ⟨⟨onRouter (fun r => { r with linkText := [0x41#7] }) base, rfl⟩, ⟨_, _, _, asks_asked _ _ base, by decide, rfl⟩,
   metB base (by decide), metB base (by decide), metB base (by decide +kernel),
   metB (onRouter (fun r => { r with linkText := List.replicate 63 0x41#7 }) base) (by decide +kernel),
   metB (onRouter (fun r => { r with linkText := List.replicate 64 0x41#7 }) base) (by decide +kernel)⟩

/-! ### The keyboard -/

/-- A keyboard past its first scan, with one key of each kind from key 0 upward. -/
def typing (s : State) : State :=
  onKb (fun k => { k with
    fresh := false
    keymap := ((((((k.keymap.set 0 (.char 0x61#7 0x41#7)).set 1 .shift).set 2 .rept).set 3 .brk).set 4 .hereIs).set 5 .localLine) }) s

/-- The places of some keys in the key-down list. -/
def listed (ds : List DownKey) (s : State) : State :=
  onKb (fun k => { k with list := ds, keys := ds.foldl (fun v d => v.setIfInBounds d.key .recognised) k.keys }) s

theorem test_met_KeyDownActs :
    (∃ s : State, s.kb.running = true ∧ s.kb.fresh = false ∧ s.kb.stateOf 9 = .up ∧ s.kb.inRectangle 9 = true)
    ∧ (∃ s : State, s.kb.running = true ∧ s.kb.fresh = false ∧ s.kb.stateOf 63 = .up ∧ s.kb.inRectangle 63 = false
        ∧ s.kb.list.length = 4)
    ∧ (∃ s : State, s.kb.running = true ∧ s.kb.fresh = false ∧ s.kb.stateOf 0 = .up ∧ s.kb.inRectangle 0 = false
        ∧ s.kb.list.length = 3 ∧ (s.kb.keymap[0]?).getD .none = .char 0x61#7 0x41#7 ∧ s.kb.buffer.length = 31)
    ∧ (∃ s : State, s.kb.running = true ∧ s.kb.fresh = false ∧ s.kb.stateOf 0 = .up ∧ s.kb.inRectangle 0 = false
        ∧ s.kb.list.length < 4 ∧ (s.kb.keymap[0]?).getD .none = .char 0x61#7 0x41#7 ∧ s.kb.buffer.length = 32)
    ∧ (∃ s : State, s.kb.running = true ∧ s.kb.fresh = false ∧ (∀ k ∈ List.range 6, s.kb.stateOf k = .up)
        ∧ (∀ k ∈ List.range 6, s.kb.inRectangle k = false) ∧ s.kb.list.length < 4
        ∧ (s.kb.keymap[1]?).getD .none = .shift ∧ (s.kb.keymap[2]?).getD .none = .rept
        ∧ (s.kb.keymap[3]?).getD .none = .brk ∧ (s.kb.keymap[4]?).getD .none = .hereIs
        ∧ (s.kb.keymap[5]?).getD .none = .localLine ∧ (s.kb.keymap[6]?).getD .none = .none
        ∧ s.kb.list.any (fun d => d.kind == .rept) = false ∧ (touchStandby s).call.state = .connected
        ∧ (touchStandby s).tx.signal = .none)
    ∧ ∃ s : State, s.kb.running = true ∧ s.kb.fresh = false ∧ s.kb.stateOf 2 = .up ∧ s.kb.inRectangle 2 = false
        ∧ s.kb.list.length < 4 ∧ (s.kb.keymap[2]?).getD .none = .rept ∧ s.kb.list.any (fun d => d.kind == .rept) = true
        ∧ (touchStandby s).call.state ≠ .connected :=
  ⟨⟨listed [⟨0, .none, none⟩, ⟨1, .none, none⟩, ⟨8, .none, none⟩] (typing base), by decide +kernel⟩,
   ⟨listed [⟨0, .none, none⟩, ⟨1, .none, none⟩, ⟨2, .none, none⟩, ⟨3, .none, none⟩] (typing base), by decide +kernel⟩,
   ⟨onKb (fun k => { k with buffer := List.replicate 31 0x41#7 })
      (listed [⟨1, .shift, none⟩, ⟨2, .rept, none⟩, ⟨3, .none, none⟩] (typing base)), by decide +kernel⟩,
   ⟨onKb (fun k => { k with buffer := List.replicate 32 0x41#7 }) (typing base), by decide +kernel⟩,
   ⟨typing (inCall .connected base), by decide +kernel⟩, ⟨listed [⟨63, .rept, none⟩] (typing base), by decide +kernel⟩⟩

theorem test_met_KeysRepeatsAndScan :
    (∃ s : State, s.kb.running = true ∧ s.kb.fresh = false ∧ s.kb.stateOf 63 ≠ .up ∧ s.kb.heldFull = []
        ∧ s.kb.keys.toList.all (fun k => k != .heldGhost) = true)
    ∧ (∃ s : State, s.kb.hold = .active ∧ s.kb.target = some (0, 0x41#7) ∧ s.kb.timer = some 1 ∧ s.kb.count = 70)
    ∧ (∃ s : State, s.kb.hold = .active ∧ s.kb.target = some (0, 0x41#7) ∧ s.kb.timer = some 1 ∧ s.kb.count = 71)
    ∧ ∃ s : State, s.kb.running = true ∧ s.kb.fresh = true :=
  ⟨⟨listed [⟨63, .rept, none⟩] (typing base), by decide +kernel⟩,
   ⟨onKb (fun k => { k with hold := .active, target := some (0, 0x41#7), timer := some 1, count := 70 }) base, by decide⟩,
   ⟨onKb (fun k => { k with hold := .active, target := some (0, 0x41#7), timer := some 1, count := 71 }) base, by decide⟩,
   ⟨base, by decide⟩⟩

/-- In KeysRepeatsAndScan no key is HELD-GHOST, for every key number. -/
theorem test_met_KeysRepeatsAndScan_ghosts : ∃ s : State, s.kb.stateOf 63 ≠ .up ∧ ∀ k, s.kb.stateOf k ≠ .heldGhost := by
  refine ⟨onKb (fun k => { k with keys := Vector.replicate 64 .recognised }) base, by decide, fun k => ?_⟩
  simp only [Keyboard.stateOf, onKb]
  by_cases h : k < 64 <;> simp [h]

/-! ### The printer -/

/-- The printer in a state. -/
def printer (st : PrState) (s : State) : State := onPr (fun p => { p with state := st, columnKnown := true }) s

theorem test_met_MotorEvents :
    (∃ s : State, s.pr.state = .off) ∧ (∃ s : State, s.pr.state ≠ .off ∧ s.pr.state ≠ .starting ∧ s.call.state = .starting)
    ∧ (∃ s : State, s.pr.state = .off ∧ s.pr.unavailable = false ∧ s.printerWork = true ∧ s.call.state ≠ .standby)
    ∧ (∃ s : State, s.pr.state = .off ∧ s.printerWork = true ∧ s.pr.queue = [] ∧ s.pr.startPending = false ∧ s.pr.waiting = none)
    ∧ (∃ s : State, s.pr.state = .starting ∧ (answerStart { s with
          pr := { s.pr with state := .ready }, pins := { s.pins with motorReady := true } }).pr.columnKnown = false
        ∧ s.pr.columnKnown = false ∧ s.pr.startPending = false)
    ∧ (∃ s : State, s.pr.state = .starting ∧ s.pr.columnKnown = true ∧ s.pr.startPending = true)
    ∧ (∃ s : State, s.pr.state = .ready ∧ s.printerWork = false ∧ s.pr.tracked = none ∧ s.pr.mode = .direct)
    ∧ (∃ s : State, s.pr.state = .printing) ∧ ∃ s : State, s.pr.state = .jammed :=
  ⟨⟨base, rfl⟩, ⟨printer .ready (inCall .starting base), by decide⟩,
   ⟨onPr (fun p => { p with queue := [⟨0x41#7, none⟩] }) base, by decide⟩,
   ⟨onPr (fun p => { p with jobs := [⟨1, 0, 0⟩] }) base, by decide⟩,
   ⟨onPr (fun p => { p with state := .starting }) base, by decide⟩,
   ⟨onPr (fun p => { p with startPending := true }) (printer .starting base), by decide⟩, ⟨printer .ready base, by decide⟩,
   ⟨printer .printing base, rfl⟩, ⟨printer .jammed base, rfl⟩⟩

theorem test_met_PrinterTakes :
    (∃ s : State, s.pr.state = .ready ∧ s.pr.columnKnown = false)
    ∧ (∃ s : State, s.pr.state = .ready ∧ s.pr.columnKnown = true ∧ s.pr.waiting.isSome = true)
    ∧ (∃ s : State, s.pr.state = .ready ∧ s.pr.columnKnown = true ∧ s.pr.waiting = none ∧ s.pr.jobRun ≠ .suspendDue
        ∧ s.pr.mode = .direct ∧ s.pr.queue = [⟨0x41#7, none⟩])
    ∧ (∃ s : State, s.pr.state = .ready ∧ s.pr.columnKnown = true ∧ s.pr.waiting = none ∧ s.pr.jobRun ≠ .suspendDue
        ∧ s.pr.mode = .catchUp ∧ s.pr.holdsTagged = true ∧ s.pr.queue = [⟨0x41#7, some ⟨1, 0⟩⟩])
    ∧ (∃ s : State, s.pr.state = .ready ∧ s.pr.columnKnown = true ∧ s.pr.waiting = none ∧ s.pr.jobRun ≠ .suspendDue
        ∧ s.pr.mode = .catchUp ∧ s.pr.holdsTagged = false ∧ s.pr.buf = [0x41#7] ∧ s.pr.catchUp = some 1)
    ∧ (∃ s : State, s.pr.state = .ready ∧ s.pr.columnKnown = true ∧ s.pr.waiting = none ∧ s.pr.jobRun = .notStarted
        ∧ s.pr.jobMayRun = true ∧ s.store.printRead = none ∧ s.pr.buf = [] ∧ s.pr.column = 2)
    ∧ (∃ s : State, s.pr.state = .returning ∧ s.pr.feed = none ∧ s.pr.waiting = none ∧ s.pr.jobRun ≠ .suspendDue
        ∧ s.pr.paper = true ∧ s.pr.motorFailed = false ∧ s.pr.next?.isSome = true)
    ∧ (∃ s : State, 0x20 ≤ (0x20#7 : StationCode).toNat ∧ s.pr.lineEnd = true ∧ s.pr.policy = .autoNewline)
    ∧ (∃ s : State, 0x20 ≤ (0x7F#7 : StationCode).toNat ∧ s.pr.lineEnd = true ∧ s.pr.policy = .overprint)
    ∧ ((0x1F#7 : StationCode).toNat < 0x20 ∧ (0x1F#7 : StationCode) ≠ 0x02#7)
    ∧ ∃ c : PrChar, (∀ t, c.origin ≠ .queue (some t)) ∧ (∀ t, c.origin ≠ .catchUp t) ∧ ∀ t, c.origin ≠ .job t :=
  ⟨⟨onPr (fun p => { p with state := .ready }) base, by decide⟩,
   ⟨onPr (fun p => { p with waiting := some ⟨0x41#7, .queue none⟩ }) (printer .ready base), by decide⟩,
   ⟨onPr (fun p => { p with queue := [⟨0x41#7, none⟩] }) (printer .ready base), by decide⟩,
   ⟨onPr (fun p => { p with mode := .catchUp, queue := [⟨0x41#7, some ⟨1, 0⟩⟩] }) (printer .ready base), by decide⟩,
   ⟨onPr (fun p => { p with mode := .catchUp, buf := [0x41#7], catchUp := some 1 }) (printer .ready base), by decide⟩,
   ⟨onPr (fun p => { p with jobs := [⟨1, 0, 0⟩], column := 2 }) (printer .ready base), by decide⟩,
   ⟨onPr (fun p => { p with queue := [⟨0x04#7, none⟩], ret := some ⟨none, [], false⟩ }) (printer .returning base), by decide⟩,
   ⟨onPr (fun p => { p with lineEnd := true }) base, by decide⟩,
   ⟨onPr (fun p => { p with lineEnd := true, policy := .overprint }) base, by decide⟩, by decide,
   ⟨⟨0x41#7, .queue none⟩, by simp, by simp, by simp⟩⟩

/-- A print cycle is in progress. -/
def cycling (stepped awaiting : Bool) (column : Nat) : State :=
  onPr (fun p => { p with cycle := some ⟨⟨0x41#7, .queue none⟩, stepped, awaiting, 72, 0⟩, column := column }) (printer .printing base)

theorem test_met_PrintCycle :
    (∃ (s : State) (c : PrChar) (aw : Bool), s.pr.cycle = some ⟨c, false, aw, 72, 0⟩ ∧ s.pr.column + 1 = 72)
    ∧ (∃ (s : State) (c : PrChar) (aw : Bool), s.pr.cycle = some ⟨c, false, aw, 72, 0⟩ ∧ s.pr.column = 72)
    ∧ (∃ (s : State) (c : PrChar) (st : Bool), s.pr.cycle = some ⟨c, st, true, 72, 0⟩ ∧ s.pr.column + 1 = s.pr.margin)
    ∧ (∃ (s : State) (r : Carriage), s.pr.cycle = none ∧ s.pr.ret = some r ∧ s.pr.column = 1)
    ∧ (∃ (s : State) (c : PrChar), s.pr.cycle = some ⟨c, true, false, 72, 0⟩)
    ∧ (∃ s : State, s.pr.jobRun ≠ .closing ∧ s.pr.motorFailed = true)
    ∧ (∃ s : State, s.pr.jobRun ≠ .closing ∧ s.pr.motorFailed = false ∧ s.pr.paper = true ∧ s.pr.mode = .direct)
    ∧ (∃ s : State, s.pr.jobRun ≠ .closing ∧ s.pr.motorFailed = false ∧ s.pr.paper = true ∧ s.pr.mode = .catchUp)
    ∧ ∃ s : State, s.pr.jobRun ≠ .closing ∧ s.pr.motorFailed = false ∧ s.pr.paper = false :=
  ⟨⟨cycling false false 71, _, _, rfl, by decide⟩, ⟨cycling false false 72, _, _, rfl, by decide⟩,
   ⟨cycling true true 63, _, _, rfl, by decide⟩,
   ⟨onPr (fun p => { p with ret := some ⟨none, [], false⟩ }) (printer .returning base), _, rfl, rfl, rfl⟩,
   ⟨cycling true false 9, _, rfl⟩, ⟨onPr (fun p => { p with motorFailed := true }) base, by decide⟩, ⟨base, by decide⟩,
   ⟨onPr (fun p => { p with mode := .catchUp }) base, by decide⟩, ⟨onPr (fun p => { p with paper := false }) base, by decide⟩⟩

theorem test_met_ReturnsAndFeeds :
    (∃ (s : State) (r : Carriage), s.pr.ret = some r ∧ s.pr.feed = none)
    ∧ (∃ (s : State) (r : Carriage) (f : Feed), s.pr.ret = some r ∧ s.pr.feed = some f)
    ∧ (∃ (s : State) (f : Feed), s.pr.feed = some f ∧ s.pr.ret = none)
    ∧ (∃ (s : State) (r : Carriage), s.pr.ret = some r ∧ s.pins.home = false ∧ s.leftward = true)
    ∧ (∃ (s : State) (r : Carriage), s.pr.ret = some r ∧ s.pins.home = true ∧ s.pr.columnKnown = false ∧ s.leftward = true)
    ∧ (∃ (s : State) (r : Carriage), s.pr.ret = some r ∧ s.pins.home = true ∧ s.pr.columnKnown = true ∧ s.leftward = false)
    ∧ ∃ (s : State) (r : Carriage), s.pr.ret = some r ∧ s.pr.columnKnown = false ∧ s.leftward = false :=
  let back : State := onPr (fun p => { p with ret := some ⟨none, [], false⟩ }) base
  ⟨⟨back, _, rfl, rfl⟩,
   ⟨onPr (fun p => { p with ret := some ⟨none, [], false⟩, feed := some ⟨none⟩ }) base, _, _, rfl, rfl⟩,
   ⟨onPr (fun p => { p with feed := some ⟨none⟩ }) base, _, rfl, rfl⟩, ⟨back, _, rfl, rfl, rfl⟩,
   ⟨{ back with pins := { back.pins with home := true } }, _, rfl, rfl, rfl, rfl⟩,
   ⟨onPr (fun p => { p with columnKnown := true }) { back with pins := { back.pins with home := true } }, _, rfl, rfl, rfl, rfl⟩,
   ⟨readHome true back, _, rfl, rfl, rfl⟩⟩

/-- A pulse out of a return takes HOME away, so that the homing return after a soft reset within a step is driven leftward and may
time out (R99, R103). -/
theorem test_late_pulse_leaves_home :
    let moving : State := { cycling true true 1 with pins := { base.pins with home := true } }
    after (exec .encoderPulse (softReset moving)) (fun t => decide (t.pins.home = false) && decide (t.pr.column = 1)
      && State.leftward { t with pr := t.pr.startReturn none }) = true := by
  decide +kernel

theorem test_met_PaperRestartAndPrintJobs :
    (∃ s : State, s.pr.paper = true ∧ s.call.state ≠ .standby ∧ s.pr.state = .off)
    ∧ (∃ s : State, s.pr.paper = true ∧ s.call.state ≠ .standby ∧ s.pr.state = .printing)
    ∧ (∃ s : State, s.pr.paper = false ∧ s.call.state ≠ .standby ∧ s.pr.state = .paperOut)
    ∧ (∃ s : State, s.pr.paper = false ∧ s.call.state ≠ .standby ∧ s.pr.state = .jammed)
    ∧ (∃ s : State, s.pr.paper = false ∧ s.call.state ≠ .standby ∧ s.pr.state = .printing)
    ∧ Met 0x41#8 [] (fun s => s.pr.state ≠ .jammed) ∧ Met 0x41#8 [] (fun s => s.pr.state = .jammed)
    ∧ MetB 0x40#8 [0, 0, 0, 0, 0] (fun b _ => b.length = 5 ∧ field2 b 0 = 0)
    ∧ MetB 0x40#8 [0, 2, 0, 0, 0] (fun b s => b.length = 5 ∧ field2 b 0 ≠ 0 ∧ s.store.live? (field2 b 0) = none)
    ∧ MetB 0x40#8 [0, 1, 0, 0, 3] (fun b s => b.length = 5 ∧ s.store.live? (field2 b 0) = some (entry 1 .in .open 0 3))
    ∧ MetB 0x40#8 [0, 1, 0, 0, 4] (fun b s => b.length = 5 ∧ s.store.live? (field2 b 0) = some (entry 1 .in .closed 0 3)
        ∧ s.pr.jobs.length = 3)
    ∧ MetB 0x40#8 [0, 1, 0, 0, 4] (fun b s => b.length = 5 ∧ s.store.live? (field2 b 0) = some (entry 1 .in .closed 0 3)
        ∧ s.pr.jobs.length = 4) :=
  ⟨⟨base, by decide⟩, ⟨printer .printing base, by decide⟩,
   ⟨onPr (fun p => { p with paper := false }) (printer .paperOut base), by decide⟩,
   ⟨onPr (fun p => { p with paper := false }) (printer .jammed base), by decide⟩,
   ⟨onPr (fun p => { p with paper := false }) (printer .printing base), by decide⟩, met base (by decide),
   met (printer .jammed base) (by decide), metB base (by decide), metB (withMessage .in .closed base) (by decide),
   metB (withMessage .in .open base) (by decide),
   metB (onPr (fun p => { p with jobs := List.replicate 3 ⟨1, 0, 0⟩ }) (withMessage .in .closed base)) (by decide),
   metB (onPr (fun p => { p with jobs := List.replicate 4 ⟨1, 0, 0⟩ }) (withMessage .in .closed base)) (by decide)⟩

/-! ### The punch -/

/-- A punch with a code table. -/
def punch (f : Punch → Punch) (s : State) : State := onPu f (onConv exampleTable s)

theorem test_met_PunchCycles :
    (∃ (s : State) (h : PunchHeld), s.pu.cycle = none ∧ s.pu.state ≠ .tapeLowHold ∧ s.call.state ≠ .standby ∧ s.pu.held = some h
        ∧ h.codes = [3#5])
    ∧ (∃ s : State, s.pu.cycle = none ∧ s.pu.state ≠ .tapeLowHold ∧ s.call.state ≠ .standby ∧ s.pu.held = none ∧ s.pu.queue = [])
    ∧ (∃ s : State, s.pu.cycle = none ∧ s.pu.state ≠ .tapeLowHold ∧ s.call.state ≠ .standby ∧ s.pu.held = none
        ∧ s.pu.queue = [.blank 1])
    ∧ (∃ s : State, s.pu.cycle = none ∧ s.pu.state ≠ .tapeLowHold ∧ s.call.state ≠ .standby ∧ s.pu.held = none
        ∧ s.pu.queue = [.ltrs] ∧ s.conv.ltrsShift = some 31#5)
    ∧ (∃ s : State, s.pu.cycle = none ∧ s.pu.state ≠ .tapeLowHold ∧ s.call.state ≠ .standby ∧ s.pu.held = none
        ∧ s.pu.queue = [.text 0x41#7 none])
    ∧ (∃ s : State, s.pu.shift ≠ .unknown ∧ s.conv.encode s.pu.shift 0x41#7 = some ⟨none, 3#5, .letters⟩)
    ∧ (∃ s : State, s.pu.shift ≠ .unknown ∧ s.conv.encode s.pu.shift 0x31#7 = some ⟨some 27#5, 23#5, .figures⟩)
    ∧ (∃ s : State, s.pu.shift ≠ .unknown ∧ s.conv.encode s.pu.shift 0x42#7 = none)
    ∧ (∃ s : State, s.pu.shift = .unknown ∧ s.conv.ltrsShift = some 31#5
        ∧ s.conv.encode .letters 0x31#7 = some ⟨some 27#5, 23#5, .figures⟩)
    ∧ (∃ (s : State) (c : PunchCycle), s.pu.cycle = some c ∧ s.call.state ≠ .standby ∧ s.pu.holdPending = true ∧ s.pu.stage = .none ∧ s.pu.held = none)
    ∧ (∃ (s : State) (c : PunchCycle), s.pu.cycle = some c ∧ s.call.state ≠ .standby ∧ s.pu.holdPending = false)
    ∧ ∃ s : State, s.pu.chain = [⟨1, 0, 16, 16, false, 0, 0⟩] ∧ s.pu.stage = .none ∧ s.pu.queue = [] ∧ s.pu.held = none
        ∧ s.pu.state ≠ .tapeLowHold ∧ s.pu.holdPending = false ∧ s.call.state ≠ .standby :=
  ⟨⟨punch (fun p => { p with held := some ⟨[3#5], none⟩ }) base, _, by decide, by decide, by decide, rfl, rfl⟩,
   ⟨punch id base, by decide⟩, ⟨punch (fun p => { p with queue := [.blank 1] }) base, by decide⟩,
   ⟨punch (fun p => { p with queue := [.ltrs] }) base, by decide⟩,
   ⟨punch (fun p => { p with queue := [.text 0x41#7 none] }) base, by decide⟩,
   ⟨punch (fun p => { p with shift := .letters }) base, by decide +kernel⟩,
   ⟨punch (fun p => { p with shift := .letters }) base, by decide +kernel⟩,
   ⟨punch (fun p => { p with shift := .figures }) base, by decide +kernel⟩, ⟨punch id base, by decide +kernel⟩,
   ⟨punch (fun p => { p with cycle := some ⟨3#5, none, false, 0⟩, holdPending := true }) base, _, rfl, by decide⟩,
   ⟨punch (fun p => { p with cycle := some ⟨3#5, some none, false, 0⟩ }) base, _, rfl, by decide⟩,
   ⟨punch (fun p => { p with chain := [⟨1, 0, 16, 16, false, 0, 0⟩] }) base, by decide⟩⟩

theorem test_met_TapeAndPunchJobs_hold :
    (∃ s : State, s.pu.tapeLow = false ∧ s.call.state ≠ .standby ∧ s.pu.state = .tapeLowHold)
    ∧ (∃ s : State, s.pu.tapeLow = false ∧ s.call.state ≠ .standby ∧ s.pu.state ≠ .tapeLowHold ∧ s.pu.holdPending = false
        ∧ s.pu.cycle ≠ none)
    ∧ (∃ s : State, s.pu.tapeLow = false ∧ s.call.state ≠ .standby ∧ s.pu.state ≠ .tapeLowHold ∧ s.pu.holdPending = false
        ∧ s.pu.stage = .none ∧ s.pu.cycle = none)
    ∧ (∃ s : State, s.pu.tapeLow = true ∧ s.call.state ≠ .standby)
    ∧ MetB 0x43#8 [0, 0] (fun b s => b.length = 2 ∧ field1 b 0 = 0 ∧ s.pu.state = .tapeLowHold ∧ s.pu.tapeLow = false)
    ∧ MetB 0x43#8 [0, 0] (fun b s => b.length = 2 ∧ field1 b 0 = 0 ∧ s.pu.state = .tapeLowHold ∧ s.pu.tapeLow = true)
    ∧ MetB 0x43#8 [0, 0] (fun b s => b.length = 2 ∧ field1 b 0 = 0 ∧ s.pu.state ≠ .tapeLowHold)
    ∧ MetB 0x43#8 [1, 0] (fun b s => b.length = 2 ∧ field1 b 0 = 1 ∧ s.pu.state = .tapeLowHold)
    ∧ MetB 0x43#8 [1, 0] (fun b s => b.length = 2 ∧ field1 b 0 = 1 ∧ s.pu.state ≠ .tapeLowHold ∧ s.pu.cycle = none)
    ∧ MetB 0x43#8 [1, 0] (fun b s => b.length = 2 ∧ field1 b 0 = 1 ∧ s.pu.cycle ≠ none) :=
  ⟨⟨punch (fun p => { p with state := .tapeLowHold }) base, by decide⟩,
   ⟨punch (fun p => { p with cycle := some ⟨0, none, false, 0⟩ }) base, by decide⟩, ⟨base, by decide⟩,
   ⟨punch (fun p => { p with tapeLow := true }) base, by decide⟩,
   metB (punch (fun p => { p with state := .tapeLowHold }) base) (by decide),
   metB (punch (fun p => { p with state := .tapeLowHold, tapeLow := true }) base) (by decide), metB base (by decide),
   metB (punch (fun p => { p with state := .tapeLowHold }) base) (by decide), metB base (by decide),
   metB (punch (fun p => { p with cycle := some ⟨0, none, false, 0⟩ }) base) (by decide)⟩

theorem test_met_TapeAndPunchJobs_jobs :
    MetB 0x42#8 [0, 0, 0, 0, 0, 0, 9, 1, 0] (fun b s => b.length = 9 ∧ countField? s.pu.defLeader b 5 = some 9
        ∧ countField? s.pu.defTrailer b 7 = some 16 ∧ field2 b 0 = 0)
    ∧ MetB 0x42#8 [0, 9, 0, 0, 0, 0, 9, 1, 0] (fun b s => b.length = 9 ∧ countField? s.pu.defLeader b 5 = some 9
        ∧ countField? s.pu.defTrailer b 7 = some 16 ∧ field2 b 0 ≠ 0 ∧ s.store.live? (field2 b 0) = none)
    ∧ MetB 0x42#8 [0, 1, 0, 0, 0, 0, 9, 1, 0] (fun b s => b.length = 9 ∧ countField? s.pu.defLeader b 5 = some 9
        ∧ s.store.live? (field2 b 0) = some (entry 1 .in .open 0 3))
    ∧ MetB 0x42#8 [0, 1, 0, 0, 3, 0, 255, 1, 0] (fun b s => b.length = 9 ∧ countField? s.pu.defLeader b 5 = some 255
        ∧ s.store.live? (field2 b 0) = some (entry 1 .in .closed 0 3) ∧ s.pu.chain.length = 7)
    ∧ MetB 0x42#8 [0, 1, 0, 0, 3, 0, 255, 1, 0] (fun b s => b.length = 9 ∧ countField? s.pu.defLeader b 5 = some 255
        ∧ s.store.live? (field2 b 0) = some (entry 1 .in .closed 0 3) ∧ s.pu.chain.length = 8)
    ∧ MetB 0x43#8 [2, 255] (fun b s => b.length = 2 ∧ field1 b 0 = 2 ∧ s.pu.chain ≠ [])
    ∧ MetB 0x43#8 [2, 255] (fun b s => b.length = 2 ∧ field1 b 0 = 2 ∧ s.pu.chain = [] ∧ s.pu.state = .tapeLowHold)
    ∧ MetB 0x43#8 [2, 0] (fun b s => b.length = 2 ∧ field1 b 0 = 2 ∧ s.pu.chain = [] ∧ s.pu.state ≠ .tapeLowHold
        ∧ s.pu.holdPending = false ∧ field1 b 1 = 0)
    ∧ MetB 0x43#8 [2, 255] (fun b s => b.length = 2 ∧ field1 b 0 = 2 ∧ s.pu.chain = [] ∧ s.pu.state ≠ .tapeLowHold
        ∧ s.pu.holdPending = false ∧ field1 b 1 ≠ 0 ∧ s.pu.queue.length = 31)
    ∧ MetB 0x43#8 [2, 1] (fun b s => b.length = 2 ∧ field1 b 0 = 2 ∧ s.pu.chain = [] ∧ s.pu.state ≠ .tapeLowHold
        ∧ s.pu.holdPending = false ∧ field1 b 1 ≠ 0 ∧ s.pu.queue.length = 32) :=
  ⟨metB base (by decide), metB base (by decide), metB (withMessage .in .open base) (by decide),
   metB (onPu (fun p => { p with chain := List.replicate 7 ⟨1, 0, 0, 0, false, 0, 0⟩ }) (withMessage .in .closed base)) (by decide),
   metB (onPu (fun p => { p with chain := List.replicate 8 ⟨1, 0, 0, 0, false, 0, 0⟩ }) (withMessage .in .closed base)) (by decide),
   metB (onPu (fun p => { p with chain := [⟨1, 0, 0, 0, false, 0, 0⟩] }) base) (by decide),
   metB (onPu (fun p => { p with state := .tapeLowHold }) base) (by decide), metB base (by decide),
   metB (onPu (fun p => { p with queue := List.replicate 31 .ltrs }) base) (by decide),
   metB (onPu (fun p => { p with queue := List.replicate 32 .ltrs }) base) (by decide)⟩

/-! ### The message store -/

/-- 64 entries in the directory. -/
def full (n : Nat) (s : State) : State := onStore (fun x => { x with dir := List.replicate n (entry 1 .in .closed 0 0) }) s

/-- In MEMORY-INIT. -/
def starting : State := onStore (fun x => { x with memInit := true }) base

/-- With cells in the write queue. -/
def queued (n : Nat) (s : State) : State := onStore (fun x => { x with queue := List.replicate n ⟨9, [0x41]⟩ }) s

theorem test_met_OutgoingMessage_open_and_close :
    Met 0x30#8 [] (fun s => s.store.memInit = true)
    ∧ Met 0x30#8 [] (fun s => s.store.memInit = false ∧ ∃ e ∈ s.store.dir, e.state = .open)
    ∧ Met 0x30#8 [] (fun s => s.store.memInit = false ∧ (∀ e ∈ s.store.dir, e.state ≠ .open) ∧ 64 ≤ s.store.dir.length)
    ∧ Met 0x30#8 [] (fun s => s.store.memInit = false ∧ (∀ e ∈ s.store.dir, e.state ≠ .open) ∧ s.store.free = 0)
    ∧ Met 0x30#8 [] (fun s => s.store.memInit = false ∧ (∀ e ∈ s.store.dir, e.state ≠ .open) ∧ s.store.dir.length = 63
        ∧ s.store.free = 1)
    ∧ Met 0x32#8 [] (fun s => s.store.memInit = true)
    ∧ Met 0x32#8 [] (fun s => s.store.memInit = false ∧ s.store.open? .out = none)
    ∧ Met 0x32#8 [] (fun s => s.store.memInit = false ∧ s.store.open? .out = some (entry 1 .out .open 0 3)) :=
  ⟨met starting (by decide), met (withMessage .out .open base) (by decide), met (full 64 base) (by decide +kernel),
   met (onStore (fun x => { x with free := 0 }) base) (by decide),
   met (onStore (fun x => { x with free := 1 }) (full 63 base)) (by decide +kernel), met starting (by decide), met base (by decide),
   met (withMessage .out .open base) (by decide)⟩

theorem test_met_OutgoingMessage_append :
    MetB 0x31#8 [0x41#8] (fun b s => b.length ≤ 240 ∧ s.store.memInit = true)
    ∧ MetB 0x31#8 [0x80#8] (fun b s => b.length ≤ 240 ∧ s.store.memInit = false ∧ ∃ x ∈ b, 128 ≤ x.toNat)
    ∧ MetB 0x31#8 [0x7F#8] (fun b s => b.length ≤ 240 ∧ s.store.memInit = false ∧ (∀ x ∈ b, x.toNat < 128)
        ∧ s.store.open? .out = none)
    ∧ MetB 0x31#8 [0x7F#8] (fun b s => b.length ≤ 240 ∧ s.store.memInit = false ∧ (∀ x ∈ b, x.toNat < 128)
        ∧ s.store.open? .out ≠ none ∧ (appendCodes (b.map (BitVec.setWidth 7)) 0 s).2.2 = .all)
    ∧ MetB 0x31#8 (List.replicate 9 0x41#8) (fun b s => b.length ≤ 240 ∧ s.store.memInit = false ∧ (∀ x ∈ b, x.toNat < 128)
        ∧ s.store.open? .out ≠ none ∧ (appendCodes (b.map (BitVec.setWidth 7)) 0 s).2.2 ≠ .all
        ∧ (appendCodes (b.map (BitVec.setWidth 7)) 0 s).2.1 ≠ 0)
    ∧ MetB 0x31#8 [0x7F#8] (fun b s => b.length ≤ 240 ∧ s.store.memInit = false ∧ (∀ x ∈ b, x.toNat < 128)
        ∧ s.store.open? .out ≠ none ∧ (appendCodes (b.map (BitVec.setWidth 7)) 0 s).2.2 = .queueFull
        ∧ (appendCodes (b.map (BitVec.setWidth 7)) 0 s).2.1 = 0)
    ∧ MetB 0x31#8 [0x7F#8] (fun b s => b.length ≤ 240 ∧ s.store.memInit = false ∧ (∀ x ∈ b, x.toNat < 128)
        ∧ s.store.open? .out ≠ none ∧ (appendCodes (b.map (BitVec.setWidth 7)) 0 s).2.2 = .ringOut
        ∧ (appendCodes (b.map (BitVec.setWidth 7)) 0 s).2.1 = 0)
    ∧ (∃ (s : State) (e : Entry), s.store.open? .out = some e ∧ 2 < s.store.queue.length)
    ∧ ∃ (s : State) (e : Entry) (s1 : State) (p : Nat), s.store.open? .out = some e ∧ s.store.queue.length ≤ 2
        ∧ storeInto e 0x41#7 s = (s1, .at p) :=
  ⟨metB starting (by decide), metB base (by decide), metB base (by decide),
   metB (withMessage .out .open base) (by decide +kernel), metB (queued 2 (withMessage .out .open base)) (by decide +kernel),
   metB (queued 3 (withMessage .out .open base)) (by decide +kernel),
   metB (onStore (fun x => { x with free := 0 }) (withMessage .out .open base)) (by decide +kernel),
   ⟨queued 3 (withMessage .out .open base), _, rfl, by decide⟩,
   ⟨queued 2 (withMessage .out .open base), _, _, _, rfl, by decide, rfl⟩⟩

theorem test_met_StoredCharacter :
    (∃ st : Store, (st.asm .in).state = .waiting) ∧ (∃ st : Store, (st.asm .in).state = .empty ∧ st.free = 0)
    ∧ (∃ st : Store, (st.asm .in).state = .empty ∧ 0 < st.free)
    ∧ (∃ st : Store, (st.asm .out).state = .filling ∧ (st.asm .out).chars.length = 6)
    ∧ (∃ st : Store, (st.asm .out).state = .filling ∧ (st.asm .out).chars.length = 7 ∧ st.placeFree .out = true)
    ∧ (∃ st : Store, (st.asm .out).state = .filling ∧ (st.asm .out).chars.length = 7 ∧ st.placeFree .out = false)
    ∧ ∃ (st : Store), (st.storeChar .in (entry 1 .in .open 0 3) 0x41#7).2 = .at 3 :=
  ⟨⟨{ Store.reset with inCell := ⟨.waiting, 1, 1, List.replicate 8 0x41#7, true⟩ }, rfl⟩, ⟨{ Store.reset with free := 0 }, rfl, rfl⟩,
   ⟨Store.reset, by decide⟩, ⟨{ Store.reset with outCell := ⟨.filling, 1, 1, List.replicate 6 0x41#7, true⟩ }, by decide⟩,
   ⟨{ Store.reset with outCell := ⟨.filling, 1, 1, List.replicate 7 0x41#7, true⟩ }, by decide⟩,
   ⟨{ Store.reset with outCell := ⟨.filling, 1, 1, List.replicate 7 0x41#7, true⟩, queue := List.replicate 4 ⟨9, [0x41]⟩ },
      by decide⟩, ⟨Store.reset, by decide⟩⟩

theorem test_met_ReadAndRelease_read :
    MetB 0x33#8 [0, 0, 0, 0, 0, 1] (fun b _ => b.length = 6 ∧ field2 b 0 = 0)
    ∧ MetB 0x33#8 [0, 1, 0, 0, 0, 0] (fun b _ => b.length = 6 ∧ field1 b 5 = 0)
    ∧ MetB 0x33#8 [0, 1, 0, 0, 0, 201] (fun b _ => b.length = 6 ∧ 200 < field1 b 5)
    ∧ MetB 0x33#8 [0, 1, 0, 0, 0, 200] (fun b s => b.length = 6 ∧ field2 b 0 ≠ 0 ∧ 1 ≤ field1 b 5 ∧ field1 b 5 ≤ 200
        ∧ s.store.memInit = true)
    ∧ MetB 0x33#8 [0, 2, 0, 0, 0, 1] (fun b s => b.length = 6 ∧ field2 b 0 ≠ 0 ∧ 1 ≤ field1 b 5 ∧ field1 b 5 ≤ 200
        ∧ s.store.memInit = false ∧ s.store.live? (field2 b 0) = none)
    ∧ MetB 0x33#8 [0, 1, 0, 0, 3, 1] (fun b s => b.length = 6 ∧ field2 b 0 ≠ 0 ∧ 1 ≤ field1 b 5 ∧ field1 b 5 ≤ 200
        ∧ s.store.memInit = false ∧ s.store.live? (field2 b 0) = some (entry 1 .in .closed 0 3))
    ∧ (∃ (s : State) (h : HostRead) (e : Entry), s.store.entry? h.number = some e
        ∧ (s.store.serveHost s.mem e 26 h).got.length < h.count)
    ∧ ∃ (s : State) (h : HostRead) (e : Entry), s.store.entry? h.number = some e
        ∧ h.count ≤ (s.store.serveHost s.mem e 26 h).got.length :=
  ⟨metB base (by decide), metB base (by decide), metB base (by decide), metB starting (by decide), metB base (by decide),
   metB (withMessage .in .closed base) (by decide), ⟨withMessage .in .closed base, ⟨1, 0, 3, []⟩, _, rfl, by decide⟩,
   ⟨withMessage .in .closed base, ⟨1, 0, 3, [0x41#7, 0x42#7, 0x43#7]⟩, _, rfl, by decide⟩⟩

theorem test_met_ReadAndRelease_release :
    MetB 0x34#8 [0, 0] (fun b _ => b.length = 2 ∧ field2 b 0 = 0)
    ∧ MetB 0x34#8 [0, 1] (fun b s => b.length = 2 ∧ field2 b 0 ≠ 0 ∧ s.store.memInit = true)
    ∧ MetB 0x34#8 [0, 2] (fun b s => b.length = 2 ∧ field2 b 0 ≠ 0 ∧ s.store.memInit = false ∧ s.store.live? (field2 b 0) = none)
    ∧ MetB 0x34#8 [0, 1] (fun b s => b.length = 2 ∧ s.store.memInit = false
        ∧ s.store.live? (field2 b 0) = some (entry 1 .in .open 0 3))
    ∧ MetB 0x34#8 [0, 1] (fun b s => b.length = 2 ∧ s.store.memInit = false
        ∧ s.store.live? (field2 b 0) = some (entry 1 .in .closed 0 3) ∧ s.named (field2 b 0) = true)
    ∧ MetB 0x34#8 [0, 1] (fun b s => b.length = 2 ∧ s.store.memInit = false
        ∧ s.store.live? (field2 b 0) = some (entry 1 .in .closed 0 3) ∧ s.named (field2 b 0) = false) :=
  ⟨metB base (by decide), metB starting (by decide), metB (withMessage .in .closed base) (by decide),
   metB (withMessage .in .open base) (by decide),
   metB (onPr (fun p => { p with jobs := [⟨1, 0, 0⟩] }) (withMessage .in .closed base)) (by decide),
   metB (withMessage .in .closed base) (by decide)⟩

theorem test_met_ListDirectoryAnswer :
    MetB 0x35#8 [0] (fun b s => b.length = 1 ∧ s.store.memInit = true)
    ∧ MetB 0x35#8 [64] (fun b s => b.length = 1 ∧ s.store.memInit = false ∧ 63 < field1 b 0)
    ∧ MetB 0x35#8 [63] (fun b s => b.length = 1 ∧ s.store.memInit = false ∧ field1 b 0 ≤ 63) :=
  ⟨metB starting (by decide), metB base (by decide), metB base (by decide)⟩

/-- A playback in a state. -/
def playing (st : PlayState) (s : State) : State := onCall (fun c => { c with play := { c.play with state := st } }) s

theorem test_met_Playbacks :
    MetB 0x21#8 [0, 0, 0, 0, 0] (fun b _ => b.length = 5 ∧ field2 b 0 = 0)
    ∧ MetB 0x21#8 [0, 1, 0, 0, 0] (fun b s => b.length = 5 ∧ field2 b 0 ≠ 0 ∧ s.call.state ≠ .connected)
    ∧ MetB 0x21#8 [0, 1, 0, 0, 0] (fun b s => b.length = 5 ∧ field2 b 0 ≠ 0 ∧ s.call.state = .connected
        ∧ s.call.play.state = .paused)
    ∧ MetB 0x21#8 [0, 2, 0, 0, 0] (fun b s => b.length = 5 ∧ field2 b 0 ≠ 0 ∧ s.call.state = .connected
        ∧ s.call.play.state ≠ .running ∧ s.call.play.state ≠ .paused ∧ s.store.live? (field2 b 0) = none)
    ∧ MetB 0x21#8 [0, 1, 0, 0, 0] (fun b s => b.length = 5 ∧ s.call.state = .connected ∧ s.call.play.state ≠ .running
        ∧ s.call.play.state ≠ .paused ∧ s.store.live? (field2 b 0) = some (entry 1 .in .closed 0 3))
    ∧ MetB 0x21#8 [0, 1, 0, 0, 3] (fun b s => b.length = 5 ∧ s.call.state = .connected ∧ s.call.play.state ≠ .running
        ∧ s.call.play.state ≠ .paused ∧ s.store.live? (field2 b 0) = some (entry 1 .out .closed 0 3) ∧ 3 ≤ field3 b 2)
    ∧ MetB 0x21#8 [0, 1, 0, 0, 2] (fun b s => b.length = 5 ∧ s.call.state = .connected ∧ s.call.play.state ≠ .running
        ∧ s.call.play.state ≠ .paused ∧ s.store.live? (field2 b 0) = some (entry 1 .out .closed 0 3) ∧ field3 b 2 < 3)
    ∧ Met 0x22#8 [] (fun s => s.call.play.state = .paused ∧ s.call.state = .connected)
    ∧ Met 0x22#8 [] (fun s => s.call.play.state ≠ .paused) ∧ Met 0x23#8 [] (fun s => s.call.play.state = .running)
    ∧ Met 0x23#8 [] (fun s => s.call.play.state = .paused)
    ∧ Met 0x23#8 [] (fun s => s.call.play.state ≠ .running ∧ s.call.play.state ≠ .paused) :=
  ⟨metB base (by decide), metB base (by decide), metB (playing .paused (inCall .connected base)) (by decide),
   metB (inCall .connected base) (by decide), metB (withMessage .in .closed (inCall .connected base)) (by decide),
   metB (withMessage .out .closed (inCall .connected base)) (by decide),
   metB (withMessage .out .closed (inCall .connected base)) (by decide),
   met (playing .paused (inCall .connected base)) (by decide), met base (by decide), met (playing .running base) (by decide),
   met (playing .paused base) (by decide), met base (by decide)⟩

/-! ### The DRAM -/

theorem test_met_DramEvents_timers_and_grants :
    (∃ s : State, s.store.memInit = false ∧ s.call.state ≠ .standby) ∧ (∃ s : State, s.store.memInit = true)
    ∧ (∃ (s : State) (w : Work), s.store.access = none ∧ s.store.memInit = false ∧ s.store.selfRefresh = false
        ∧ s.store.firstWaiting? = some w ∧ w.inDevice = true)
    ∧ (∃ (s : State) (w : Work), s.store.access = none ∧ s.store.memInit = false ∧ s.store.selfRefresh = false
        ∧ s.store.firstWaiting? = some w ∧ w.inDevice = false)
    ∧ (∃ s : State, s.store.firstWaiting? = none) ∧ (∃ s : State, s.store.access.isSome = true)
    ∧ (∃ st : Store, 8 ≤ st.debt) ∧ (∃ (st : Store), st.debt < 8 ∧ st.queue = List.replicate 3 ⟨524287, []⟩ ∧ 3 ≤ st.queue.length)
    ∧ (∃ (st : Store) (e : Entry), st.debt = 7 ∧ st.queue.length < 3 ∧ st.playRead = some ⟨1, 0⟩ ∧ st.entry? 1 = some e)
    ∧ (∃ (st : Store) (e : Entry), st.debt < 8 ∧ st.queue.length = 2 ∧ st.playRead = none ∧ st.printRead = some ⟨1, 0⟩
        ∧ st.entry? 1 = some e)
    ∧ (∃ (st : Store) (e : Entry), st.debt < 8 ∧ st.queue.length < 3 ∧ st.playRead = none ∧ st.printRead = none
        ∧ st.punchRead = some ⟨1, 0⟩ ∧ st.entry? 1 = some e)
    ∧ (∃ (st : Store) (e : Entry), st.debt < 8 ∧ st.queue.length < 3 ∧ st.playRead = none ∧ st.printRead = none
        ∧ st.punchRead = none ∧ st.hostRead = some ⟨1, 0, 3, []⟩ ∧ st.entry? 1 = some e)
    ∧ (∃ st : Store, st.debt < 8 ∧ st.playRead = none ∧ st.printRead = none ∧ st.punchRead = none ∧ st.hostRead = none
        ∧ st.queue = [⟨9, []⟩])
    ∧ (∃ st : Store, st.debt < 8 ∧ st.playRead = none ∧ st.printRead = none ∧ st.punchRead = none ∧ st.hostRead = none
        ∧ st.queue = [] ∧ st.debt = 1)
    ∧ ∃ st : Store, st.playRead = none ∧ st.printRead = none ∧ st.punchRead = none ∧ st.hostRead = none ∧ st.queue = [] ∧ st.debt = 0 :=
  ⟨⟨base, by decide⟩, ⟨starting, rfl⟩, ⟨queued 1 base, _, rfl, rfl, rfl, rfl, by decide⟩,
   ⟨onStore (fun x => { x with queue := [⟨524288, []⟩] }) base, _, rfl, rfl, rfl, rfl, by decide⟩, ⟨base, rfl⟩,
   ⟨onStore (fun x => { x with access := some ⟨.refresh, 3⟩ }) base, rfl⟩, ⟨{ Store.reset with debt := 8 }, by decide⟩,
   ⟨{ Store.reset with queue := List.replicate 3 ⟨524287, []⟩ }, by decide⟩,
   ⟨{ (withMessage .in .closed base).store with debt := 7, playRead := some ⟨1, 0⟩ }, _, rfl, by decide, rfl, rfl⟩,
   ⟨{ (queued 2 (withMessage .in .closed base)).store with printRead := some ⟨1, 0⟩ }, _, by decide, rfl, rfl, rfl, rfl⟩,
   ⟨{ (withMessage .in .closed base).store with punchRead := some ⟨1, 0⟩ }, _, by decide, by decide, rfl, rfl, rfl, rfl⟩,
   ⟨{ (withMessage .in .closed base).store with hostRead := some ⟨1, 0, 3, []⟩ }, _, by decide, by decide, rfl, rfl, rfl, rfl, rfl⟩,
   ⟨{ Store.reset with queue := [⟨9, []⟩] }, by decide⟩, ⟨{ Store.reset with debt := 1 }, by decide⟩, ⟨Store.reset, by decide⟩⟩

/-- An assembly cell that fills or waits. -/
def asm (st : AsmState) : Asm := ⟨st, 1, 1, [0x41#7], true⟩

theorem test_met_DramEvents_claims :
    (∃ st : Store, st.banks[cellBank 524287] = .closed) ∧ (∃ st : Store, st.banks[cellBank 128] = .open (128 / 128))
    ∧ (∃ (st : Store) (row : Nat), row ≠ 128 / 128 ∧ st.banks[cellBank 128] = .open row)
    ∧ (∃ s : State, s.store.queue.length = 3 ∧ s.store.inCell.state = .waiting)
    ∧ (∃ s : State, s.store.queue.length < 4 ∧ s.store.inCell.state ≠ .waiting ∧ s.store.outCell.state = .waiting)
    ∧ (∃ (s : State) (e : Entry), s.store.queue.length < 4 ∧ s.store.inCell.state ≠ .waiting ∧ s.store.outCell.state ≠ .waiting
        ∧ s.store.dir.find? Entry.headerDue = some e)
    ∧ ∃ s : State, s.store.queue = [] ∧ s.store.inCell.state = .filling ∧ s.store.inCell.changed = true
        ∧ s.store.outCell.state ≠ .waiting ∧ ∀ e ∈ s.store.dir, e.headerDue = false :=
  ⟨⟨base.store, by decide⟩, ⟨{ Store.reset with banks := Vector.replicate 4 (.open 1) }, by decide⟩,
   ⟨{ Store.reset with banks := Vector.replicate 4 (.open 0) }, 0, by decide, by decide⟩,
   ⟨onStore (fun x => { x with inCell := asm .waiting }) (queued 3 base), by decide⟩,
   ⟨onStore (fun x => { x with outCell := asm .waiting }) base, by decide⟩,
   ⟨onStore (fun x => { x with dir := [{ entry 1 .in .closed 0 3 with headerDue := true }] }) base, _, by decide, by decide, by decide,
      rfl⟩, ⟨onStore (fun x => { x with inCell := asm .filling }) base, by decide⟩⟩

theorem test_met_AccessCompletes :
    (∃ (s : State) (w : CellWrite) (n : Nat), s.store.access = some ⟨.write w, n⟩ ∧ w.target = 524287
        ∧ Memory.wf s.mem = true ∧ w.bytes.length = 8)
    ∧ (∃ (s : State) (n : Nat), s.store.access = some ⟨.refresh, n⟩)
    ∧ (∃ (s : State) (n : Nat), s.store.access = some ⟨.read .punch 524287 false, n⟩)
    ∧ (∃ (s : State) (n : Nat), s.store.access = some ⟨.read .playback 1 true, n⟩ ∧ s.store.playRead = some ⟨1, 0⟩)
    ∧ (∃ (s : State), s.store.printRead = some ⟨1, 0⟩)
    ∧ ∃ (s : State) (a : Access), s.store.access = some a ∧ a.work = .write ⟨524288, []⟩ :=
  ⟨⟨onStore (fun x => { x with access := some ⟨.write ⟨524287, List.replicate 8 0x41⟩, 10⟩ }) (withMessage .in .closed base),
      _, _, rfl, rfl, by decide, rfl⟩,
   ⟨onStore (fun x => { x with access := some ⟨.refresh, 3⟩ }) base, _, rfl⟩,
   ⟨onStore (fun x => { x with access := some ⟨.read .punch 524287 false, 11⟩ }) base, _, rfl⟩,
   ⟨onStore (fun x => { x with access := some ⟨.read .playback 1 true, 11⟩, playRead := some ⟨1, 0⟩ }) base, _, rfl, rfl⟩,
   ⟨onStore (fun x => { x with printRead := some ⟨1, 0⟩ }) base, rfl⟩,
   ⟨onStore (fun x => { x with access := some ⟨.write ⟨524288, []⟩, 10⟩ }) base, _, rfl, rfl⟩⟩

/-! ### The command link -/

theorem test_met_StatusAndFetch :
    (∃ s s0 : State, s.asked 0x50#8 [] s0) ∧ Met 0x51#8 [] (fun s => headReport? s.link.reports = none)
    ∧ Met 0x51#8 [] (fun s => headReport? s.link.reports = some .ring)
    ∧ headReport? [.text .lineIn [], .ring, .agreementFault] = some .agreementFault :=
  ⟨⟨_, _, asks_asked _ _ base⟩, met base (by decide), met (onLink (fun l => { l with reports := [.paperOut, .ring] }) base) (by decide),
   by decide⟩

theorem test_met_LiveFlagsFollowR38 :
    (∃ s : State, s.rx.state = .startCheck) ∧ (∃ s s0 : State, s.asked 0x50#8 [] s0) ∧ (∃ s : State, s.pending = [])
    ∧ ∃ s t : State, exec .powerOn s = .next t :=
  ⟨⟨onRx (fun r => { r with state := .startCheck }) base, rfl⟩, ⟨_, _, asks_asked _ _ base⟩, ⟨base, rfl⟩, ⟨base, _, rfl⟩⟩

theorem test_met_LinkBytesAndFrames :
    (∃ s : State, s.link.rx = .hunt) ∧ (∃ s : State, s.link.rx = .stopped) ∧ (∃ s : State, s.link.rx = .inFrame [])
    ∧ (1 ≤ (1 : Byte).toNat ∧ (1 : Byte).toNat ≤ 241) ∧ (1 ≤ (241 : Byte).toNat ∧ (241 : Byte).toNat ≤ 241) ∧ (0 : Byte).toNat = 0
    ∧ 241 < (242 : Byte).toNat
    ∧ (∃ (s : State) (inner : List Byte), s.link.rx = .inFrame (2 :: inner) ∧ inner.length < (2 : Byte).toNat)
    ∧ (∃ (s : State) (inner : List Byte), s.link.rx = .inFrame (2 :: inner) ∧ inner.length = (2 : Byte).toNat)
    ∧ (∃ l : Link, l.holding.length = 1 ∧ (0x01 : Byte) + (0x50 + 0) + 0xAF = 0 ∧ requestKinds.contains 0x50 = true)
    ∧ (∃ l : Link, l.holding.length < 2 ∧ (0x01 : Byte) + (0x7F + 0) + 0x80 = 0 ∧ requestKinds.contains 0x7F = false)
    ∧ (∃ l : Link, l.holding.length < 2 ∧ (0x01 : Byte) + (0x50 + 0) + 0xAE ≠ 0)
    ∧ (∃ l : Link, 2 ≤ l.holding.length ∧ l.overrun = none)
    ∧ (∃ (l : Link) (o : Overrun), 2 ≤ l.holding.length ∧ l.overrun = some o ∧ o.count = 255)
    ∧ ∃ l : Link, l.replies.any (OutFrame.isRejected .check) = false :=
  ⟨⟨base, rfl⟩, ⟨onLink (fun l => { l with rx := .stopped }) base, rfl⟩, ⟨onLink (fun l => { l with rx := .inFrame [] }) base, rfl⟩,
   by decide, by decide, by decide, by decide, ⟨onLink (fun l => { l with rx := .inFrame [2, 0x34] }) base, _, rfl, by decide⟩,
   ⟨onLink (fun l => { l with rx := .inFrame [2, 0x35, 0] }) base, _, rfl, by decide⟩,
   ⟨{ Link.reset with holding := [⟨0x50, []⟩] }, by decide⟩, ⟨Link.reset, by decide⟩, ⟨Link.reset, by decide⟩,
   ⟨{ Link.reset with holding := [⟨0x50, []⟩, ⟨0x51, []⟩] }, by decide⟩,
   ⟨{ Link.reset with holding := [⟨0x50, []⟩, ⟨0x51, []⟩], overrun := some ⟨0x08, 255, 2⟩ }, _, by decide, rfl, rfl⟩,
   ⟨Link.reset, by decide⟩⟩

/-! ### Invariants -/

theorem test_met_StepKeepsCallInvariant : ∃ s t : State, s.callInv ∧ s.call.state = .connected ∧ step s = .next t :=
  ⟨onCall (fun c => { c with loopClose := true }) talking, _, by unfold State.callInv; decide, rfl, rfl⟩

theorem test_met_StepKeepsReceiverAndReports_receiver : ∃ s t : State, s.rx.inv ∧ s.rx.q = 4096 ∧ s.rx.s = 6 ∧ step s = .next t :=
  ⟨onRx (fun r => { r with q := 4096, s := 6, n := 65535, a := -47 }) base, _, by unfold Receiver.inv; decide, rfl, rfl, rfl⟩

theorem test_met_StepKeepsReceiverAndReports_reports :
    ∃ s t : State, s.link.reportsInv ∧ s.link.reports.length = 24 ∧ countedReports s.link.reports = 12 ∧ step s = .next t :=
  ⟨onLink (fun l => { l with
      mode := .pull
      reports := List.replicate 12 (.messageOpened 1 none) ++ List.replicate 11 (.text .lineIn []) ++ [.ring] }) base, _,
   by unfold Link.reportsInv; decide, by decide, by decide, rfl⟩

theorem test_met_StepKeepsMemoryAndCursors_memory :
    ∃ s t : State, s.memInv ∧ s.mem.length = 3 ∧ s.store.queue.length = 4 ∧ step s = .next t :=
  ⟨queued 4 (withMessage .in .closed base), _, by
     simp only [State.memInv]
     refine ⟨by decide, fun w h => ?_, fun a h => (nomatch h), by decide, by decide⟩
     rw [show w = ⟨9, [0x41]⟩ from List.eq_of_mem_replicate h]
     exact (by decide : 1 ≤ 8), rfl,
   rfl, rfl⟩

theorem test_met_StepKeepsMemoryAndCursors_cursors : ∃ s t : State, s.store.cursorInv ∧ s.store.dir.length = 1 ∧ step s = .next t :=
  ⟨withMessage .in .closed base, _, by simp [Store.cursorInv, withMessage, onStore, Entry.cursorsOk, entry], rfl, rfl⟩

theorem test_met_StepKeepsCapacities :
    ∃ s t : State, s.capInv ∧ s.store.debt = 8 ∧ s.store.queue.length = 4 ∧ s.router.linkText.length = 64 ∧ step s = .next t :=
  ⟨onRouter (fun r => { r with linkText := List.replicate 64 0x41#7 }) (onStore (fun x => { x with debt := 8 }) (queued 4 base)), _,
   by unfold State.capInv; decide +kernel, rfl, rfl, rfl, rfl⟩

/-! ### Steps that several blocks share in -/

/-- Fifteen RING ticks after the first qualify a ring in an unconfigured station: NOT-CONFIGURED (R142). -/
theorem test_ring_qualifies :
    after (exec .ringAsserted (onCall (fun c => { c with state := .ringCheck, ringCount := 15 }) base)) (fun t =>
      decide (t.call.state = .idle) && t.call.lockout && decide (t.link.sending = some (.report (.ringRefused .notConfigured))))
      = true := by decide +kernel

/-- The empty queue is a tick: with no loop current for the fourth time the line is lost and the call over (R35, R154). -/
theorem test_tick_loses_the_line :
    after (step (onRx (fun r => { r with lossCount := 3 }) talking)) (fun t =>
      decide (t.call.state = .idle) && t.latches.lineLost && decide (t.call.cause = .lineLost)) = true := by decide +kernel

/-- A LINE-IN character of a tracked call is stored, queued for the printer with its tag, and reported (R70, R72 to R74). -/
theorem test_line_character_is_stored_and_queued :
    after (exec .characterReceived (onRx (fun r => { r with
        state := .assemble, edges := [(0, .space), (32, .mark), (96, .space), (192, .mark)], measured := [] }) talking))
      (fun t => decide (t.store.dir.length = 1) && decide (t.store.inCell.chars = [0x41#7])
        && decide (t.pr.queue.map PrEntry.code = [0x41#7])) = true := by decide +kernel

/-- Keyboard text in CONNECTED leaves as a shift code and its raw code (R8, R42). -/
theorem test_keyboard_text_is_sent :
    after (exec .arbiterFill (onKb (fun k => { k with buffer := [0x31#7] }) talking)) (fun t =>
      decide (t.tx.front.map (fun f => f.slot.code) = some 27#5) && decide (t.tx.next.map Slot.code = some 23#5)
        && decide (t.tx.txd = .space) && decide (t.conv.txPlane = .figures)) = true := by decide +kernel

/-! ### Witnesses of the clauses that say what an operation does -/

/-- WAKE released and WAKE asserted. -/
theorem test_met_StepRunsFrontCommand_wake : (∃ s : State, s.pins.wake = false) ∧ ∃ s : State, s.pins.wake = true :=
  ⟨⟨base, rfl⟩, ⟨{ base with pins := { base.pins with wake := true } }, rfl⟩⟩

theorem test_met_StepRunsFrontCommand_ticks :
    (∀ c ∈ [CallState.agreeing, .connected, .ringCheck, .answering, .originating, .idle, .clearing, .starting, .standby],
      (inCall c base).pending = [] ∧ (inCall c base).call.state = c)
    ∧ waiting.call.attendedWait = true ∧ (inCall .ringCheck base).call.attendedWait = false
    ∧ (fun s : State => (signalTick { wakeTick (passCycles s) with rx := { s.rx with loopCurrent := s.pins.loopSense } }).call.state
        ≠ s.call.state) (onTx (fun t => { t with signal := .clr 127 }) (inCall .clearing base)) := by decide +kernel

theorem test_met_LoadCodeTableFollowsR3_other_plane :
    MetB 0x03#8 (tableBody 1 31 27 (List.replicate 32 0xFF#8)) fun b s =>
      b.length = 35 ∧ (∀ i, i < 32 → (tableEntry? (b.getD (3 + i) 0)).isSome) ∧ s.call.state = .idle ∧ s.kb.buffer = []
      ∧ s.pu.queue = [] ∧ s.pu.chain = [] ∧ (s.conv.table .letters).loaded = true
      ∧ ({ s.conv.setTable .figures ⟨loadedEntries b, true⟩ with
            ltrsShift := some 31#5, figsShift := some 27#5 } : Converter).holdsAskId = false :=
  metB (onConv (fun c => { c with letters := ⟨Vector.replicate 32 none, true⟩ }) base) (by decide +kernel)

/-- The wait, the loop timer, the timers of IDLE and CONNECTED and the signals, each where its last tick comes and before. -/
theorem test_met_ticks_of_the_timers :
    (∃ s : State, s.call.answerWait = some 2) ∧ (∃ s : State, s.call.answerWait = some 1)
    ∧ (∃ s : State, s.pins.loopSense = true)
    ∧ (∃ s : State, s.pins.loopSense = false ∧ s.call.loopTimer = some 2 ∧ s.call.lossCount = 2)
    ∧ (∃ s : State, s.pins.loopSense = false ∧ s.call.loopTimer = some 1 ∧ s.call.lossCount = 3)
    ∧ (∃ s : State, s.tx.signal = .clr 126) ∧ (∃ s : State, s.tx.signal = .clr 127) ∧ (∃ s : State, s.tx.signal = .brk 18)
    ∧ (∃ s : State, s.tx.signal = .brk 19) ∧ (∃ s : State, s.call.idleTimer = none ∧ s.call.standbyTimer = none)
    ∧ (∃ s : State, s.call.idleTimer = some 2 ∧ s.call.standbyTimer = some 2)
    ∧ ∃ s : State, s.call.idleTimer = some 1 ∧ s.call.standbyTimer = some 1 :=
  let t (n : Nat) : State := { onCall (fun c => { c with
    answerWait := some n, loopTimer := some n, lossCount := 4 - n, idleTimer := some n, standbyTimer := some n }) base with
    pins := { base.pins with loopSense := false } }
  let u (x : Signal) : State := onTx (fun y => { y with signal := x }) base
  ⟨⟨t 2, rfl⟩, ⟨t 1, rfl⟩, ⟨{ base with pins := { base.pins with loopSense := true } }, rfl⟩, ⟨t 2, by decide⟩, ⟨t 1, by decide⟩,
   ⟨u (.clr 126), rfl⟩, ⟨u (.clr 127), rfl⟩, ⟨u (.brk 18), rfl⟩, ⟨u (.brk 19), rfl⟩,
   ⟨onCall (fun c => { c with idleTimer := none, standbyTimer := none }) base, by decide⟩, ⟨t 2, by decide⟩, ⟨t 1, by decide⟩⟩

theorem test_met_SentPointAndStop_waveform_and_cursors :
    (∃ t : Transmitter, t.front = none)
    ∧ (∃ (t : Transmitter) (f : Front), t.front = some f ∧ f.sent = false ∧ (t.advance).txd = .mark)
    ∧ (∃ (t : Transmitter) (f : Front), t.front = some f ∧ f.sent = true)
    ∧ (∃ s : State, s.call.play.number = 1 ∧ s.sentCursor = 0 ∧ s.store.lengthOf s.call.play.number = 3)
    ∧ (∃ s : State, s.call.play.skipped = [1] ∧ s.sentCursor ≠ 1)
    ∧ (∃ s : State, s.tx.passed = [2] ∧ s.tx.counted = 1 ∧ s.conv.answerback.length + 4 = 5) :=
  ⟨⟨Transmitter.reset, rfl⟩,
   ⟨{ Transmitter.reset with front := some ⟨1, .keyboard, .char, 0, 0⟩ |>.map (⟨·, false, .r50, .two, 32 * 2304 - 57600⟩) }, _, rfl,
      by decide⟩, ⟨(fronted ⟨1, .keyboard, .char, 0, 0⟩ true base).tx, _, rfl, rfl⟩,
   ⟨onCall (fun c => { c with play := { c.play with number := 1 } }) (withMessage .out .closed base), by decide⟩,
   ⟨onCall (fun c => { c with play := { c.play with number := 1, skipped := [1] } }) (withMessage .out .closed base), by decide⟩,
   ⟨onTx (fun t => { t with passed := [2], counted := 1 }) talking, by decide⟩⟩

/-- An unsendable winner makes the arbiter choose again, a sendable one does not (R42). -/
theorem test_met_ArbiterFill_chooses_again :
    (∃ s : State, (chooseNext s).2 = true) ∧ (∃ s : State, (chooseNext s).2 = false)
    ∧ after (exec .arbiterFill (onKb (fun k => { k with buffer := [0x42#7, 0x41#7] }) talking)) (fun t =>
        decide (t.kb.buffer = []) && decide (t.tx.front.map (fun f => f.slot.code) = some 31#5)
          && decide (t.tx.next.map Slot.code = some 3#5)) = true :=
  ⟨⟨onKb (fun k => { k with buffer := [0x42#7] }) talking, by decide +kernel⟩,
   ⟨onKb (fun k => { k with buffer := [0x41#7] }) talking, by decide +kernel⟩, by decide +kernel⟩

/-- In AGREEING with the parser and the counts given. -/
def agreeing (f : Agreement → Agreement) : State := onAgr f (inCall .agreeing base)

theorem test_met_AgreementTimers_parser_and_switches :
    (∃ s : State, s.agr.timer = 191 ∧ s.agr.offerSeen = false) ∧ (∃ s : State, s.agr.timer = 447 ∧ s.agr.rxSwitched = false)
    ∧ (∃ s : State, s.agr.timer = 447 ∧ s.agr.rxSwitched = true)
    ∧ (∀ p ∈ [Parser.first, .second, .m1, .m2 3], ∃ s : State, s.agr.parser = p ∧ s.agr.offerSeen = true)
    ∧ 4 ≤ (4#5 : RawCode).toNat ∧ (3#5 : RawCode).toNat < 4
    ∧ (∃ a : Agreement, a.partnerMask = some 7#5 ∧ a.agreedRate = .r150)
    ∧ (∃ a : Agreement, a.partnerMask = none ∧ a.keptM1 = some 7#5) ∧ (∃ a : Agreement, a.partnerMask = none ∧ a.keptM1 ≠ some 7#5)
    ∧ (∃ s : State, s.agr.sent = 2 ∧ s.agr.rcvd = 2 ∧ s.agr.txSwitched = false ∧ s.agr.rxSwitched = false)
    ∧ (∃ s : State, s.agr.sent = 2 ∧ s.agr.rcvd = 1 ∧ s.agr.txSwitched = false ∧ s.agr.rxSwitched = false)
    ∧ (∃ s : State, s.tx.answerbackOnConnect = true) ∧ ∃ s : State, s.tx.answerbackOnConnect = false :=
  ⟨⟨agreeing fun a => { a with timer := 191 }, by decide⟩, ⟨agreeing fun a => { a with timer := 447 }, by decide⟩,
   ⟨agreeing fun a => { a with timer := 447, rxSwitched := true }, by decide⟩,
   fun p _ => ⟨agreeing fun a => { a with parser := p, offerSeen := true }, rfl, rfl⟩, by decide, by decide,
   ⟨{ Agreement.reset with localTop := .r300, partnerMask := some 7#5 }, by decide⟩,
   ⟨{ Agreement.reset with keptM1 := some 7#5 }, by decide⟩, ⟨Agreement.reset, by decide⟩,
   ⟨agreeing fun a => { a with sent := 2, rcvd := 2 }, by decide⟩, ⟨agreeing fun a => { a with sent := 2, rcvd := 1 }, by decide⟩,
   ⟨onTx (fun t => { t with answerbackOnConnect := true }) base, rfl⟩,
   ⟨onTx (fun t => { t with answerbackOnConnect := false }) base, rfl⟩⟩

/-- Two samples after the last transition there is no transition, three after it there is (R18). -/
theorem test_met_ReceiverEvents_dates :
    (∃ r : Receiver, r.state = .startCheck ∧ r.lastDate = 13 ∧ r.dateFits 15 = false ∧ r.dateFits 16 = true)
    ∧ (∃ r : Receiver, r.state = .assemble ∧ r.lastDate = 205 ∧ r.dateFits 207 = false ∧ r.dateFits 208 = true
        ∧ r.dateFits 209 = false)
    ∧ ∃ s : State, s.rx.dateFits 2 = false :=
  ⟨⟨{ Receiver.reset with state := .startCheck, edges := [(0, .space), (13, .mark)] }, by decide⟩,
   ⟨{ Receiver.reset with state := .assemble, edges := [(0, .space), (205, .mark)] }, by decide⟩,
   ⟨onRx (fun r => { r with state := .startCheck, edges := [(0, .space)] }) base, by decide⟩⟩

/-- The drift figures of a character with orientation on, at every limit of the sum (R29). -/
theorem test_met_CharacterReceived_drift :
    (∀ t ∈ [(-143 : Int), -96, -95, -48, -47, 47, 48, 95, 96, 143], ∃ s : State, s.rx.state = .assemble ∧ s.rx.orientation = true
        ∧ s.rx.measured ≠ [] ∧ s.rx.a + (s.rx.measured.map Prod.snd).sum = t)
    ∧ (∃ s : State, s.rx.inv ∧ s.rx.measured ≠ [])
    ∧ (∀ p ∈ [Parser.first, .second, .m1, .m2 3], ∃ s : State, s.rx.state = .assemble ∧ s.call.state = .agreeing
        ∧ s.agr.parser = p)
    ∧ (∃ st : Store, st.open? .in = none) ∧ ∃ (st : Store) (e : Entry), st.open? .in = some e := by
  refine ⟨fun t _ => ⟨onRx (fun r => { r with orientation := true, a := t, measured := [(32, 0)] }) (received .connected), rfl, rfl,
      List.cons_ne_nil _ _, ?_⟩, ⟨onRx (fun r => { r with state := .startCheck, measured := [] }) base |> onRx fun r =>
        { r with state := .assemble, edges := [(0, .space), (32, .mark)], measured := [(32, 0)] }, ?_, by decide⟩,
    fun p _ => ⟨onAgr (fun a => { a with parser := p }) (received .agreeing), rfl, rfl, rfl⟩, ⟨Store.reset, rfl⟩,
    ⟨(withMessage .in .open base).store, _, rfl⟩⟩
  · simp [onRx, received]
  · unfold Receiver.inv; decide

/-- The cases of the encoder over the table of R10's example (R8, R9). -/
theorem test_met_ConverterTakes_encoder :
    (fun cv : Converter =>
      cv.encode .letters 0x41#7 = some ⟨none, 3#5, .letters⟩ ∧ cv.encode .figures 0x31#7 = some ⟨none, 23#5, .figures⟩
      ∧ cv.encode .letters 0x31#7 = some ⟨some 27#5, 23#5, .figures⟩ ∧ cv.encode .figures 0x41#7 = some ⟨some 31#5, 3#5, .letters⟩
      ∧ cv.encode .unknown 0x20#7 = some ⟨none, 4#5, .letters⟩ ∧ cv.encode .unknown 0x41#7 = some ⟨some 31#5, 3#5, .letters⟩
      ∧ cv.encode .unknown 0x31#7 = some ⟨some 27#5, 23#5, .figures⟩ ∧ cv.encode .letters 0x42#7 = none)
      (exampleTable Converter.reset) := by decide +kernel

theorem test_met_LineConditions_ticks :
    (∃ s : State, s.pins.loopSense = true ∧ s.rx.level = .space)
    ∧ (∃ s : State, s.pins.loopSense = false ∧ s.rx.lossCount = 2) ∧ (∃ s : State, s.pins.loopSense = false ∧ s.rx.lossCount = 3)
    ∧ (∃ s : State, s.rx.level = .space ∧ s.rx.breakReady = true ∧ s.rx.brk = s.rx.spaceCount ∧ s.call.state = .agreeing
        ∧ s.agr.rxSwitched = false)
    ∧ (∃ s : State, s.rx.level = .space ∧ s.rx.breakReady = true ∧ s.rx.spaceCount + 1 = s.rx.brk)
    ∧ (∃ s : State, s.rx.level = .space ∧ s.rx.clearReady = true ∧ s.rx.clr = s.rx.spaceCount ∧ s.rx.goodSeen = false
        ∧ s.rx.autoPolarity = true ∧ s.rx.inversionMade = false)
    ∧ (∃ s : State, s.rx.level = .space ∧ s.rx.clearReady = true ∧ s.rx.clr = s.rx.spaceCount ∧ s.rx.goodSeen = true)
    ∧ (∃ s : State, s.rx.spaceCount + 1 = s.rx.clr) ∧ (∃ s : State, s.call.state = .agreeing) ∧ ∃ s : State, s.call.state = .connected :=
  let run (n : Nat) (good : Bool) : State := onRx (fun r => { r with spaceCount := n, goodSeen := good }) (spacing .agreeing)
  ⟨⟨{ run 0 false with pins := { base.pins with loopSense := true } }, by decide⟩,
   ⟨{ onRx (fun r => { r with lossCount := 2 }) base with pins := { base.pins with loopSense := false } }, by decide⟩,
   ⟨{ onRx (fun r => { r with lossCount := 3 }) base with pins := { base.pins with loopSense := false } }, by decide⟩,
   ⟨run base.rx.brk false, by decide⟩, ⟨run (base.rx.brk - 1) false, by decide⟩, ⟨run base.rx.clr false, by decide⟩,
   ⟨run base.rx.clr true, by decide⟩, ⟨run (base.rx.clr - 1) false, by decide⟩, ⟨run 0 false, rfl⟩, ⟨inCall .connected base, rfl⟩⟩

/-- Every source can be taken, with and without a message to store into, and a full store ends an unattended call. -/
theorem test_met_HoldingSourcesAndSinks_takes :
    (∃ s : State, (deliverStore .lineIn (s.row .lineIn) 0x41#7 s).full = true ∧ s.call.state = .connected
        ∧ s.call.callMode = some .unattended)
    ∧ (∃ s : State, (deliverStore .keyboard (s.row .keyboard) 0x41#7 s).full = false)
    ∧ (∃ s : State, s.call.state = .connected ∧ s.call.callMode ≠ some .unattended)
    ∧ (∃ row : Row, row.store = false) ∧ (∃ row : Row, row.store = true)
    ∧ (∃ s : State, s.store.open? .in = none ∧ s.store.open? .out = none)
    ∧ (∃ (s : State) (e : Entry), s.store.open? .in = some e) ∧ (∃ (s : State) (e : Entry), s.store.open? .out = some e)
    ∧ (∃ (s : State) (e : Entry) (p : Nat), (s.store.storeChar e.dir e 0x41#7).2 = .at p)
    ∧ (∃ (s : State) (e : Entry), (s.store.storeChar e.dir e 0x41#7).2 = .blocked ∧ e.dir = .out)
    ∧ (∃ (s : State) (e : Entry), (s.store.storeChar e.dir e 0x41#7).2 = .blocked ∧ e.dir = .in)
    ∧ (∃ (s : State) (e : Entry), (s.store.storeChar e.dir e 0x41#7).2 = .ringOut)
    ∧ (∃ s : State, s.pr.tracked = some 1) ∧ (∃ s : State, s.pr.tracked ≠ some 1)
    ∧ (∃ s : State, ∃ j ∈ s.pu.chain, j.follow = true ∧ j.number = 1)
    ∧ ∃ s : State, ∀ j ∈ s.pu.chain, j.follow = true → j.number ≠ 1 :=
  let e (d : Dir) : Entry := entry 1 d .open 0 3
  let blocked : State := onStore (fun x => { x with
    inCell := ⟨.waiting, 1, 1, [], true⟩, outCell := ⟨.waiting, 1, 1, [], true⟩ }) base
  ⟨⟨onRouter (fun r => { r with unattended := { r.unattended with lineIn := ⟨true, false, false, true, false⟩ } })
      (onStore (fun x => { x with free := 1 })
        (onCall (fun c => { c with state := .connected, callMode := some .unattended }) base)), by decide +kernel⟩,
   ⟨base, by decide +kernel⟩, ⟨inCall .connected base, by decide⟩, ⟨⟨false, false, false, false, false⟩, rfl⟩,
   ⟨⟨true, true, true, true, true⟩, rfl⟩, ⟨base, by decide⟩, ⟨withMessage .in .open base, _, rfl⟩,
   ⟨withMessage .out .open base, _, rfl⟩, ⟨base, e .in, _, rfl⟩, ⟨blocked, e .out, by decide⟩, ⟨blocked, e .in, by decide⟩,
   ⟨onStore (fun x => { x with free := 0 }) base, e .in, by decide⟩, ⟨onPr (fun p => { p with tracked := some 1 }) base, rfl⟩,
   ⟨base, by decide⟩,
   ⟨onPu (fun p => { p with chain := [⟨1, 0, 0, 0, true, 0, 0⟩] }) base, ⟨1, 0, 0, 0, true, 0, 0⟩, by simp [onPu], rfl, rfl⟩,
   ⟨base, by decide⟩⟩

/-! ### Keys -/

/-- A key whose level has been read twice against the stable one. -/
def counted (n : Nat) (s : State) : State := onKb (fun k => { k with agree := Vector.replicate 64 n }) s

theorem test_met_KeyDownActs_readings :
    (∃ s : State, s.kb.running = true ∧ s.kb.fresh = false ∧ s.kb.stateOf 63 ≠ .up)
    ∧ (∃ s : State, s.kb.running = true ∧ s.kb.fresh = false ∧ s.kb.stateOf 63 = .up ∧ s.kb.agreeOf 63 = 1)
    ∧ (∃ s : State, s.kb.running = true ∧ s.kb.fresh = false ∧ s.kb.stateOf 63 = .up ∧ s.kb.agreeOf 63 = 2)
    ∧ (∃ s : State, s.kb.running = true ∧ s.kb.fresh = false ∧ s.kb.stateOf 63 ≠ .up ∧ s.kb.agreeOf 63 = 2)
    ∧ (∃ s : State, s.kb.pos = 63) ∧ (∃ s : State, s.kb.pos = 0)
    ∧ (∃ s : State, s.kb.inRectangle 9 = true) ∧ (∃ s : State, s.kb.inRectangle 9 = false ∧ 4 ≤ s.kb.list.length)
    ∧ (∃ s : State, s.kb.inRectangle 9 = false ∧ s.kb.list.length < 4)
    ∧ (∃ s : State, s.kb.hold = .active ∧ s.kb.buffer.length = 32) ∧ ∃ s : State, s.kb.hold ≠ .active ∧ s.kb.buffer.length = 31 :=
  ⟨⟨listed [⟨63, .rept, none⟩] (typing base), by decide +kernel⟩, ⟨counted 1 (typing base), by decide +kernel⟩,
   ⟨counted 2 (typing base), by decide +kernel⟩, ⟨counted 2 (listed [⟨63, .rept, none⟩] (typing base)), by decide +kernel⟩,
   ⟨onKb (fun k => { k with pos := 63 }) base, rfl⟩, ⟨base, rfl⟩,
   ⟨listed [⟨0, .none, none⟩, ⟨1, .none, none⟩, ⟨8, .none, none⟩] (typing base), by decide +kernel⟩,
   ⟨listed [⟨0, .none, none⟩, ⟨1, .none, none⟩, ⟨2, .none, none⟩, ⟨3, .none, none⟩] (typing base), by decide +kernel⟩,
   ⟨base, by decide +kernel⟩, ⟨onKb (fun k => { k with hold := .active, buffer := List.replicate 32 0x41#7 }) base, by decide⟩,
   ⟨onKb (fun k => { k with buffer := List.replicate 31 0x41#7 }) base, by decide⟩⟩

/-- Three readings of a key that reads down change its level, two do not (R81). -/
theorem test_third_reading_changes_the_level :
    after (exec (.keyDown ⟨0, 3⟩) (typing base)) (fun t => decide (t.kb.stateOf 0 = .recognised) && decide (t.kb.buffer = [0x61#7])
      && decide (t.kb.pos = 1) && after (exec (.keyUp ⟨0, 3⟩) t) fun u => decide (u.kb.stateOf 0 = .up)) = true
    ∧ after (exec (.keyDown ⟨0, 2⟩) (typing base)) (fun t => decide (t.kb.stateOf 0 = .up) && decide (t.kb.agreeOf 0 = 2)) = true := by
  decide +kernel

theorem test_met_KeysRepeatsAndScan_held :
    (∃ k : Keyboard, k.stateOf 9 = .heldGhost ∧ (k.freeGhosts 64).inRectangle 9 = true)
    ∧ (∃ k : Keyboard, k.stateOf 9 = .heldGhost ∧ (k.freeGhosts 64).inRectangle 9 = false)
    ∧ (∃ s : State, s.kb.heldFull = [9] ∧ s.kb.list.length < 4 ∧ s.kb.inRectangle 9 = true)
    ∧ (∃ s : State, s.kb.heldFull = [9] ∧ s.kb.list.length < 4 ∧ s.kb.inRectangle 9 = false)
    ∧ (∃ s : State, s.kb.heldFull = [9] ∧ 4 ≤ s.kb.list.length) ∧ (∃ s : State, s.kb.target = none)
    ∧ (∃ k : Keyboard, k.running = false) ∧ ∃ k : Keyboard, k.running = true ∧ k.pos = 63 :=
  let three : State := listed [⟨0, .none, none⟩, ⟨1, .none, none⟩, ⟨8, .none, none⟩] (typing base)
  let ghost (s : State) : Keyboard := { s.kb with keys := s.kb.keys.set 9 .heldGhost }
  ⟨⟨ghost three, by decide +kernel⟩, ⟨ghost (typing base), by decide +kernel⟩,
   ⟨onKb (fun k => { k with heldFull := [9], keys := k.keys.set 9 .heldFull }) three, by decide +kernel⟩,
   ⟨onKb (fun k => { k with heldFull := [9], keys := k.keys.set 9 .heldFull }) (typing base), by decide +kernel⟩,
   ⟨onKb (fun k => { k with heldFull := [9], list := List.replicate 4 ⟨0, .none, none⟩ }) base, by decide⟩, ⟨base, rfl⟩,
   ⟨{ base.kb with running := false }, rfl⟩, ⟨{ base.kb with running := true, pos := 63 }, by decide⟩⟩

/-- A full hold that is recognised, or becomes a ghost hold, keeps its agreement count, so its next differing reading is the third
(R81, R84). -/
theorem test_full_hold_keeps_its_agreement_count :
    let held (s : State) : State := onKb (fun k => { k with
      heldFull := [9], keys := k.keys.set 9 .heldFull, agree := k.agree.set 9 2 }) s
    (freeFulls 64 (held (listed [⟨0, .none, none⟩, ⟨1, .none, none⟩, ⟨8, .none, none⟩] (typing base)))).kb.agreeOf 9 = 2
    ∧ after (.next (freeFulls 64 (held (typing base)))) (fun t => decide (t.kb.stateOf 9 = .recognised)
        && after (exec (.keyUp ⟨9, 1⟩) t) fun u => decide (u.kb.stateOf 9 = .up) && decide (u.kb.agreeOf 9 = 0)) = true := by
  decide +kernel

/-! ### Printer and punch -/

/-- A cell waits in the write queue. -/
def queuedCell (c : Nat) (s : State) : State := onStore (fun x => { x with queue := [⟨c, [0x41, 0x42, 0x43]⟩] }) s

theorem test_met_PrinterTakes_suspension :
    (∃ s : State, s.pr.queue ≠ [] ∧ s.pr.jobRun = .body) ∧ (∃ s : State, s.pr.tracked ≠ none ∧ s.pr.jobRun = .closing)
    ∧ (∃ s : State, s.pr.jobRun = .notStarted) ∧ (∃ s : State, s.pr.queue = [] ∧ s.pr.tracked = none ∧ s.pr.mode = .direct
        ∧ s.pr.unavailable = false ∧ s.pr.jobRun = .body)
    ∧ (∃ s : State, s.pr.state = .ready ∧ s.pr.columnKnown = true ∧ s.pr.waiting = none ∧ s.pr.jobRun = .suspendDue
        ∧ s.pr.column = 2)
    ∧ ∃ s : State, s.pr.state = .ready ∧ s.pr.columnKnown = true ∧ s.pr.waiting = none ∧ s.pr.jobRun = .suspendDue
        ∧ s.pr.column = 1 :=
  let run (j : JobRun) (n : Nat) (s : State) : State := onPr (fun p => { p with jobs := [⟨1, 0, 0⟩], jobRun := j, column := n }) s
  ⟨⟨onPr (fun p => { p with queue := [⟨0x41#7, none⟩] }) (run .body 2 base), by decide⟩,
   ⟨onPr (fun p => { p with tracked := some 1 }) (run .closing 1 base), by decide⟩, ⟨base, rfl⟩, ⟨run .body 1 base, by decide⟩,
   ⟨run .suspendDue 2 (printer .ready base), by decide⟩, ⟨run .suspendDue 1 (printer .ready base), by decide⟩⟩

theorem test_met_PrintCycle_job_characters : ∃ (s : State) (j : PrintJob) (rest : List PrintJob), s.pr.jobs = j :: rest :=
  ⟨onPr (fun p => { p with jobs := [⟨1, 0, 0⟩] }) base, _, _, rfl⟩

/-- The message 1 has three characters, of which none is printed; message 2 is not in the directory. -/
theorem test_met_PaperRestartAndPrintJobs_catch_up :
    (∃ s : State, s.pr.jamTags = [2, 1] ∧ s.store.live? 2 = none ∧ s.store.live? 1 ≠ none ∧ s.pr.state = .jammed)
    ∧ (∃ s : State, s.pr.jamTags = [] ∧ s.pr.queue = [] ∧ s.pr.tracked = some 1 ∧ s.store.printOf 1 < s.store.lengthOf 1)
    ∧ (∃ s : State, s.pr.jamTags = [] ∧ s.pr.queue = [] ∧ s.pr.tracked = none) ∧ (∃ s : State, s.pr.mode = .catchUp)
    ∧ (∃ s : State, s.pr.mode = .direct)
    ∧ (∃ s : State, s.pr.state = .off ∧ s.pr.unavailable = false ∧ s.pr.mode = .catchUp ∧ s.pr.holdsTagged = false)
    ∧ (∃ s : State, s.pr.state = .ready ∧ s.pr.mode = .catchUp ∧ s.pr.holdsTagged = false ∧ s.pr.buf = []
        ∧ s.store.printRead = none ∧ s.pr.columnKnown = true ∧ s.pr.waiting = none ∧ s.pr.jobRun ≠ .suspendDue)
    ∧ (∃ s : State, s.pr.catchUp = some 1 ∧ s.store.printOf 1 < s.store.lengthOf 1)
    ∧ (∃ s : State, s.pr.catchUp = none ∧ s.pr.tracked = some 1 ∧ s.store.printOf 1 < s.store.lengthOf 1)
    ∧ (∃ s : State, s.pr.catchUp = none ∧ s.pr.tracked = none)
    ∧ (∃ (s : State) (e : Entry), s.store.entry? 1 = some e ∧ s.store.staged (bodyCell e.header 0) = true)
    ∧ ∃ (s : State) (e : Entry), s.store.entry? 1 = some e ∧ s.store.staged (bodyCell e.header 0) = false :=
  let m : State := withMessage .in .closed base
  let p (f : Printer → Printer) : State := onPr f m
  ⟨⟨p fun x => { x with state := .jammed, jamTags := [2, 1] }, by decide⟩, ⟨p fun x => { x with tracked := some 1 }, by decide⟩,
   ⟨base, by decide⟩, ⟨p fun x => { x with mode := .catchUp }, rfl⟩, ⟨base, rfl⟩, ⟨p fun x => { x with mode := .catchUp }, by decide⟩,
   ⟨p fun x => { x with mode := .catchUp, state := .ready, columnKnown := true }, by decide⟩,
   ⟨p fun x => { x with catchUp := some 1 }, by decide⟩, ⟨p fun x => { x with tracked := some 1 }, by decide⟩, ⟨base, by decide⟩,
   ⟨queuedCell 1 m, _, rfl, by decide⟩, ⟨m, _, rfl, by decide⟩⟩

/-- The advance of a print cycle, before and after its step, within a pulse and after it. -/
theorem test_met_PrintCycle_periods :
    (∃ s : State, (∀ c, s.pr.cycle = some c → c.awaiting = false) ∧ s.pr.ret = none)
    ∧ (∃ p : Printer, p.cycle = none)
    ∧ (∃ (p : Printer) (c : PrCycle), p.cycle = some c ∧ c.stepped = false ∧ c.cycles = 44236)
    ∧ (∃ (p : Printer) (c : PrCycle), p.cycle = some c ∧ c.stepped = true ∧ c.cycles = 73728)
    ∧ ∃ (p : Printer) (c : PrCycle), p.cycle = some c ∧ p.hammer = true ∧ c.cycles = 0 ∧ p.intensity = 15 :=
  let at_ (stepped : Bool) (n : Nat) : Printer :=
    { Printer.reset with cycle := some ⟨⟨0x41#7, .queue none⟩, stepped, false, 72, n⟩, hammer := true, intensity := 15 }
  ⟨⟨base, by simp [base, State.reset, Printer.reset], rfl⟩, ⟨Printer.reset, rfl⟩, ⟨at_ false 44236, _, rfl, rfl, rfl⟩, ⟨at_ true 73728, _, rfl, rfl, rfl⟩, ⟨at_ false 0, _, rfl, rfl, rfl, rfl⟩⟩

theorem test_met_PunchCycles_completion :
    (∃ (s : State) (c : PunchCycle), s.pu.cycle = some c ∧ s.call.state = .standby)
    ∧ (∃ s : State, s.pu.stage = .body ∧ s.pu.chain = [⟨1, 0, 16, 16, false, 0, 8⟩])
    ∧ (∃ s : State, s.pu.stage = .body ∧ s.pu.chain = [⟨1, 0, 16, 16, false, 1, 8⟩])
    ∧ (∃ s : State, s.pu.stage ≠ .body ∧ s.pu.chain = [])
    ∧ (∃ p : Punch, p.cycle = none)
    ∧ ∃ p : Punch, p.cycle = some ⟨0x15#5, none, false, 29492⟩ ∧ p.onTime = 8 :=
  let job (c : Nat) : State := onPu (fun p => { p with stage := .body, chain := [⟨1, 0, 16, 16, false, c, 8⟩] }) base
  ⟨⟨onPu (fun p => { p with cycle := some ⟨0, none, false, 0⟩ }) (inCall .standby base), _, rfl, rfl⟩, ⟨job 0, by decide⟩,
   ⟨job 1, by decide⟩, ⟨base, by decide⟩, ⟨Punch.reset, rfl⟩,
   ⟨{ Punch.reset with cycle := some ⟨0x15#5, none, false, 29492⟩ }, rfl, rfl⟩⟩

/-- With the shortest on-time and with 8 ms, successive ticks see the code magnets on, all off, the feed magnet on, all off (R121). -/
theorem test_every_pulse_is_seen :
    [4, 8].all (fun ms =>
      let p : Punch := { Punch.reset with cycle := some ⟨0x15#5, none, false, 0⟩, onTime := ms }
      [p, p.advance, p.advance.advance, p.advance.advance.advance].map (fun q => (q.codeMagnets, q.feedMagnet))
        == [(0x15#5, false), (0#5, false), (0#5, true), (0#5, false)]) = true := by
  decide +kernel

/-- A glyph at intensity 1: successive ticks see the pulse of each of the three hammer periods come and go; a space gives none
(R100, R101). -/
theorem test_three_hammer_pulses :
    let seen (code : StationCode) (n : Nat) : List Bool :=
      ((List.range n).foldl (fun x _ => (x.1.advance, x.2 ++ [x.1.hammerPulse]))
        (({ Printer.reset with intensityReq := 1 }).startCycle ⟨code, .queue none⟩, ([] : List Bool))).2
    seen 0x41#7 7 = [true, false, true, false, true, false, false] ∧ seen 0x20#7 3 = [false, false, false] := by
  decide +kernel

/-- The intensity in force takes a value set in the first hammer period when the second begins (R101). -/
theorem test_intensity_at_the_next_period :
    let p : Printer := { Printer.reset.startCycle ⟨0x41#7, .queue none⟩ with intensityReq := 15 }
    (p.intensity, p.advance.intensity, p.advance.advance.intensity) = (8, 8, 15)
    ∧ p.advance.cycle.map PrCycle.cycles = some 7373 ∧ p.advance.advance.cycle.map PrCycle.cycles = some 14746 := by
  decide +kernel

/-- A soft reset that abandons a READ-MESSAGE releases the message that the read alone held back (R179). -/
theorem test_abandoned_read_releases :
    let s : State := withMessage .in .closed base
    let read : State := { s with
      call := { s.call with autoRelease := true }
      store := { s.store with hostRead := some ⟨1, 0, 3, []⟩, dir := s.store.dir.map fun e => { e with trackedMark := false } } }
    read.store.dir.length = 1 ∧ (abortRead read).store.dir = [] := by
  decide +kernel

theorem test_met_TapeAndPunchJobs_counts_and_reading :
    MetB 0x42#8 [0, 1, 0, 0, 0, 2, 0, 0, 0] (fun b _ => b.length = 9 ∧ 1 < field1 b 5)
    ∧ MetB 0x42#8 [0, 1, 0, 0, 0, 1, 0, 2, 0] (fun b _ => b.length = 9 ∧ 1 < field1 b 7)
    ∧ (∃ s : State, s.pu.state = .tapeLowHold) ∧ (∃ s : State, s.punchWants = true ∧ s.pu.queue.length = 24)
    ∧ (∃ s : State, s.punchWants = false ∧ s.pu.queue.length = 25) ∧ (∃ s : State, s.punchHolds = true)
    ∧ (∃ s : State, s.pu.state ≠ .tapeLowHold ∧ (finishJob (punchReads 32 s)).pu.cycle ≠ none)
    ∧ (∃ s : State, s.pu.state ≠ .tapeLowHold ∧ (finishJob (punchReads 32 s)).pu.cycle = none
        ∧ (finishJob (punchReads 32 s)).pu.state ≠ .tapeLowHold)
    ∧ (∃ (s : State) (e : Entry), s.punchWants = true ∧ s.store.entry? 1 = some e ∧ s.store.staged (bodyCell e.header 0) = true)
    ∧ ∃ (s : State) (e : Entry), s.punchWants = true ∧ s.store.entry? 1 = some e ∧ s.store.staged (bodyCell e.header 0) = false :=
  let job (n : Nat) (follow : Bool) (pos : Nat) (st : MsgState) : State := onPu (fun p => { p with
    stage := .body, chain := [⟨1, 0, 0, 0, follow, pos, pos⟩], queue := List.replicate n .ltrs }) (withMessage .in st base)
  ⟨metB base (by decide), metB base (by decide), ⟨onPu (fun p => { p with state := .tapeLowHold }) base, rfl⟩,
   ⟨job 24 false 0 .closed, by decide⟩, ⟨job 25 false 0 .closed, by decide⟩, ⟨job 0 true 3 .open, by decide⟩,
   ⟨onPu (fun p => { p with cycle := some ⟨0, none, false, 0⟩ }) base, by decide +kernel⟩, ⟨base, by decide +kernel⟩,
   ⟨queuedCell 1 (job 0 false 0 .closed), _, by decide, rfl, by decide⟩, ⟨job 0 false 0 .closed, _, by decide, rfl, by decide⟩⟩

/-- The body of a closed message is punched: a trailer follows or the job ends, and a pending hold is entered (R128, R130). -/
theorem test_met_TapeAndPunchJobs_finish :
    (∃ (s : State) (e : Entry), s.pu.chain = [⟨1, 0, 0, 9, false, 3, 3⟩] ∧ s.pu.stage = .body ∧ s.pu.queue = [] ∧ s.pu.held = none
        ∧ s.pu.cycle = none ∧ s.store.punchRead = none ∧ s.store.entry? 1 = some e ∧ e.state ≠ .open ∧ e.length = 3)
    ∧ (∃ (s : State) (e : Entry), s.pu.chain = [⟨1, 0, 0, 0, false, 3, 3⟩] ∧ s.pu.stage = .body ∧ s.pu.queue = [] ∧ s.pu.held = none
        ∧ s.pu.cycle = none ∧ s.store.punchRead = none ∧ s.store.entry? 1 = some e ∧ e.state ≠ .open ∧ e.length = 3)
    ∧ (∃ (s : State) (e : Entry), s.pu.chain = [⟨1, 0, 0, 0, true, 3, 3⟩] ∧ s.pu.stage = .body ∧ s.store.entry? 1 = some e
        ∧ e.state = .open)
    ∧ (∃ s : State, s.pu.stage = .trailer ∧ s.pu.chain ≠ [] ∧ s.pu.queue = [] ∧ s.pu.held = none ∧ s.pu.cycle = none
        ∧ s.store.punchRead = none ∧ s.pu.holdPending = true)
    ∧ (∃ s : State, s.pu.stage = .trailer ∧ s.pu.chain ≠ [] ∧ s.pu.queue = [.blank 1] ∧ s.pu.holdPending = false)
    ∧ ∃ s : State, s.pu.chain = [] := by
  let job (t : Nat) (follow : Bool) (g : Stage) (q : List PunchEntry) (hold : Bool) (st : MsgState) : State :=
    onPu (fun p => { p with stage := g, chain := [⟨1, 0, 0, t, follow, 3, 3⟩], queue := q, holdPending := hold })
      (withMessage .in st base)
  exact
    ⟨⟨job 9 false .body [] false .closed, _, rfl, rfl, rfl, rfl, rfl, rfl, rfl, by decide, rfl⟩,
     ⟨job 0 false .body [] false .closed, _, rfl, rfl, rfl, rfl, rfl, rfl, rfl, by decide, rfl⟩,
     ⟨job 0 true .body [] false .open, _, rfl, rfl, rfl, rfl⟩, ⟨job 9 false .trailer [] true .closed, by decide⟩,
     ⟨job 9 false .trailer [.blank 1] false .closed, by decide⟩, ⟨base, rfl⟩⟩

/-! ### Store and link -/

theorem test_met_OutgoingMessage_closes :
    (∃ (st : Store), st.outCell.state = .filling ∧ st.outCell.changed = false)
    ∧ (∃ (st : Store), st.outCell.state = .filling ∧ st.outCell.changed = true ∧ st.inCell.state = .waiting
        ∧ st.queue.length = 2)
    ∧ (∃ (st : Store), st.outCell.state = .filling ∧ st.outCell.changed = true ∧ st.inCell.state = .waiting
        ∧ st.queue.length = 3)
    ∧ (∃ st : Store, st.inCell.state ≠ .filling) ∧ (∃ st : Store, st.inCell.state = .filling ∧ st.queue.length = 4)
    ∧ (∃ s : State, s.store.open? .in = none) ∧ (∃ (s : State) (e : Entry), s.store.open? .in = some e)
    ∧ after (exec (.storeClose []) (asks 0x32#8 [] (withMessage .out .open base))) (fun t =>
        decide (t.store.dir.map Entry.state = [.closed]) && decide (t.link.sending = some (.report (.messageClosed 1 ⟨true, false, false, false, false, false⟩))))
      = true :=
  let st (changed : Bool) (n : Nat) : Store := { Store.reset with
    outCell := ⟨.filling, 1, 1, [0x41#7], changed⟩, inCell := ⟨.waiting, 1, 1, [], true⟩, queue := List.replicate n ⟨9, [0x41]⟩ }
  ⟨⟨st false 0, by decide⟩, ⟨st true 2, by decide⟩, ⟨st true 3, by decide⟩, ⟨Store.reset, by decide⟩,
   ⟨{ st true 4 with inCell := ⟨.filling, 1, 1, [], true⟩ }, by decide⟩, ⟨base, by decide⟩, ⟨withMessage .in .open base, _, rfl⟩,
   by decide +kernel⟩

theorem test_met_StoredCharacter_opening :
    (∃ s : State, s.store.dir.length = 63) ∧ (∃ s : State, (s.store.open? .out).isSome = true ∧ s.store.dir.length < 64)
    ∧ (∃ s : State, s.pu.chain.length = 7) ∧ (∃ s : State, s.pu.chain.length = 8)
    ∧ (∃ s : State, s.pr.mode = .catchUp ∧ s.pr.catchUp = none) ∧ ∃ s : State, s.pr.mode = .direct :=
  ⟨⟨full 63 base, by decide +kernel⟩, ⟨withMessage .out .open base, by decide⟩,
   ⟨onPu (fun p => { p with chain := List.replicate 7 ⟨1, 0, 0, 0, false, 0, 0⟩ }) base, by decide⟩,
   ⟨onPu (fun p => { p with chain := List.replicate 8 ⟨1, 0, 0, 0, false, 0, 0⟩ }) base, by decide⟩,
   ⟨onPr (fun p => { p with mode := .catchUp }) base, by decide⟩, ⟨base, rfl⟩⟩

/-- The FOLLOW job of a message that opens makes an OFF punch READY, whatever becomes of the character (R120, R129). -/
theorem test_opening_readies_the_punch :
    (openIncoming ⟨false, true, false, true, false⟩ base).pu.state = .ready
    ∧ (openIncoming ⟨false, false, false, true, false⟩ base).pu.state = .off := by
  decide +kernel

/-- CALL-ENDED carries the ceiling as the verdict left it, whatever a SET-LINE lowered it to during CLEARING (R154). -/
theorem test_call_ended_carries_the_ceiling_of_the_verdict :
    let cleared : State := enterClearing .clearRequest (onAgr (fun a => { a with ceiling := .r200 }) (inCall .connected base))
    (callEnd (onAgr (fun a => { a with ceiling := .r50 }) cleared)).link.sending
      = some (.report (.callEnded .clearRequest none none .neutral .r200)) := by
  decide +kernel

theorem test_met_ReadAndRelease_automatic :
    (∃ st : Store, ∀ w x, st.access ≠ some ⟨.write w, x⟩) ∧ (∃ (st : Store) (w : CellWrite) (x : Nat), st.access = some ⟨.write w, x⟩)
    ∧ (entry 1 .in .closed 524287 16).holdsCell 1 = true ∧ (entry 1 .in .closed 524287 16).holdsCell 2 = false
    ∧ (∃ s : State, s.store.entry? 1 = none)
    ∧ (∃ (s : State) (e : Entry), s.store.entry? 1 = some e ∧ s.call.autoRelease = true ∧ e.dir = .in ∧ e.state = .closed
        ∧ e.trackedMark = false ∧ e.punchNamed = false ∧ s.named e.number = false)
    ∧ (∃ (s : State) (e : Entry), s.store.entry? 1 = some e ∧ s.call.autoRelease = true ∧ s.named e.number = true)
    ∧ ∃ s : State, s.named 1 = true ∧ s.store.hostRead.isSome = true :=
  let auto : State := onCall (fun c => { c with autoRelease := true }) (withMessage .in .closed base)
  ⟨⟨Store.reset, fun _ _ h => nomatch h⟩, ⟨{ Store.reset with access := some ⟨.write ⟨9, []⟩, 10⟩ }, _, _, rfl⟩, by decide, by decide,
   ⟨base, by decide⟩, ⟨auto, _, rfl, rfl, rfl, rfl, rfl, rfl, by decide⟩,
   ⟨onPr (fun p => { p with tracked := some 1 }) auto, _, rfl, rfl, by decide⟩,
   ⟨onStore (fun x => { x with hostRead := some ⟨1, 0, 3, []⟩ }) auto, by decide⟩⟩

theorem test_met_DramEvents_cycles :
    (∃ (st : Store) (i : Fin 4) (row : Nat), st.banks[i] = .open row) ∧ (∃ st : Store, ∀ (i : Fin 4) (row : Nat), st.banks[i] ≠ .open row)
    ∧ (∃ s : State, s.store.queue = [] ∧ s.store.inCell.state = .empty ∧ s.store.outCell.state = .filling
        ∧ s.store.outCell.changed = true ∧ ∀ e ∈ s.store.dir, e.headerDue = false)
    ∧ ∃ s : State, s.store.queue ≠ [] :=
  ⟨⟨{ Store.reset with banks := Vector.replicate 4 (.open 1) }, 0, 1, by decide⟩,
   ⟨base.store, fun i row => by simp [base]⟩,
   ⟨onStore (fun x => { x with outCell := asm .filling }) base, by decide⟩, ⟨queued 1 base, by decide⟩⟩

/-- Every row of the table of R186: a replacement in place, an event report more and at its limit, a full queue with and without
a TEXT report. -/
theorem test_met_LinkBytesAndFrames_reports :
    joinReports .ring [.paperOut, .ring, .text .lineIn []] = ([.paperOut, .ring, .text .lineIn []], false, false)
    ∧ joinReports .ring [.paperOut] = ([.paperOut, .ring], false, false)
    ∧ joinReports (.messageOpened 13 none) (.ring :: List.replicate 12 (.messageOpened 1 none))
      = (.ring :: List.replicate 11 (.messageOpened 1 none) ++ [.messageOpened 13 none], false, true)
    ∧ joinReports (.text .lineIn []) (List.replicate 24 .ring) = (List.replicate 24 .ring, false, false)
    ∧ joinReports .ring (List.replicate 24 (.text .lineIn [])) = (List.replicate 23 (.text .lineIn []) ++ [.ring], true, false)
    ∧ joinReports .ring (List.replicate 12 (.messageOpened 1 none) ++ List.replicate 12 .paperOut)
      = (List.replicate 11 (.messageOpened 1 none) ++ List.replicate 12 .paperOut ++ [.ring], false, true) := by decide +kernel

theorem test_met_LinkBytesAndFrames_replies :
    (∃ l : Link, l.replies = [.rejected .format 0x01 255]) ∧ (∃ l : Link, ∀ f ∈ l.replies, ∀ k c, f ≠ OutFrame.rejected .format k c)
    ∧ (∃ s : State, s.link.overrun = none) ∧ (∃ s : State, s.link.overrun = some ⟨0x08, 1, 2⟩)
    ∧ ∃ s : State, s.link.overrun = some ⟨0x08, 1, 1⟩ :=
  ⟨⟨{ Link.reset with replies := [.rejected .format 0x01 255] }, rfl⟩, ⟨Link.reset, fun _ h => nomatch h⟩, ⟨base, rfl⟩,
   ⟨onLink (fun l => { l with overrun := some ⟨0x08, 1, 2⟩ }) base, rfl⟩,
   ⟨onLink (fun l => { l with overrun := some ⟨0x08, 1, 1⟩ }) base, rfl⟩⟩

/-- At every limit of the capacities. -/
theorem test_met_StepKeepsCapacities_limits : ∃ s t : State, s.capInv ∧ s.pu.queue.length = 32 ∧ s.kb.count = 72
    ∧ s.kb.agreeOf 9 = 2 ∧ step s = .next t :=
  ⟨onPu (fun p => { p with queue := List.replicate 32 .ltrs }) (counted 2 (onKb (fun k => { k with count := 72 }) base)), _,
   by unfold State.capInv; decide +kernel, rfl, rfl, rfl, rfl⟩

/-! ### The store in order -/

/-- One OPEN message of three characters, which stand in its assembly cell. -/
def begun (d : Dir) (s : State) : State :=
  onStore (fun x => x.setAsm d ⟨.filling, 1, 1, [0x41#7, 0x42#7, 0x43#7], true⟩) (withMessage d .open s)

theorem begun_layout (d : Dir) : (begun d base).store.layoutInv := by
  refine ⟨⟨?_, ?_, ?_, ?_⟩, ⟨?_, ?_, ?_, ?_⟩, ⟨?_, ?_⟩, ⟨?_, ?_⟩, ?_⟩ <;> cases d
  all_goals first
    | decide
    | exact ⟨rfl, rfl⟩

theorem test_met_ResetStationIsSoftReset_closes :
    (∃ s : State, s.store.layoutInv ∧ (∃ e ∈ s.store.dir, e.state = .open ∧ e.dir = .in) ∧ s.call.autoRelease = false)
    ∧ ∃ s : State, s.store.layoutInv ∧ ∃ e ∈ s.store.dir, e.state = .open ∧ e.dir = .out :=
  ⟨⟨begun .in base, begun_layout .in, ⟨_, .head _, rfl, rfl⟩, rfl⟩, ⟨begun .out base, begun_layout .out, _, .head _, rfl, rfl⟩⟩

/-- A message that is OPEN in CONNECTED and tracked. -/
def tracking : State :=
  onPr (fun p => { p with tracked := some 1 }) (onCall (fun c => { c with state := .connected, loopClose := true }) (begun .in base))

theorem test_met_StepKeepsStoreInOrder :
    ∃ s t : State, s.callInv ∧ s.storeInv ∧ s.namedInv ∧ s.named 1 = true ∧ step s = .next t := by
  refine ⟨tracking, _, by unfold State.callInv; decide, ⟨begun_layout .in, by decide⟩, ?_, by decide, rfl⟩
  intro n h
  refine ⟨entry 1 .in .open 0 3, .head _, ?_, by decide⟩
  have h1 : 1 = n := by
    simpa [State.named, tracking, onPr, onCall, begun, withMessage, onStore, Store.setAsm, base, State.reset, Printer.reset,
      Punch.reset, CallCtl.reset, Play.reset, Store.reset] using h
  exact h1

/-- The second message takes the next number that is not held, after 65535 again 1 (R170). -/
theorem test_numbers_wrap :
    { base.store with dir := [entry 65535 .in .closed 0 0], nextNumber := 65535 }.firstFree 1 :=
  ⟨1, by decide, rfl, by decide, fun j h => ⟨entry 65535 .in .closed 0 0, .head _, by
    rw [show j = 0 by omega]; rfl⟩⟩

theorem test_met_OutgoingMessage_takes :
    (∃ (s : State) (e : Entry), s.store.open? .out = some e ∧ s.store.queue.length ≤ 2 ∧ storeInto e 0x41#7 s = (s, .blocked))
    ∧ (∃ (s s1 : State) (e : Entry), s.store.open? .out = some e ∧ s.store.queue.length ≤ 2
        ∧ storeInto e 0x41#7 s = (s1, .ringOut))
    ∧ (∃ (s : State) (e : Entry), e.dir = .in ∧ (s.store.storeChar e.dir e 0x41#7).2 = .blocked)
    ∧ ∃ s : State, s.store.open? .out = none ∧ 1 ≤ s.store.nextNumber ∧ s.store.nextNumber ≤ 65535 ∧ s.store.dir.length < 64 :=
  ⟨⟨onStore (fun x => { x with outCell := asm .waiting }) (withMessage .out .open base), _, rfl, by decide, rfl⟩,
   ⟨onStore (fun x => { x with free := 0 }) (withMessage .out .open base), _, _, rfl, by decide, rfl⟩,
   ⟨onStore (fun x => { x with inCell := asm .waiting }) (withMessage .in .open base), entry 1 .in .open 0 3, rfl, rfl⟩,
   ⟨base, by decide⟩⟩

/-- A text in its assembly cell, in the write queue and in the DRAM. -/
theorem test_met_reading :
    (begun .in base).store.staged (bodyCell 0 0) = true
    ∧ (begun .in base).store.serveHost [] (entry 1 .in .open 0 3) 26 ⟨1, 0, 3, []⟩ = ⟨1, 0, 3, [0x41#7, 0x42#7, 0x43#7]⟩
    ∧ (onStore (fun x => { x with queue := [⟨1, [0x50]⟩, ⟨1, [0x51, 0x52]⟩, ⟨1, [0x53]⟩] }) (withMessage .in .closed base)
        ).store.cellChars [(10, 0x43#8)] (entry 1 .in .closed 0 3) 0 3 = [0x53#7, 0x52#7, 0x43#7]
    ∧ (withMessage .in .closed base).store.staged (bodyCell 0 0) = false
    ∧ (withMessage .in .closed base).store.live? 1 = some (entry 1 .in .closed 0 3)
    ∧ (withMessage .in .released base).store.live? 1 = none := by
  decide +kernel

/-- A RUNNING playback of a message from its beginning. -/
def playsFrom (s : State) : State := onCall (fun c => { c with play := ⟨.running, 1, 0, [], [], 1⟩ }) s

theorem test_met_Playbacks_reads :
    (∃ s : State, s.call.play.state = .running ∧ s.call.play.buf = [] ∧ s.store.playRead = none
        ∧ s.call.play.readPos < s.store.lengthOf s.call.play.number ∧ s.store.entry? s.call.play.number = some (entry 1 .out .open 0 3)
        ∧ s.store.staged (bodyCell 0 s.call.play.readPos) = true)
    ∧ ∃ s : State, s.call.play.state = .running ∧ s.call.play.buf = [] ∧ s.store.playRead = none
        ∧ s.call.play.readPos < s.store.lengthOf s.call.play.number
        ∧ s.store.entry? s.call.play.number = some (entry 1 .out .closed 0 3)
        ∧ s.store.staged (bodyCell 0 s.call.play.readPos) = false :=
  ⟨⟨playsFrom (begun .out base), by decide⟩, ⟨playsFrom (withMessage .out .closed base), by decide⟩⟩

theorem test_met_AccessCompletes_readers :
    (∃ (s : State) (q : Read) (j : PunchJob), s.store.punchRead = some q ∧ s.pu.chain = [j])
    ∧ (∃ (s : State) (q : Read), s.store.punchRead = some q ∧ s.pu.chain = [])
    ∧ ∃ (s : State) (h : HostRead) (e : Entry), s.store.hostRead = some h ∧ s.store.entry? h.number = some e :=
  ⟨⟨onPu (fun p => { p with chain := [⟨1, 0, 0, 0, false, 0, 0⟩] }) (onStore (fun x => { x with punchRead := some ⟨1, 0⟩ }) base),
      _, _, rfl, rfl⟩,
   ⟨onStore (fun x => { x with punchRead := some ⟨1, 0⟩ }) base, _, rfl, rfl⟩,
   ⟨onStore (fun x => { x with hostRead := some ⟨1, 0, 3, []⟩ }) (withMessage .in .closed base), _, _, rfl, rfl⟩⟩

/-- A break that takes an acknowledged M2 back before its sent point (R49, R55). -/
theorem test_break_takes_offers_back :
    (receivedBreak (onAgr (fun a => { a with active := true, nextCode := 1, formed := 2 })
      (onTx (fun t => { t with front := some ⟨⟨1#5, .offer, .offerCode 3 true, 0, 0⟩, false, .r50, .two, 0⟩ }) base))).agr
      = { Agreement.reset with active := true, nextCode := 0, formed := 1 } := by
  decide +kernel

/-- Each of R96's conditions is work alone; an unknown column is work in READY and not in OFF (log 15). -/
theorem test_printerWork :
    let m : State := withMessage .in .closed base
    (onPr (fun p => { p with queue := [⟨0x41#7, none⟩] }) base).printerWork = true
    ∧ (onPr (fun p => { p with mode := .catchUp, catchUp := some 1 }) m).printerWork = true
    ∧ (onPr (fun p => { p with mode := .catchUp, tracked := some 1 }) m).printerWork = true
    ∧ (onPr (fun p => { p with jobs := [⟨1, 0, 0⟩] }) m).printerWork = true
    ∧ (onPr (fun p => { p with startPending := true }) base).printerWork = true
    ∧ (onPr (fun p => { p with waiting := some ⟨0x41#7, .queue none⟩ }) base).printerWork = true
    ∧ (onPr (fun p => { p with state := .ready }) base).printerWork = true ∧ base.printerWork = false := by
  decide

theorem test_met_MotorEvents_nothing :
    (∃ s : State, s.pr.state ≠ .off) ∧ (∃ s : State, s.pr.state = .off ∧ s.pr.unavailable = true)
    ∧ (∃ s : State, s.pr.state = .off ∧ s.printerWork = false) ∧ (∃ s : State, s.pr.state = .off ∧ s.call.state = .standby)
    ∧ (∃ s : State, s.pr.state ≠ .starting)
    ∧ ∃ s : State, ¬(s.pr.state = .ready ∧ s.printerWork = false ∧ s.pr.tracked = none ∧ s.pr.mode = .direct) :=
  ⟨⟨printer .ready base, by decide⟩, ⟨onPr (fun p => { p with unavailable := true }) base, by decide⟩, ⟨base, by decide⟩,
   ⟨inCall .standby base, by decide⟩, ⟨base, by decide⟩, ⟨onPr (fun p => { p with state := .ready }) base, by decide⟩⟩

/-- A READY printer with no work, whose motor-off timer has counted so many ticks. -/
def resting (n : Nat) : State := onPr (fun p => { p with offTicks := n }) (printer .ready base)

theorem test_met_MotorEvents_timer :
    (∃ s : State, s.pr.state = .ready ∧ s.printerWork = false ∧ s.pr.tracked = none ∧ s.pr.mode = .direct ∧ s.pr.offTicks = 638)
    ∧ ∃ s : State, s.pr.state = .ready ∧ s.printerWork = false ∧ s.pr.tracked = none ∧ s.pr.mode = .direct
        ∧ s.pr.offTicks = 639 :=
  ⟨⟨resting 638, by decide⟩, ⟨resting 639, by decide⟩⟩

/-- R98: 10 s are 640 ticks, and the last of them stops the motor. -/
theorem test_motor_off_tick : (motorOffTick (resting 638)).pr.state = .ready ∧ (motorOffTick (resting 639)).pr.state = .off := by
  decide

/-- R98: text that arrives stops the timer. -/
theorem test_motor_off_restarts : (resting 300).motorOffLeft = some 340
    ∧ (deliverUntagged 0x41 (resting 300)).motorOffLeft = none ∧ (deliverUntagged 0x41 (resting 300)).pr.offTicks = 0 := by decide

/-- In PrinterTakes live work stands with no job running. -/
theorem test_met_PrinterTakes_live :
    ∃ s : State, s.pr.queue ≠ [] ∧ ¬(s.pr.jobRun = .body ∨ s.pr.jobRun = .closing) :=
  ⟨onPr (fun p => { p with queue := [⟨0x41#7, none⟩] }) base, by decide⟩

/-- The head job of a READY printer names the message 1, of three characters. -/
def jobRuns (run : JobRun) (cursor column : Nat) (text : List StationCode) : State :=
  onPr (fun p => { p with jobs := [⟨1, 0, cursor⟩], jobRun := run, column := column, buf := text })
    (printer .ready (withMessage .in .closed base))

/-- The premises of the clauses on the running job. -/
def JobReady (s : State) : Prop :=
  s.pr.state = .ready ∧ s.pr.columnKnown = true ∧ s.pr.waiting = none ∧ s.pr.jobs.length = 1 ∧ s.pr.queue = []
    ∧ s.pr.tracked = none ∧ s.pr.mode = .direct ∧ s.pr.unavailable = false

theorem jobRuns_ready (run : JobRun) (cursor column : Nat) (text : List StationCode) : JobReady (jobRuns run cursor column text) := by
  simp [JobReady, jobRuns, printer, onPr, withMessage, onStore, base, State.reset, Printer.reset]

theorem test_met_PrinterTakes_jobs :
    (∃ s : State, JobReady s ∧ s.pr.jobRun = .notStarted ∧ s.store.printRead = none ∧ s.pr.column = 2)
    ∧ (∃ s : State, JobReady s ∧ s.pr.jobRun = .suspended ∧ s.store.printRead = none ∧ s.pr.column = 1)
    ∧ (∃ s : State, JobReady s ∧ s.pr.jobRun = .body ∧ s.pr.buf = [0x41#7])
    ∧ (∃ s : State, JobReady s ∧ s.pr.jobRun = .body ∧ s.pr.buf = [] ∧ s.store.printRead = none
        ∧ s.pr.jobs.head?.any (fun j => decide (j.cursor < s.store.lengthOf j.number)) = true)
    ∧ (∃ s : State, JobReady s ∧ s.pr.jobRun = .body ∧ s.pr.buf = [] ∧ s.store.printRead = none
        ∧ s.pr.jobs.head?.any (fun j => decide (s.store.lengthOf j.number ≤ j.cursor)) = true ∧ s.pr.column = 2)
    ∧ (∃ s : State, JobReady s ∧ s.pr.jobRun = .body ∧ s.pr.buf = [] ∧ s.store.printRead = none
        ∧ s.pr.jobs.head?.any (fun j => decide (s.store.lengthOf j.number ≤ j.cursor)) = true ∧ s.pr.column = 1)
    ∧ (∃ s : State, JobReady s ∧ s.pr.jobRun = .body ∧ s.pr.buf = [] ∧ s.store.printRead ≠ none)
    ∧ ∃ s : State, s.pr.state ≠ .ready ∧ s.pr.state ≠ .returning :=
  ⟨⟨jobRuns .notStarted 0 2 [], jobRuns_ready .., by decide⟩, ⟨jobRuns .suspended 0 1 [], jobRuns_ready .., by decide⟩,
   ⟨jobRuns .body 0 2 [0x41#7], jobRuns_ready .., by decide⟩, ⟨jobRuns .body 2 2 [], jobRuns_ready .., by decide⟩,
   ⟨jobRuns .body 3 2 [], jobRuns_ready .., by decide⟩, ⟨jobRuns .body 3 1 [], jobRuns_ready .., by decide⟩,
   ⟨onStore (fun x => { x with printRead := some ⟨1, 0⟩ }) (jobRuns .body 0 2 []), jobRuns_ready .., by decide⟩, ⟨base, by decide⟩⟩

theorem test_met_PrintCycle_closing :
    (∃ s : State, s.pr.jobRun = .closing) ∧ (∃ s : State, s.pr.jobs = [])
    ∧ ∃ (s : State) (j : PrintJob) (rest : List PrintJob), s.pr.jobs = j :: rest :=
  ⟨⟨jobRuns .closing 3 1 [], rfl⟩, ⟨base, rfl⟩, ⟨jobRuns .closing 3 1 [], _, _, rfl⟩⟩

theorem test_met_PunchCycles_unknown :
    (∃ s : State, s.pu.shift = .unknown ∧ s.conv.ltrsShift = some 31#5 ∧ s.conv.encode .letters 0x42#7 = none)
    ∧ (∃ s : State, s.pu.shift = .unknown ∧ s.conv.ltrsShift = none)
    ∧ ∃ s : State, s.pu.cycle = none ∧ s.pu.state ≠ .tapeLowHold ∧ s.call.state ≠ .standby ∧ s.pu.held = none
        ∧ s.pu.queue = [.ltrs] ∧ s.conv.ltrsShift = none :=
  ⟨⟨punch id base, by decide +kernel⟩, ⟨base, by decide⟩, ⟨onPu (fun p => { p with queue := [.ltrs] }) base, by decide⟩⟩

theorem test_met_TapeAndPunchJobs_actions :
    MetB 0x43#8 [3, 0] (fun b _ => b.length = 2 ∧ 2 < field1 b 0) ∧ MetB 0x43#8 [2, 0] (fun b _ => b.length = 2 ∧ field1 b 0 = 2)
    ∧ MetB 0x43#8 [1, 0] (fun b _ => b.length = 2 ∧ field1 b 0 = 1)
    ∧ MetB 0x43#8 [0, 0] (fun b _ => b.length = 2 ∧ field1 b 0 = 0) :=
  ⟨metB base (by decide), metB base (by decide), metB base (by decide), metB base (by decide)⟩

end Sys2Proof.Tests
end

section
/-! SUPPORT. The answerback string and the EOM sequence (R11, R13): what the resets keep of the converter, the branches of the
two requests that set them, and the statements O10 and O11. -/

namespace Sys2Proof.Machine

/-! ### What the resets keep of the converter -/

/-- A soft reset acts on the converter as its own block reset says (01 section 1.8). -/
theorem softReset_conv (s : State) : (softReset s).conv = s.conv.softReset := by
  simp [softReset]

/-- The end of a call touches the transmit plane of the converter alone (R154). -/
theorem callEnd_conv (s : State) : (callEnd s).conv = { s.conv with txPlane := .unknown } := by
  simp [callEnd]

/-- Entry to STANDBY leaves the converter as it is (R158). -/
theorem enterStandby_conv (s : State) : (enterStandby s).conv = s.conv := (enterStandby_frame s).1

/-! ### Requests by the length of the body -/

/-- A request of a fitting body is answered by the act of its block (R184). -/
theorem accept_asked_fits {kind : Byte} {body : List Byte} {s s0 : State} {fits : Bool} (act : State → State × Answer)
    (h : s.asked kind body s0) (hfits : fits = true) :
    accept kind fits body act s = reply kind (act (touchStandby s0)).2 (act (touchStandby s0)).1 := by
  rw [accept_asked fits act h, if_pos hfits]

/-- A request of a body that does not fit is answered BAD-VALUE, whatever its act (R185). -/
theorem accept_asked_unfit {kind : Byte} {body : List Byte} {s s0 : State} {fits : Bool} (act : State → State × Answer)
    (h : s.asked kind body s0) (hfits : fits = false) :
    accept kind fits body act s = reply kind (badLength (touchStandby s0)) (useFree (touchStandby s0)) := by
  rw [accept_asked fits act h, if_neg (ne_true_of_eq_false hfits)]

/-! ### SET-ANSWERBACK (R11) -/

theorem exec_setAnswerback_of_fits {body : List Byte} {s s0 : State} (h : s.asked 0x05#8 body s0) (hlen : body.length ≤ 20) :
    exec (.setAnswerback body) s = .next
      (reply 0x05#8 (actSetAnswerback body (touchStandby s0)).2 (actSetAnswerback body (touchStandby s0)).1) :=
  congrArg Host.Outcome.next (accept_asked_fits _ h (decide_eq_true hlen))

theorem exec_setAnswerback_of_long {body : List Byte} {s s0 : State} (h : s.asked 0x05#8 body s0) (hlen : 20 < body.length) :
    exec (.setAnswerback body) s = .next (reply 0x05#8 (badLength (touchStandby s0)) (useFree (touchStandby s0))) :=
  congrArg Host.Outcome.next (accept_asked_unfit _ h (decide_eq_false (Nat.not_le.2 hlen)))

theorem actSetAnswerback_of_bad {body : List Byte} (s : State) (hbad : ∃ b ∈ body, 128 ≤ b.toNat) :
    actSetAnswerback body s = (s, badValue (badCodeAt 0 body)) := by
  simp only [actSetAnswerback, stationCodes?_bad hbad]

/-- No string is replaced while an answerback waits or is sent. -/
theorem actSetAnswerback_of_duty {body : List Byte} {s : State} (hgood : ∀ b ∈ body, b.toNat < 128) (hduty : s.tx.duty ≠ .none) :
    actSetAnswerback body s = (s, plainAnswer .wrongState) := by
  simp only [actSetAnswerback, stationCodes?_good hgood, if_neg hduty]

theorem actSetAnswerback_of_noDuty {body : List Byte} {s : State} (hgood : ∀ b ∈ body, b.toNat < 128)
    (hduty : s.tx.duty = .none) :
    actSetAnswerback body s = ({ s with conv := { s.conv with answerback := body.map (BitVec.setWidth 7) } }, ok []) := by
  simp only [actSetAnswerback, stationCodes?_good hgood, if_pos hduty]

/-- Settles O10: the resets through what they keep of the converter, SET-ANSWERBACK by the length of its body, its codes and
the answerback duty. -/
theorem answerbackStringFollowsR11 : Obligations.AnswerbackStringFollowsR11 := by
  refine ⟨rfl, fun s => ⟨?_, ?_, ?_⟩, fun s s0 body h => ⟨fun hlen => ?_, fun hlen hbad => ?_, fun hlen hgood hduty => ?_,
    fun hlen hgood hduty => ?_⟩⟩
  · rw [softReset_conv, Converter.softReset_answerback]
  · rw [callEnd_conv]
  · rw [enterStandby_conv]
  · exact ⟨_, exec_setAnswerback_of_long h hlen⟩
  · rw [exec_setAnswerback_of_fits h hlen, actSetAnswerback_of_bad _ hbad]
    exact ⟨_, rfl⟩
  · rw [exec_setAnswerback_of_fits h hlen, actSetAnswerback_of_duty hgood hduty, plainAnswer]
  · rw [exec_setAnswerback_of_fits h hlen, actSetAnswerback_of_noDuty hgood hduty, ok]

/-! ### SET-EOM (R13) -/

theorem exec_setEom_of_fits {body : List Byte} {s s0 : State} (h : s.asked 0x06#8 body s0) (hlen : body.length ≤ 8) :
    exec (.setEom body) s = .next
      (reply 0x06#8 (actSetEom body (touchStandby s0)).2 (actSetEom body (touchStandby s0)).1) :=
  congrArg Host.Outcome.next (accept_asked_fits _ h (decide_eq_true hlen))

theorem exec_setEom_of_long {body : List Byte} {s s0 : State} (h : s.asked 0x06#8 body s0) (hlen : 8 < body.length) :
    exec (.setEom body) s = .next (reply 0x06#8 (badLength (touchStandby s0)) (useFree (touchStandby s0))) :=
  congrArg Host.Outcome.next (accept_asked_unfit _ h (decide_eq_false (Nat.not_le.2 hlen)))

theorem actSetEom_of_bad {body : List Byte} (s : State) (hbad : ∃ b ∈ body, 128 ≤ b.toNat) :
    actSetEom body s = (s, badValue (badCodeAt 0 body)) := by
  simp only [actSetEom, stationCodes?_bad hbad]

/-- A sequence of good codes is replaced in every state, and a partial match made under the old one is abandoned. -/
theorem actSetEom_of_good {body : List Byte} (s : State) (hgood : ∀ b ∈ body, b.toNat < 128) :
    actSetEom body s = ({ s with conv := { s.conv with eom := body.map (BitVec.setWidth 7), m := 0 } }, ok []) := by
  simp only [actSetEom, stationCodes?_good hgood]

/-- The matcher of an empty sequence stays at 0 and completes nothing. -/
theorem eomMatch_nil (m : Nat) (c : StationCode) : eomMatch [] m c = (0, false) := if_pos rfl

/-- Settles O11: the resets through what they keep of the converter, the matcher of the empty sequence, SET-EOM by the length
of its body and its codes. -/
theorem eomSequenceFollowsR13 : Obligations.EomSequenceFollowsR13 := by
  refine ⟨rfl, fun s => ⟨?_, ?_, ?_⟩, eomMatch_nil, fun s s0 body h => ⟨fun hlen => ?_, fun hlen hbad => ?_,
    fun hlen hgood => ?_⟩⟩
  · rw [softReset_conv, Converter.softReset_eom]
  · rw [callEnd_conv]
  · rw [enterStandby_conv]
  · exact ⟨_, exec_setEom_of_long h hlen⟩
  · rw [exec_setEom_of_fits h hlen, actSetEom_of_bad _ hbad]
    exact ⟨_, rfl⟩
  · rw [exec_setEom_of_fits h hlen, actSetEom_of_good _ hgood, ok]

end Sys2Proof.Machine
end

section
/-! SUPPORT. The live flags (R38): a tick takes the reading of LOOPSENSE, and what a tick does after it keeps LOOP-CURRENT,
shown along the operations of the tick from the inside out; then the statement O52. -/

namespace Sys2Proof.Machine

/-! ### RECEIVING -/

/-- RECEIVING stands in two receiver states (R38). -/
theorem Receiver.receiving_iff (r : Receiver) : r.receiving = true ↔ r.state = .startCheck ∨ r.state = .assemble := by
  simp only [Receiver.receiving, Bool.or_eq_true, decide_eq_true_eq]

/-- A receiver in HUNT receives nothing. -/
theorem Receiver.receiving_of_hunt {r : Receiver} (h : r.state = .hunt) : r.receiving = false := by
  simp [Receiver.receiving, h]

/-! ### The beginnings and ends of a call keep LOOP-CURRENT -/

theorem callEnd_loopCurrent (s : State) : (callEnd s).rx.loopCurrent = s.rx.loopCurrent := by
  simp [callEnd]

theorem enterClearing_loopCurrent (cause : Cause) (s : State) :
    (enterClearing cause s).rx.loopCurrent = s.rx.loopCurrent := by
  unfold enterClearing
  dsimp only
  split
  · rw [callEnd_loopCurrent]; simp
  · simp

theorem connect_loopCurrent (s : State) : (connect s).rx.loopCurrent = s.rx.loopCurrent := rfl

/-- Out of IDLE a trigger of the answerback sends nothing at once, so it leaves the receiver as it is (R46). -/
theorem triggerAnswerback_rx_of_not_idle {s : State} (hidle : s.call.state ≠ .idle) : (triggerAnswerback s).rx = s.rx := by
  simp only [triggerAnswerback, if_neg hidle]
  split
  · rfl
  · split
    · simp
    · rfl

theorem callConnected_rx (rate : Rate) (outcome : AgreeOutcome) (quality : Option Bool) (s : State) :
    (callConnected rate outcome quality s).rx = s.rx := by
  unfold callConnected
  dsimp only
  split
  · rw [triggerAnswerback_rx_of_not_idle (by simp)]
    simp
  · simp

theorem fallBack_rx (outcome : AgreeOutcome) (s : State) : (fallBack outcome s).rx = s.rx := by
  unfold fallBack
  dsimp only
  rw [callConnected_rx]
  split <;> simp

/-! ### The line conditions keep LOOP-CURRENT -/

theorem Receiver.countSpace_loopCurrent (r : Receiver) : r.countSpace.loopCurrent = r.loopCurrent := by
  unfold Receiver.countSpace
  split <;> rfl

theorem breakThreshold_loopCurrent (s : State) : (breakThreshold s).rx.loopCurrent = s.rx.loopCurrent := by
  unfold breakThreshold
  dsimp only
  split
  · rw [fallBack_rx]; simp
  · simp

theorem clearThreshold_loopCurrent (s : State) : (clearThreshold s).rx.loopCurrent = s.rx.loopCurrent := by
  unfold clearThreshold
  split
  · rfl
  · rw [enterClearing_loopCurrent]

theorem loopLost_loopCurrent (s : State) : (loopLost s).rx.loopCurrent = s.rx.loopCurrent := by
  unfold loopLost
  rw [enterClearing_loopCurrent, Receiver.toHunt_loopCurrent]

theorem breakTick_loopCurrent (s : State) : (breakTick s).rx.loopCurrent = s.rx.loopCurrent := by
  unfold breakTick
  split
  · exact breakThreshold_loopCurrent s
  · rfl

theorem clearTick_loopCurrent (s : State) : (clearTick s).rx.loopCurrent = s.rx.loopCurrent := by
  unfold clearTick
  split
  · exact clearThreshold_loopCurrent s
  · rfl

theorem lineTick_loopCurrent (s : State) : (lineTick s).rx.loopCurrent = s.rx.loopCurrent := by
  unfold lineTick
  split
  · rw [clearTick_loopCurrent, breakTick_loopCurrent, Receiver.countSpace_loopCurrent]
  · split
    · rfl
    · exact loopLost_loopCurrent s

/-! ### The timers of the call states keep LOOP-CURRENT -/

theorem agreementTick_rx (s : State) : (agreementTick s).rx = s.rx := by
  unfold agreementTick
  dsimp only
  split
  · rw [fallBack_rx]
  · split
    · rw [fallBack_rx]
    · rfl

theorem idleClearTick_loopCurrent (s : State) : (idleClearTick s).rx.loopCurrent = s.rx.loopCurrent := by
  unfold idleClearTick
  dsimp only
  split
  · exact enterClearing_loopCurrent _ s
  · rfl

theorem loopTick_loopCurrent (s : State) : (loopTick s).rx.loopCurrent = s.rx.loopCurrent := by
  unfold loopTick
  split
  · exact connect_loopCurrent s
  · dsimp only
    split
    · exact enterClearing_loopCurrent _ s
    · rfl

theorem clearingTick_loopCurrent (s : State) : (clearingTick s).rx.loopCurrent = s.rx.loopCurrent := by
  unfold clearingTick
  split
  · rfl
  · split
    · rfl
    · exact callEnd_loopCurrent s

theorem signalTick_loopCurrent (s : State) : (signalTick s).rx.loopCurrent = s.rx.loopCurrent := by
  unfold signalTick
  cases s.tx.signal with
  | none => rfl
  | brk n => dsimp only; split <;> simp
  | clr n =>
    dsimp only
    split
    · rfl
    · exact callEnd_loopCurrent s

/-! ### A tick -/

theorem whileIn_loopCurrent {st : CallState} {f : State → State} (hf : ∀ s, (f s).rx.loopCurrent = s.rx.loopCurrent)
    (s : State) : (whileIn st f s).rx.loopCurrent = s.rx.loopCurrent := by
  unfold whileIn
  split
  · exact hf s
  · rfl

theorem callTick_loopCurrent (s : State) : (callTick s).rx.loopCurrent = s.rx.loopCurrent := by
  unfold callTick
  cases s.call.state with
  | agreeing =>
    exact (whileIn_loopCurrent (fun s => by rw [agreementTick_rx]) _).trans (lineTick_loopCurrent s)
  | connected => exact (whileIn_loopCurrent idleClearTick_loopCurrent _).trans (lineTick_loopCurrent s)
  | ringCheck => dsimp only; split <;> simp
  | answering => exact loopTick_loopCurrent s
  | originating => exact loopTick_loopCurrent s
  | idle => simp
  | clearing => exact clearingTick_loopCurrent s
  | starting => rfl
  | standby => rfl

/-- LOOP-CURRENT after a tick is the reading of LOOPSENSE taken at it (R17, R38). -/
theorem tick_loopCurrent (s : State) : (tick s).rx.loopCurrent = s.pins.loopSense := by
  unfold tick
  rw [(ringTick_frame _ _).2.1, whileIn_loopCurrent callTick_loopCurrent, signalTick_loopCurrent]

/-! ### STATUS and power-on -/

/-- A STATUS request that can be taken is answered with the record of the state at its taking (R189). -/
theorem exec_status_of_asked {s s0 : State} (h : s.asked 0x50#8 [] s0) :
    exec (.status []) s = .next (reply 0x50#8 (ok (touchStandby s0).statusRecord) (actStatus (touchStandby s0)).1) :=
  congrArg Host.Outcome.next (accept_asked_fits actStatus h rfl)

/-- The taking of a STATUS request leaves the receiver as it is: its act clears the latches alone (R37). -/
theorem actStatus_rx_of_asked {s s0 : State} (h : s.asked 0x50#8 [] s0) : (actStatus (touchStandby s0)).1.rx = s.rx := by
  have hrx : s0.rx = s.rx := by rw [asked_frame h]
  simp [actStatus, hrx]

/-- After power-on the receiver is in HUNT, and so RECEIVING is false (R38). -/
theorem powerOn_receiving (s : State) : (powerOn s).rx.receiving = false := Receiver.receiving_of_hunt rfl

/-- Settles O52: RECEIVING by the receiver's state, the flags by their byte of the STATUS record, STATUS by its act, the tick by
what its operations keep of LOOP-CURRENT. -/
theorem liveFlagsFollowR38 : Obligations.LiveFlagsFollowR38 := by
  refine ⟨fun s => ⟨s.rx.receiving_iff, statusRecord_flags s⟩, fun s s0 h => ?_, fun s hpending => ?_, fun s t h => ?_⟩
  · exact ⟨_, exec_status_of_asked h, actStatus_rx_of_asked h⟩
  · exact ⟨tick s, by simp only [step, hpending], tick_loopCurrent s⟩
  · cases h
    exact powerOn_receiving s

end Sys2Proof.Machine
end

section
/-! SUPPORT. The character router (R65, R69): the tests of SET-ROUTES and the set it replaces, the branches of LINK-TEXT and
what the resets and the ends of a call keep of the link-text holding; then the statements O12 and O34. -/

namespace Sys2Proof.Machine

/-! ### Rows and route sets (R64, R65) -/

/-- A byte names a row only when it lies below 32 (10 section 10.4). -/
theorem row?_some_lt {b : Byte} {r : Row} (h : row? b = some r) : b.toNat < 32 := by
  unfold row? at h
  split at h
  · assumption
  · contradiction

/-- A row holds no sink when it is the row of five absent sinks. -/
theorem Row.isEmpty_iff (r : Row) : r.isEmpty = true ↔ r = ⟨false, false, false, false, false⟩ := by
  obtain ⟨printer, punch, lineOut, store, link⟩ := r
  simp only [Row.isEmpty, Bool.and_eq_true, Bool.not_eq_true', Row.mk.injEq, and_assoc]

/-- The conflicts of R65, orders 2 to 6: three of every set, those of LOCAL and those of the sets of a call. -/
theorem routesConflict_iff (set : Nat) (li kb lt pl ab : Row) :
    routesConflict set ⟨li, kb, lt, pl, ab⟩ = true ↔
      li.lineOut = true ∨ pl.store = true ∨ (li.punch = true ∧ li.store = false)
        ∨ (set = 0 ∧ (li.lineOut = true ∨ kb.lineOut = true ∨ lt.lineOut = true ∨ pl.lineOut = true ∨ ab.lineOut = true
          ∨ pl ≠ ⟨false, false, false, false, false⟩))
        ∨ (set ≠ 0 ∧ (pl.lineOut = false ∨ ab.lineOut = false)) := by
  simp only [routesConflict, Bool.or_eq_true, Bool.and_eq_true, Bool.not_eq_true', decide_eq_true_eq,
    ← Bool.not_eq_true pl.isEmpty, Row.isEmpty_iff, or_assoc, ne_eq]

/-- Set 0 is LOCAL, 1 CALL-ATTENDED, 2 CALL-UNATTENDED; the named set is replaced whole. -/
theorem Router.setRoutes_eq {set : Nat} (r : RouteSet) (rt : Router) (hset : set ≤ 2) :
    rt.setRoutes set r =
      if set = 0 then { rt with localSet := r } else if set = 1 then { rt with attended := r }
      else { rt with unattended := r } := by
  match set, hset with
  | 0, _ => rfl
  | 1, _ => rfl
  | 2, _ => rfl

/-! ### SET-ROUTES (R65) -/

theorem exec_setRoutes_of_fits {body : List Byte} {s s0 : State} (h : s.asked 0x07#8 body s0) (hlen : body.length = 6) :
    exec (.setRoutes body) s = .next
      (reply 0x07#8 (actSetRoutes body (touchStandby s0)).2 (actSetRoutes body (touchStandby s0)).1) :=
  congrArg Host.Outcome.next (accept_asked_fits _ h (decide_eq_true hlen))

/-- A set number above 2, or a row that names an absent sink, is a BAD-VALUE and replaces nothing (order 1). -/
theorem actSetRoutes_of_bad {body : List Byte} (s : State)
    (hbad : 2 < field1 body 0 ∨ ∃ i, i < 5 ∧ 32 ≤ field1 body (1 + i)) :
    ∃ p, actSetRoutes body s = (s, badValue p) := by
  unfold actSetRoutes
  split
  next li kb lt pl ab hli hkb hlt hpl hab =>
    have hrows : ∀ i, i < 5 → field1 body (1 + i) < 32
      | 0, _ => row?_some_lt hli
      | 1, _ => row?_some_lt hkb
      | 2, _ => row?_some_lt hlt
      | 3, _ => row?_some_lt hpl
      | 4, _ => row?_some_lt hab
    have hset : 2 < field1 body 0 := hbad.resolve_right fun ⟨i, hi, hrow⟩ => absurd (hrows i hi) (Nat.not_lt.2 hrow)
    exact ⟨0, if_pos hset⟩
  next => exact ⟨_, rfl⟩

/-- With a set number and five rows that can be read, the conflicts alone decide. -/
theorem actSetRoutes_of_rows {body : List Byte} {li kb lt pl ab : Row} (s : State) (hset : field1 body 0 ≤ 2)
    (hli : row? (body.getD 1 0) = some li) (hkb : row? (body.getD 2 0) = some kb) (hlt : row? (body.getD 3 0) = some lt)
    (hpl : row? (body.getD 4 0) = some pl) (hab : row? (body.getD 5 0) = some ab) :
    actSetRoutes body s =
      if routesConflict (field1 body 0) ⟨li, kb, lt, pl, ab⟩ then (s, plainAnswer .tableConflict)
      else ({ s with router := s.router.setRoutes (field1 body 0) ⟨li, kb, lt, pl, ab⟩ }, ok []) := by
  simp only [actSetRoutes, hli, hkb, hlt, hpl, hab, if_neg (Nat.not_lt.2 hset)]

/-- Settles O12: order 1 by the set number and the rows that cannot be read, orders 2 to 6 by the conflicts of the set, the
replacement by the number of the set. -/
theorem setRoutesFollowsR65 : Obligations.SetRoutesFollowsR65 := by
  refine fun s s0 body h hlen => ⟨fun hbad => ?_, fun li kb lt pl ab hset hli hkb hlt hpl hab => ?_⟩
  · obtain ⟨p, hact⟩ := actSetRoutes_of_bad (touchStandby s0) hbad
    exact ⟨p, by rw [exec_setRoutes_of_fits h hlen, hact]⟩
  · have hact := actSetRoutes_of_rows (touchStandby s0) hset hli hkb hlt hpl hab
    rw [exec_setRoutes_of_fits h hlen]
    split
    next hconflict => rw [hact, if_pos ((routesConflict_iff ..).2 hconflict)]
    next hnone => rw [hact, if_neg (mt (routesConflict_iff ..).1 hnone), Router.setRoutes_eq _ _ hset]

/-! ### The link-text holding (R69) -/

/-- A soft reset empties the link-text holding and keeps the route sets (R190). -/
theorem softReset_router (s : State) : (softReset s).router = { s.router with linkText := [] } := by
  simp [softReset]

/-! ### LINK-TEXT (R69) -/

theorem exec_linkText_of_fits {body : List Byte} {s s0 : State} (h : s.asked 0x20#8 body s0) (hlen : body.length ≤ 240) :
    exec (.linkText body) s = .next
      (reply 0x20#8 (actLinkText body (touchStandby s0)).2 (actLinkText body (touchStandby s0)).1) :=
  congrArg Host.Outcome.next (accept_asked_fits _ h (decide_eq_true hlen))

theorem exec_linkText_of_long {body : List Byte} {s s0 : State} (h : s.asked 0x20#8 body s0) (hlen : 240 < body.length) :
    exec (.linkText body) s = .next (reply 0x20#8 (badLength (touchStandby s0)) (useFree (touchStandby s0))) :=
  congrArg Host.Outcome.next (accept_asked_unfit _ h (decide_eq_false (Nat.not_le.2 hlen)))

theorem actLinkText_of_bad {body : List Byte} (s : State) (hbad : ∃ b ∈ body, 128 ≤ b.toNat) :
    actLinkText body s = (s, badValue (badCodeAt 0 body)) := by
  simp only [actLinkText, stationCodes?_bad hbad]

/-- A request of no code is answered OK whether there is room or not. -/
theorem actLinkText_nil (s : State) : actLinkText [] s = (s, ok [0]) := by
  have hzero : put1 0 = [0] := rfl
  simp only [actLinkText, stationCodes?, List.length_nil, if_pos (Nat.zero_le _), List.take_nil, List.append_nil, hzero]

/-- Codes that all find room are placed behind those that wait. -/
theorem actLinkText_of_room {body : List Byte} {s : State} (hgood : ∀ b ∈ body, b.toNat < 128)
    (hroom : s.router.linkText.length + body.length ≤ 64) :
    actLinkText body s =
      ({ s with router := { s.router with linkText := s.router.linkText ++ body.map (BitVec.setWidth 7) } },
        ok [BitVec.ofNat 8 body.length]) := by
  have hfits : body.length ≤ 64 - s.router.linkText.length := by omega
  have htake : (body.map (BitVec.setWidth 7)).take (64 - s.router.linkText.length) = body.map (BitVec.setWidth 7) :=
    List.take_of_length_le (by rwa [List.length_map])
  simp only [actLinkText, stationCodes?_good hgood, Config.linkTextCapacity, List.length_map, htake, if_pos hfits, put1]

/-- Of codes that do not all find room the first are placed, as many as there is room for. -/
theorem actLinkText_of_part {body : List Byte} {s : State} (hgood : ∀ b ∈ body, b.toNat < 128)
    (hroom : s.router.linkText.length < 64) (hover : 64 < s.router.linkText.length + body.length) :
    actLinkText body s =
      ({ s with router := { s.router with
          linkText := s.router.linkText ++ (body.map (BitVec.setWidth 7)).take (64 - s.router.linkText.length) } },
        ⟨.part (64 - s.router.linkText.length), [BitVec.ofNat 8 (64 - s.router.linkText.length)]⟩) := by
  have hlong : ¬ body.length ≤ 64 - s.router.linkText.length := by omega
  have hsome : ¬ 64 - s.router.linkText.length = 0 := by omega
  simp only [actLinkText, stationCodes?_good hgood, Config.linkTextCapacity, List.length_map, if_neg hlong, put1]
  exact if_neg hsome

/-- No code is placed into a full holding. -/
theorem actLinkText_of_full {body : List Byte} {s : State} (hgood : ∀ b ∈ body, b.toNat < 128) (hne : body ≠ [])
    (hfull : 64 ≤ s.router.linkText.length) : actLinkText body s = (s, plainAnswer .full) := by
  have hnone : 64 - s.router.linkText.length = 0 := by omega
  have hlong : ¬ body.length ≤ 0 := Nat.not_le.2 (List.length_pos_iff.2 hne)
  simp only [actLinkText, stationCodes?_good hgood, Config.linkTextCapacity, List.length_map, hnone, if_neg hlong, if_true]

/-- The act of LINK-TEXT keeps the capacity of the holding. -/
theorem actLinkText_length_le (body : List Byte) {s : State} (hcap : s.router.linkText.length ≤ 64) :
    (actLinkText body s).1.router.linkText.length ≤ 64 := by
  by_cases hgood : ∀ b ∈ body, b.toNat < 128
  · rcases Nat.lt_or_ge 64 (s.router.linkText.length + body.length) with hover | hroom
    · rcases Nat.lt_or_ge s.router.linkText.length 64 with hsome | hfull
      · rw [actLinkText_of_part hgood hsome hover]
        simp only [List.length_append, List.length_take, List.length_map]
        omega
      · have hne : body ≠ [] := List.length_pos_iff.1 (by omega)
        rwa [actLinkText_of_full hgood hne hfull]
    · rw [actLinkText_of_room hgood hroom]
      simpa only [List.length_append, List.length_map] using hroom
  · have hbad : ∃ b ∈ body, 128 ≤ b.toNat := by
      simpa only [Classical.not_forall, Nat.not_lt, exists_prop] using hgood
    rwa [actLinkText_of_bad s hbad]

/-- LINK-TEXT keeps the capacity of the holding, whatever its body (R69, R185). -/
theorem exec_linkText_length_le {body : List Byte} {s s0 t : State} (h : s.asked 0x20#8 body s0)
    (hcap : s0.router.linkText.length ≤ 64) (ht : exec (.linkText body) s = .next t) : t.router.linkText.length ≤ 64 := by
  rcases Nat.lt_or_ge 240 body.length with hlong | hfits
  · rw [exec_linkText_of_long h hlong] at ht
    cases ht
    simpa only [reply_frame, useFree_frame, touchStandby_frame] using hcap
  · rw [exec_linkText_of_fits h hfits] at ht
    cases ht
    have hcap1 : (touchStandby s0).router.linkText.length ≤ 64 := by simpa only [touchStandby_frame] using hcap
    simpa only [reply_frame] using actLinkText_length_le body hcap1

/-- Settles O34: the resets and the ends of a call through what they keep of the router, LINK-TEXT by its codes and the room in
the holding. -/
theorem linkTextFollowsR69 : Obligations.LinkTextFollowsR69 := by
  refine ⟨rfl, fun s => ⟨rfl, ?_, ?_, fun cause => ?_, ?_⟩, fun s c rest hheld => ?_,
    fun s s0 t body => exec_linkText_length_le, fun s s0 body h hlen => ⟨fun hbad => ?_, fun hgood => ⟨fun hnil => ?_,
    fun _ hroom => ?_, fun hroom hover => ?_, fun hne hfull => ?_⟩⟩⟩
  · rw [softReset_router]
  · simp only [callEnd_frame]
  · simp only [enterClearing_frame]
  · simp only [enterStandby_frame]
  · rw [dropLinkText_router, hheld, List.tail_cons]
  · rw [exec_linkText_of_fits h hlen, actLinkText_of_bad _ hbad]
    exact ⟨_, rfl⟩
  · subst hnil
    rw [exec_linkText_of_fits h hlen, actLinkText_nil]
  · rw [exec_linkText_of_fits h hlen, actLinkText_of_room hgood hroom]
  · rw [exec_linkText_of_fits h hlen, actLinkText_of_part hgood hroom hover]
  · rw [exec_linkText_of_fits h hlen, actLinkText_of_full hgood hne hfull]

end Sys2Proof.Machine
end

section
/-! SUPPORT. The punch's settings (R136): what the closes of messages and a soft reset keep of them, the act of SET-PUNCH, the
FOLLOW jobs that take the defaults, and the statement O14. -/

namespace Sys2Proof.Machine

/-! ### What a soft reset keeps of the settings -/

/-- A close settles the punch before MESSAGE-CLOSED, which leaves its settings (R150). -/
theorem closeMessage_settings (e : Entry) (f : MsgFlags) (s : State) :
    (closeMessage e f s).pu.settings = s.pu.settings := by
  simp only [closeMessage, autoReleaseTest_frame, raise_frame, punchSettle_settings]

theorem closeOpen_settings (d : Dir) (f : MsgFlags) (s : State) : (closeOpen d f s).pu.settings = s.pu.settings := by
  unfold closeOpen
  split
  next => rfl
  next => exact closeMessage_settings ..

/-- The punch's own reset keeps its settings and forgets the judgement of the tape (R137). -/
theorem Punch.softReset_settings (p : Punch) :
    p.softReset.settings = (p.onTimeReq, p.onTime, p.defLeader, p.defTrailer, false) := rfl

theorem Punch.softReset_settings_congr {p q : Punch} (h : p.settings = q.settings) :
    p.softReset.settings = q.softReset.settings := by
  simp only [Punch.settings, Prod.mk.injEq] at h
  obtain ⟨honTimeReq, honTime, hleader, htrailer, -⟩ := h
  simp only [Punch.softReset_settings, honTimeReq, honTime, hleader, htrailer]

/-- The closes of both OPEN messages leave the settings to the punch's own reset (R137, R190). -/
theorem softReset_settings (s : State) : (softReset s).pu.settings = s.pu.softReset.settings := by
  simp only [softReset, givenUp_frame]
  exact Punch.softReset_settings_congr ((closeOpen_settings ..).trans (closeOpen_settings ..))

/-! ### SET-PUNCH (R136) -/

theorem exec_setPunch_of_fits {body : List Byte} {s s0 : State} (h : s.asked 0x09#8 body s0) (hlen : body.length = 3) :
    exec (.setPunch body) s = .next
      (reply 0x09#8 (actSetPunch body (touchStandby s0)).2 (actSetPunch body (touchStandby s0)).1) :=
  congrArg Host.Outcome.next (accept_asked_fits _ h (decide_eq_true hlen))

/-! ### The defaults taken by jobs (R129, R136) -/

/-- With room on the chain the FOLLOW job of a new message joins at its end, with the defaults of this moment. -/
theorem followMessage_chain_of_room (n : Nat) {s : State} (hroom : s.pu.chain.length < 8) :
    (followMessage n s).pu.chain = s.pu.chain ++ [⟨n, 0, s.pu.defLeader, s.pu.defTrailer, true, 0, 0⟩] := by
  rw [followMessage, if_pos (show s.pu.chain.length < Config.punchChainCapacity from hroom)]

/-- Flag 1 in a count field of PUNCH-MESSAGE stands for the default (10 section 10.4). -/
theorem countField?_default (d : Nat) {body : List Byte} {i : Nat} (hflag : field1 body i = 1) :
    countField? d body i = some d := by
  simp only [countField?, hflag]

/-- Settles O14: SET-PUNCH by the act of its block, the soft reset through the settings that it keeps, the end of a call and the
entry to STANDBY by the frame of the punch, the moments of effect by the start of a cycle and the joining of jobs. -/
theorem setPunchFollowsR136 : Obligations.SetPunchFollowsR136 := by
  refine ⟨fun s s0 body h hlen => exec_setPunch_of_fits h hlen, ⟨rfl, rfl, rfl⟩, fun s => ⟨?_, ?_, ?_⟩,
    Punch.startCycle_onTime, fun n s => followMessage_chain_of_room n, fun d body i => countField?_default d⟩
  · have hkept := softReset_settings s
    simp only [Punch.softReset_settings] at hkept
    simp only [Punch.settings, Prod.mk.injEq] at hkept
    obtain ⟨honTimeReq, -, hleader, htrailer, -⟩ := hkept
    exact ⟨honTimeReq, hleader, htrailer⟩
  · simp only [callEnd_frame]
  · simp only [enterStandby_frame]

end Sys2Proof.Machine
end

section
/-! SUPPORT. The EOM matcher (R14): the fallback is the longest proper beginning that ends a beginning, the steps of one
character end in the longest beginning that the text and the character end with, and the statement O32. -/

namespace Sys2Proof.Machine

/-! ### The longest of several beginnings -/

/-- The first hit of a search downward from `m` is the greatest. -/
theorem find?_reverse_range {p : Nat → Bool} {m k : Nat} (h : (List.range m).reverse.find? p = some k) :
    k < m ∧ p k = true ∧ ∀ j, j < m → p j = true → j ≤ k := by
  induction m with
  | zero => simp at h
  | succ m ih =>
    rw [List.range_succ, List.reverse_append, List.reverse_singleton, List.singleton_append, List.find?_cons] at h
    split at h
    next hm =>
      obtain rfl := Option.some.inj h
      exact ⟨Nat.lt_succ_self _, hm, fun j hj _ => Nat.le_of_lt_succ hj⟩
    next hm =>
      obtain ⟨hlt, hk, hmax⟩ := ih h
      refine ⟨Nat.lt_succ_of_lt hlt, hk, fun j hj hp => ?_⟩
      rcases Nat.lt_succ_iff_lt_or_eq.1 hj with hj | rfl
      · exact hmax j hj hp
      · exact absurd hp (by simp [hm])

/-- The matcher's own test of a beginning: the last `k` codes of E1..Em are E1..Ek. -/
theorem take_suffix_take_iff {eom : List StationCode} {k m : Nat} (hk : k ≤ m) (hm : m ≤ eom.length) :
    eom.take k <:+ eom.take m ↔ eom.take k = (eom.take m).drop (m - k) := by
  rw [List.suffix_iff_eq_drop, List.length_take, List.length_take, Nat.min_eq_left hm, Nat.min_eq_left (Nat.le_trans hk hm)]

/-- The fallback is the longest proper beginning of E1..Em that ends it (R14, step 3). -/
theorem fallback_spec {eom : List StationCode} {m : Nat} (hpos : 0 < m) (hm : m ≤ eom.length) :
    fallback eom m < m ∧ eom.take (fallback eom m) <:+ eom.take m
      ∧ ∀ j, j < m → eom.take j <:+ eom.take m → j ≤ fallback eom m := by
  unfold fallback
  cases hf : (List.range m).reverse.find? fun k => decide (eom.take k = (eom.take m).drop (m - k)) with
  | none =>
    have h0 := List.find?_eq_none.1 hf 0 (by simpa using hpos)
    exact absurd ((take_suffix_take_iff (Nat.zero_le m) hm).1 (by simp)) (by simp at h0)
  | some k =>
    obtain ⟨hlt, hk, hmax⟩ := find?_reverse_range hf
    refine ⟨hlt, (take_suffix_take_iff (Nat.le_of_lt hlt) hm).2 (of_decide_eq_true hk), fun j hj hs => ?_⟩
    exact hmax j hj (decide_eq_true ((take_suffix_take_iff (Nat.le_of_lt hj) hm).1 hs))

/-! ### One character (R14) -/

/-- A beginning ends the text with one more character when the beginning one code shorter ends the text and that character is
its next code. -/
theorem take_succ_suffix_concat {eom text : List StationCode} {c : StationCode} {k : Nat} (hk : k < eom.length) :
    eom.take (k + 1) <:+ text ++ [c] ↔ eom[k]? = some c ∧ eom.take k <:+ text := by
  rw [List.take_succ_eq_append_getElem hk, List.getElem?_eq_getElem hk, List.suffix_concat_iff]
  constructor
  · rintro (h | ⟨t, h, ht⟩)
    · exact absurd h (List.append_ne_nil_of_right_ne_nil _ (List.cons_ne_nil _ _))
    · obtain ⟨rfl, hc⟩ := List.append_inj' h rfl
      exact ⟨congrArg some (List.singleton_inj.1 hc), ht⟩
  · rintro ⟨hc, hs⟩
    exact .inr ⟨_, by rw [Option.some.inj hc], hs⟩

/-- The steps of one character from a beginning of length `k` that ends the text: what they come to ends the text with the
character, and is as long as any such beginning that grows from one of at most `k` codes. -/
theorem matchStep_spec {eom text : List StationCode} {c : StationCode} {fuel k : Nat} (hfuel : k < fuel)
    (hk : k < eom.length) (hs : eom.take k <:+ text) :
    matchStep eom c fuel k ≤ eom.length ∧ eom.take (matchStep eom c fuel k) <:+ text ++ [c]
      ∧ ∀ j, j ≤ k → eom[j]? = some c → eom.take j <:+ text → j + 1 ≤ matchStep eom c fuel k := by
  induction fuel generalizing k with
  | zero => exact absurd hfuel (Nat.not_lt_zero k)
  | succ fuel ih =>
    unfold matchStep
    split
    next hc =>
      exact ⟨hk, (take_succ_suffix_concat hk).2 ⟨hc, hs⟩, fun j hj _ _ => Nat.succ_le_succ hj⟩
    next hc =>
      split
      next h0 =>
        subst h0
        refine ⟨Nat.zero_le _, by simp, fun j hj hcj _ => ?_⟩
        obtain rfl := Nat.le_zero.1 hj
        exact absurd hcj hc
      next h0 =>
        obtain ⟨hlt, hends, hmax⟩ := fallback_spec (Nat.pos_of_ne_zero h0) (Nat.le_of_lt hk)
        obtain ⟨hlen, hsuf, hlong⟩ := ih (by omega) (Nat.lt_trans hlt hk) (hends.trans hs)
        refine ⟨hlen, hsuf, fun j hj hcj hjs => ?_⟩
        have hjk : j < k := Nat.lt_of_le_of_ne hj (by rintro rfl; exact hc hcj)
        have hjtake : eom.take j <:+ eom.take k :=
          List.suffix_of_suffix_length_le hjs hs (by simp only [List.length_take]; omega)
        exact hlong j (hmax j hjk hjtake) hcj hjs

/-- From the longest beginning that ends the text the steps of one character come to the longest, the whole sequence included,
that ends the text with that character. -/
theorem matchStep_longest {eom text : List StationCode} {m : Nat} {c : StationCode} (h : LongestMatch eom text m) :
    matchStep eom c (m + 1) m ≤ eom.length ∧ eom.take (matchStep eom c (m + 1) m) <:+ text ++ [c]
      ∧ ∀ k, k ≤ eom.length → eom.take k <:+ text ++ [c] → k ≤ matchStep eom c (m + 1) m := by
  obtain ⟨hm, hs, hmax⟩ := h
  obtain ⟨hlen, hsuf, hlong⟩ := matchStep_spec (c := c) (Nat.lt_succ_self m) hm hs
  refine ⟨hlen, hsuf, fun k hk hks => ?_⟩
  cases k with
  | zero => exact Nat.zero_le _
  | succ k =>
    obtain ⟨hc, hend⟩ := (take_succ_suffix_concat hk).1 hks
    exact hlong k (hmax k hk hend) hc hend

/-- The matcher of a sequence that is not empty tells its completion by the length that the steps come to. -/
theorem eomMatch_of_ne_nil {eom : List StationCode} (hne : eom ≠ []) (m : Nat) (c : StationCode) :
    eomMatch eom m c =
      if matchStep eom c (m + 1) m = eom.length then (0, true) else (matchStep eom c (m + 1) m, false) := by
  rw [eomMatch, if_neg (by simpa using hne)]

/-- Settles O32: the steps of one character come to the longest beginning that ends the text, and the matcher tells whether
that is the whole sequence. -/
theorem matcherFindsLongest : Obligations.MatcherFindsLongest := by
  intro eom text m c h
  have hne : eom ≠ [] := List.ne_nil_of_length_pos (Nat.zero_lt_of_lt h.1)
  obtain ⟨hlen, hsuf, hmax⟩ := matchStep_longest (c := c) h
  rw [eomMatch_of_ne_nil hne]
  split
  next hwhole =>
    rw [hwhole, List.take_length] at hsuf
    exact ⟨⟨fun _ => hsuf, fun _ => rfl⟩, fun _ => rfl, fun hfalse => absurd hfalse (by simp)⟩
  next hpart =>
    refine ⟨⟨fun hfalse => absurd hfalse (by simp), fun hend => ?_⟩, fun hfalse => absurd hfalse (by simp), fun _ => ?_⟩
    · exact absurd (Nat.le_antisymm hlen (hmax _ (Nat.le_refl _) (by rwa [List.take_length]))) hpart
    · exact ⟨Nat.lt_of_le_of_ne hlen hpart, hsuf, fun k hk hks => hmax k (Nat.le_of_lt hk) hks⟩

end Sys2Proof.Machine
end

section
/-! SUPPORT. The step on an empty queue, the power-on state and the invariants that hold in it: the statements O1, O4 and O54. -/

namespace Sys2Proof.Machine

/-! ### The parts of a tick -/

theorem step_command {s : State} {c : Instr} {rest : List Instr} (h : s.pending = c :: rest) :
    step s = exec c { s with pending := rest } := by
  simp only [step, h]

theorem step_tick {s : State} (h : s.pending = []) : step s = .next (tick s) := by
  simp only [step, h]

theorem whileIn_same {st : CallState} {s : State} (f : State → State) (h : s.call.state = st) : whileIn st f s = f s := if_pos h

theorem whileIn_other {st : CallState} {s : State} (f : State → State) (h : s.call.state ≠ st) : whileIn st f s = s := if_neg h

/-- The fast oscillator stands in STANDBY (R158). -/
theorem passCycles_standby {s : State} (h : s.call.state = .standby) : passCycles s = s := if_pos h

theorem passCycles_running {s : State} (h : s.call.state ≠ .standby) :
    passCycles s = motorOffTick (homeTick { s with tx := s.tx.advance, pr := s.pr.advance, pu := s.pu.advance }) := if_neg h

/-- WAKE is not read while it is released (log 61). -/
theorem wakeTick_released {s : State} (h : s.pins.wake = false) : wakeTick s = s := if_neg (by simp [h])

theorem wakeTick_asserted {s : State} (h : s.pins.wake = true) :
    wakeTick s = { s with
      pins := { s.pins with wake := Config.freeReading s.freeCount }, freeCount := s.freeCount + 1 } := if_pos h

theorem callTick_agreeing {s : State} (h : s.call.state = .agreeing) :
    callTick s = whileIn .agreeing agreementTick (lineTick s) := by
  simp only [callTick, h]

theorem callTick_connected {s : State} (h : s.call.state = .connected) :
    callTick s = whileIn .connected idleClearTick (lineTick s) := by
  simp only [callTick, h]

theorem callTick_ringCheck {s : State} (h : s.call.state = .ringCheck) :
    callTick s = if s.call.attendedWait then answerWaitTick s else s := by
  simp only [callTick, h]

theorem callTick_awaiting {s : State} (h : s.call.state = .answering ∨ s.call.state = .originating) :
    callTick s = loopTick s := by
  rcases h with h | h <;> simp only [callTick, h]

theorem callTick_idle {s : State} (h : s.call.state = .idle) : callTick s = standbyTick s := by
  simp only [callTick, h]

theorem callTick_clearing {s : State} (h : s.call.state = .clearing) : callTick s = clearingTick s := by
  simp only [callTick, h]

theorem callTick_resting {s : State} (h : s.call.state = .starting ∨ s.call.state = .standby) : callTick s = s := by
  rcases h with h | h <;> simp only [callTick, h]

/-- Settles O1: the step by its queue, the tick by whether the call state is the one it found, its parts by their conditions. -/
theorem stepRunsFrontCommand : Obligations.StepRunsFrontCommand := by
  refine ⟨fun s c rest => step_command, fun s h => ⟨fun hsame => ?_, fun hother => ?_⟩,
    fun s => ⟨passCycles_standby, passCycles_running, wakeTick_released, wakeTick_asserted⟩,
    fun s => ⟨callTick_agreeing, callTick_connected, callTick_ringCheck, callTick_awaiting, callTick_idle, callTick_clearing,
      callTick_resting⟩⟩
  · rw [step_tick h, tick, whileIn_same callTick hsame]
  · rw [step_tick h, tick, whileIn_other callTick hother]

/-! ### The power-on state -/

/-- Settles O4: the power-on state by its own literal, field by field. -/
theorem powerOnState : Obligations.PowerOnState := by
  intro s
  refine ⟨powerOn s, rfl, rfl, ?_⟩
  repeat' apply And.intro
  all_goals rfl

theorem reset_callInv : State.reset.callInv := by
  refine ⟨rfl, ?_, ?_, ?_, ?_⟩ <;> exact fun h => absurd h (by decide)

theorem reset_rx_inv : State.reset.rx.inv := by
  simp [Receiver.inv, State.reset, Receiver.reset]

theorem reset_reportsInv : State.reset.link.reportsInv := by
  simp [Link.reportsInv, State.reset, Link.reset, countedReports]

theorem reset_memInv : State.reset.memInv := by
  simp [State.memInv, State.reset, Store.reset, Asm.empty, Memory.wf, Memory.wfFrom]

/-- A directory with no entry has no cursor. -/
theorem reset_cursorInv : State.reset.store.cursorInv := fun _ he => absurd he List.not_mem_nil

theorem reset_capInv : State.reset.capInv := by
  simp [State.capInv, State.reset, Router.reset, Keyboard.reset, Printer.reset, Punch.reset, CallCtl.reset, Store.reset,
    Link.reset, Converter.reset]

theorem reset_layoutInv : State.reset.store.layoutInv := by
  refine ⟨⟨rfl, by decide, rfl, fun e he => absurd he (by simp [State.reset, Store.reset])⟩,
    ⟨List.nodup_nil, fun e he => absurd he List.not_mem_nil, by decide, by decide⟩, ⟨fun h => ?_, fun _ e he => ?_⟩,
    ⟨fun h => ?_, fun _ e he => ?_⟩, fun e he => absurd he List.not_mem_nil⟩
  · exact absurd h (by decide)
  · exact absurd he (by simp [Store.open?, State.reset, Store.reset])
  · exact absurd h (by decide)
  · exact absurd he (by simp [Store.open?, State.reset, Store.reset])

/-- No block names a message at power-on. -/
theorem reset_named (n : Nat) : State.reset.named n = false := by
  simp [State.named, State.reset, Printer.reset, Punch.reset, CallCtl.reset, Play.reset, Store.reset]

/-- Settles O54: one lemma for each invariant of the power-on state. -/
theorem invariantsHoldAtReset : Obligations.InvariantsHoldAtReset :=
  ⟨reset_callInv, reset_rx_inv, reset_reportsInv, reset_memInv, reset_cursorInv, reset_capInv,
    ⟨reset_layoutInv, fun _ he => absurd he List.not_mem_nil⟩, fun n hn => absurd hn (by simp [reset_named n])⟩

end Sys2Proof.Machine
end

section
/-! SUPPORT. What no command touches: the queue, and the DRAM but for the end of an access and power-on; a request that cannot
be taken or whose body does not fit; the statements O2 and O3. -/

namespace Sys2Proof.Machine

/-! ### Outcomes that keep the queue and the DRAM -/

/-- The outcome is a next state with the queue and the DRAM of `s`. -/
def Outside (s : State) (o : Host.Outcome State Fault Refusal) : Prop :=
  ∃ t, o = .next t ∧ t.pending = s.pending ∧ t.mem = s.mem

theorem outside_next {s t : State} (hp : t.pending = s.pending) (hm : t.mem = s.mem) : Outside s (.next t) := ⟨t, rfl, hp, hm⟩

theorem outside_ite {s : State} {p : Prop} [Decidable p] {a b : Host.Outcome State Fault Refusal} (ha : Outside s a)
    (hb : Outside s b) : Outside s (if p then a else b) := by
  split
  · exact ha
  · exact hb

/-- The taking of a request reaches the queue and the DRAM only by the act of its block. -/
theorem accept_outside {act : State → State × Answer} (hact : ∀ s, (act s).1.pending = s.pending ∧ (act s).1.mem = s.mem)
    (kind : Byte) (fits : Bool) (body : List Byte) (s : State) : Outside s (.next (accept kind fits body act s)) := by
  by_cases hfree : s.linkFree = true
  · cases htake : s.takes? kind body with
    | none => rw [accept_untaken fits act (.inr htake)]; exact outside_next rfl rfl
    | some s0 =>
      have hs0 := asked_frame ⟨hfree, htake⟩
      obtain ⟨hp, hm⟩ := hact (touchStandby s0)
      rw [accept_asked fits act ⟨hfree, htake⟩]
      split
      · exact outside_next (by simp [hp, congrArg State.pending hs0]) (by simp [hm, congrArg State.mem hs0])
      · exact outside_next (by simp [congrArg State.pending hs0]) (by simp [congrArg State.mem hs0])
  · rw [accept_untaken fits act (.inl (Bool.not_eq_true _ ▸ hfree))]
    exact outside_next rfl rfl

theorem acceptControl_outside {act : State → State × Answer}
    (hact : ∀ s, (act s).1.pending = s.pending ∧ (act s).1.mem = s.mem) (action : Nat) (body : List Byte) (s : State) :
    Outside s (.next (acceptControl action body act s)) := by
  unfold acceptControl
  split
  · exact outside_next rfl rfl
  · refine accept_outside (fun s => ?_) ..
    split
    · exact ⟨rfl, rfl⟩
    · exact hact s

theorem outsideInit_outside {act : State → State × Answer}
    (hact : ∀ s, (act s).1.pending = s.pending ∧ (act s).1.mem = s.mem) (s : State) :
    (outsideInit act s).1.pending = s.pending ∧ (outsideInit act s).1.mem = s.mem := by
  unfold outsideInit
  split
  · exact ⟨rfl, rfl⟩
  · exact hact s

theorem acceptRead_outside (body : List Byte) (s : State) : Outside s (.next (acceptRead body s)) := by
  by_cases h : s.linkFree = true ∧ ∃ s0, s.takes? 0x33#8 body = some s0
  · obtain ⟨hfree, s0, htake⟩ := h
    have hs0 := asked_frame ⟨hfree, htake⟩
    rw [acceptRead_asked ⟨hfree, htake⟩]
    have hp := congrArg State.pending hs0
    have hm := congrArg State.mem hs0
    (repeat' split) <;> exact outside_next (by simp [hp]) (by simp [hm])
  · have hself : acceptRead body s = s := by
      unfold acceptRead
      split
      next hfree =>
        split
        next => rfl
        next s0 htake => exact absurd ⟨hfree, s0, htake⟩ h
      next => rfl
    rw [hself]
    exact outside_next rfl rfl

theorem acceptReset_outside (body : List Byte) (s : State) : Outside s (.next (acceptReset body s)) := by
  unfold acceptReset
  split
  · exact accept_outside (fun s => ⟨by simp [actResetStation], by simp [actResetStation]⟩) ..
  · split
    · cases hb : s.resetBehindRead? with
      | none => exact outside_next rfl rfl
      | some s0 =>
        have hs0 : s0.pending = s.pending ∧ s0.mem = s.mem := by
          unfold State.resetBehindRead? at hb
          (repeat' split at hb) <;> simp_all
          all_goals (rw [← hb]; exact ⟨rfl, rfl⟩)
        exact outside_next (by simp [hs0.1]) (by simp [hs0.2])
    · exact outside_next rfl rfl

/-! ### The acts of the requests -/

theorem checked_outside {act : State → State × Answer} (hact : ∀ s, (act s).1.pending = s.pending ∧ (act s).1.mem = s.mem)
    (fields : List (Nat × Bool)) (s : State) :
    (checked fields act s).1.pending = s.pending ∧ (checked fields act s).1.mem = s.mem := by
  unfold checked
  split
  · exact ⟨rfl, rfl⟩
  · exact hact s

theorem actSetStation_outside (body : List Byte) (s : State) :
    (actSetStation body s).1.pending = s.pending ∧ (actSetStation body s).1.mem = s.mem := by
  unfold actSetStation applyStation
  (repeat' split) <;> simp

theorem actLoadCodeTable_outside (body : List Byte) (s : State) :
    (actLoadCodeTable body s).1.pending = s.pending ∧ (actLoadCodeTable body s).1.mem = s.mem := by
  refine checked_outside (fun s => ?_) _ s
  unfold loadTable
  dsimp only
  (repeat' split) <;> exact ⟨rfl, rfl⟩

/-- A request is a next state that keeps the queue and the DRAM. -/
theorem request_outside {c : Instr} {r : Byte × List Byte} (h : request? c = some r) (s : State) : Outside s (exec c s) := by
  cases c <;> try (simp [request?] at h; done)
  case setStation body => exact accept_outside (actSetStation_outside body) ..
  case setLine body => exact accept_outside (fun s => by unfold actSetLine; split <;> exact ⟨rfl, rfl⟩) ..
  case loadCodeTable body => exact accept_outside (actLoadCodeTable_outside body) ..
  case loadKeymap body => exact accept_outside (fun s => by unfold actLoadKeymap; dsimp only; (repeat' split) <;> exact ⟨rfl, rfl⟩) ..
  case setAnswerback body => exact accept_outside (fun s => by unfold actSetAnswerback; (repeat' split) <;> exact ⟨rfl, rfl⟩) ..
  case setEom body => exact accept_outside (fun s => by unfold actSetEom; split <;> exact ⟨rfl, rfl⟩) ..
  case setRoutes body => exact accept_outside (fun s => by unfold actSetRoutes; (repeat' split) <;> exact ⟨rfl, rfl⟩) ..
  case setPrinter body => exact accept_outside (fun s => by unfold actSetPrinter; split <;> exact ⟨rfl, rfl⟩) ..
  case setPunch body => exact accept_outside (fun s => ⟨rfl, rfl⟩) ..
  case answer body => exact accept_outside (fun s => by unfold actAnswer; (repeat' split) <;> simp) ..
  case call body => exact accept_outside (fun s => by unfold actCall; split <;> simp) ..
  case clear body => exact accept_outside (fun s => by unfold actClear; (repeat' split) <;> simp) ..
  case sendBreak body => exact accept_outside (fun s => by unfold actSendBreak; (repeat' split) <;> simp) ..
  case sendAnswerback body => exact accept_outside (fun s => by unfold actSendAnswerback; (repeat' split) <;> simp) ..
  case standby body => exact accept_outside (fun s => by unfold actStandby; split <;> simp) ..
  case linkText body => exact accept_outside (fun s => by unfold actLinkText; dsimp only; (repeat' split) <;> exact ⟨rfl, rfl⟩) ..
  case playback body => exact accept_outside (fun s => by unfold actPlayback; dsimp only; (repeat' split) <;> simp) ..
  case playbackResume body => exact accept_outside (fun s => by unfold actPlaybackResume; split <;> simp) ..
  case playbackCancel body => exact accept_outside (fun s => by unfold actPlaybackCancel; split <;> simp) ..
  case storeOpen body =>
    exact accept_outside (outsideInit_outside fun s => by unfold storeOpen; (repeat' split) <;> exact ⟨rfl, rfl⟩) ..
  case storeAppend body =>
    exact accept_outside (outsideInit_outside fun s => by unfold storeAppend; (repeat' split) <;> simp) ..
  case storeClose body => exact accept_outside (outsideInit_outside fun s => by unfold storeClose; split <;> simp) ..
  case readMessage body => exact acceptRead_outside body s
  case release body => exact accept_outside (fun s => by unfold actRelease; dsimp only; (repeat' split) <;> exact ⟨rfl, rfl⟩) ..
  case listDirectory body =>
    exact accept_outside (outsideInit_outside fun s => by unfold listDirectory; dsimp only; split <;> exact ⟨rfl, rfl⟩) ..
  case printMessage body =>
    exact accept_outside (fun s => by unfold actPrintMessage; dsimp only; (repeat' split) <;> exact ⟨rfl, rfl⟩) ..
  case printerRestart body => exact accept_outside (fun s => by unfold actPrinterRestart; split <;> simp) ..
  case punchMessage body => exact accept_outside (fun s => by unfold actPunchMessage; dsimp only; (repeat' split) <;> simp) ..
  case punchControlContinue body => exact acceptControl_outside (fun s => by unfold actContinue; split <;> simp) ..
  case punchControlCancel body => exact acceptControl_outside (fun s => by simp) ..
  case punchControlFeed body => exact acceptControl_outside (fun s => by unfold actFeed; (repeat' split) <;> simp) ..
  case status body => exact accept_outside (fun s => ⟨rfl, rfl⟩) ..
  case fetchReport body => exact accept_outside (fun s => by unfold actFetchReport; split <;> exact ⟨rfl, rfl⟩) ..
  case resetStation body => exact acceptReset_outside body s

/-! ### The events -/

/-- Events of the link, the call, the line and the transmitter. -/
theorem lineEvent_outside (s : State) :
    (∀ check, Outside s (execFrameReceived check s)) ∧ Outside s (execFrameAbandoned s) ∧ Outside s (execLinkFrameSent s)
      ∧ (∀ b, Outside s (execLinkByteReceived b s)) ∧ Outside s (execCharacterReceived s) ∧ Outside s (execBreakThreshold s)
      ∧ Outside s (execClearThreshold s) ∧ Outside s (execLoopCurrentLost s)
      ∧ (∀ date s1 s2 s3, Outside s (execFilteredTransition date s1 s2 s3 s)) ∧ Outside s (execStartUnitCheck s)
      ∧ Outside s (execBreakSignalEnd s) ∧ Outside s (execClearSignalComplete s) ∧ Outside s (execClearingLossCount s)
      ∧ Outside s (execSentPoint s) ∧ Outside s (execFrontStopEnd s) ∧ Outside s (execArbiterFill s) := by
  refine ⟨fun _ => ?_, ?_, ?_, fun _ => ?_, ?_, ?_, ?_, ?_, fun _ _ _ _ => ?_, ?_, ?_, ?_, ?_, ?_, ?_, ?_⟩
  · unfold execFrameReceived; (repeat' split) <;> exact outside_next rfl rfl
  · exact outside_ite (outside_next rfl rfl) (outside_next rfl rfl)
  · unfold execLinkFrameSent; (repeat' split) <;> exact outside_next (by simp) (by simp)
  · exact outside_next rfl rfl
  · unfold execCharacterReceived; dsimp only; (repeat' split) <;> exact outside_next (by simp) (by simp)
  · unfold execBreakThreshold; split <;> exact outside_next (by simp) (by simp)
  · unfold execClearThreshold; split <;> exact outside_next (by simp) (by simp)
  · unfold execLoopCurrentLost; split <;> exact outside_next (by simp) (by simp)
  · unfold execFilteredTransition; dsimp only; split <;> exact outside_next rfl rfl
  · unfold execStartUnitCheck; (repeat' split) <;> exact outside_next rfl rfl
  · unfold execBreakSignalEnd; split <;> exact outside_next (by simp) (by simp)
  · unfold execClearSignalComplete; (repeat' split) <;> exact outside_next (by simp) (by simp)
  · unfold execClearingLossCount; (repeat' split) <;> exact outside_next (by simp) (by simp)
  · unfold execSentPoint; (repeat' split) <;> exact outside_next (by simp) (by simp)
  · unfold execFrontStopEnd; (repeat' split) <;> exact outside_next (by simp) (by simp)
  · exact outside_next (by simp) (by simp)

/-- Events of the call controller and the router. -/
theorem callEvent_outside (s : State) :
    Outside s (execRingAsserted s) ∧ Outside s (execRingAbsent s) ∧ Outside s (execRingQualified s)
      ∧ Outside s (execRingLockoutClear s) ∧ Outside s (execAnswerWaitExpiry s) ∧ Outside s (execLoopCurrentPresent s)
      ∧ Outside s (execLoopTimerExpiry s) ∧ Outside s (execAgreementTimer3s s) ∧ Outside s (execAgreementTimer7s s)
      ∧ Outside s (execIdleClearExpiry s) ∧ Outside s (execStandbyAfterExpiry s)
      ∧ (∀ cause, Outside s (execWakeEvent cause s)) ∧ Outside s (execWakeComplete s)
      ∧ (∀ source, Outside s (execHoldingSourceTake source s)) := by
  refine ⟨outside_next (by simp) (by simp), outside_next (by simp) (by simp), ?_, ?_, ?_, ?_, ?_, ?_, ?_, ?_, ?_, fun cause => ?_,
    ?_, fun source => ?_⟩
  · exact outside_ite (outside_next (by simp) (by simp)) (outside_next rfl rfl)
  · exact outside_ite (outside_next (by simp) (by simp)) (outside_next rfl rfl)
  · exact outside_ite (outside_next (by simp) (by simp)) (outside_next rfl rfl)
  · exact outside_ite (outside_next (by simp) (by simp)) (outside_next rfl rfl)
  · exact outside_ite (outside_next (by simp) (by simp)) (outside_next rfl rfl)
  · exact outside_ite (outside_next (by simp) (by simp)) (outside_next rfl rfl)
  · exact outside_ite (outside_next (by simp) (by simp)) (outside_next rfl rfl)
  · exact outside_ite (outside_next (by simp) (by simp)) (outside_next rfl rfl)
  · exact outside_ite (outside_next (by simp) (by simp)) (outside_next rfl rfl)
  · unfold execWakeEvent; dsimp only; (repeat' split) <;> exact outside_next (by simp) (by simp)
  · unfold execWakeComplete; dsimp only; (repeat' split) <;> exact outside_next rfl rfl
  · unfold execHoldingSourceTake; (repeat' split) <;> exact outside_next (by simp) (by simp)

/-- Events of the keyboard. -/
theorem keyEvent_outside (s : State) :
    (∀ keys, Outside s (execKeyDown keys s)) ∧ (∀ keys, Outside s (execKeyUp keys s)) ∧ Outside s (execRepeatTimerExpiry s)
      ∧ ∀ down, Outside s (execFreshStartScan down s) := by
  refine ⟨fun _ => ?_, fun _ => ?_, ?_, fun _ => ?_⟩
  · exact outside_ite (outside_next (by simp) (by simp)) (outside_next rfl rfl)
  · exact outside_ite (outside_next (by simp) (by simp)) (outside_next rfl rfl)
  · unfold execRepeatTimerExpiry; dsimp only; (repeat' split) <;> exact outside_next (by simp) (by simp)
  · exact outside_ite (outside_next rfl rfl) (outside_next rfl rfl)

/-- Events of the printer. -/
theorem printerEvent_outside (s : State) :
    Outside s (execLostMarkJoin s) ∧ Outside s (execMotorStart s) ∧ Outside s (execMotorReady s)
      ∧ Outside s (execMotorStartTimeout s) ∧ Outside s (execMotorReadyDrop s) ∧ Outside s (execMotorOffTimerExpiry s)
      ∧ Outside s (execPrinterTake s) ∧ Outside s (execPrintCycleEnd s) ∧ Outside s (execEncoderPulse s)
      ∧ Outside s (execStepTimeout s) ∧ Outside s (execReturnComplete s) ∧ Outside s (execReturnTimeout s)
      ∧ Outside s (execLineFeedComplete s) ∧ Outside s (execBellPulseEnd s) ∧ Outside s (execPaperOut s)
      ∧ Outside s (execPaperBack s) ∧ Outside s (execRightwardStep s) := by
  refine ⟨outside_next (by simp) (by simp), ?_, ?_, ?_, ?_, ?_, ?_, ?_, ?_, ?_, ?_, ?_, ?_, outside_next rfl rfl, ?_, ?_, ?_⟩
  · exact outside_ite (outside_next rfl rfl) (outside_next rfl rfl)
  · unfold execMotorReady; dsimp only; (repeat' split) <;> exact outside_next (by simp) (by simp)
  · unfold execMotorStartTimeout; (repeat' split) <;> exact outside_next (by simp) (by simp)
  · unfold execMotorReadyDrop; dsimp only; split <;> exact outside_next (by simp) (by simp)
  · exact outside_ite (outside_next rfl rfl) (outside_next rfl rfl)
  · unfold execPrinterTake; split <;> exact outside_next (by simp) (by simp)
  · unfold execPrintCycleEnd; split <;> exact outside_next (by simp) (by simp)
  · unfold execEncoderPulse; dsimp only; (repeat' split) <;> exact outside_next (by simp) (by simp)
  · unfold execStepTimeout; split <;> exact outside_next (by simp) (by simp)
  · unfold execReturnComplete; dsimp only; (repeat' split) <;> exact outside_next (by simp) (by simp)
  · exact outside_ite (outside_next (by simp) (by simp)) (outside_next rfl rfl)
  · unfold execLineFeedComplete; split <;> exact outside_next (by simp) (by simp)
  · unfold execPaperOut; dsimp only; (repeat' split) <;> exact outside_next (by simp) (by simp)
  · unfold execPaperBack; dsimp only; (repeat' split) <;> exact outside_next (by simp) (by simp)
  · unfold execRightwardStep; dsimp only; (repeat' split) <;> exact outside_next rfl rfl

/-- Events of the punch and the store; a DRAM grant and the end of a DRAM access are apart. -/
theorem punchEvent_outside (s : State) :
    Outside s (execPunchTakeEntry s) ∧ Outside s (execPunchCycleEnd s) ∧ Outside s (execPunchJobStart s)
      ∧ Outside s (execTapeLowAsserted s) ∧ Outside s (execTapeLowClear s) ∧ Outside s (execRefreshTimer s)
      ∧ Outside s (execMemoryInitComplete s) ∧ Outside s (execWriteQueueClaim s) ∧ Outside s (execWriteThrough s) := by
  refine ⟨?_, ?_, ?_, ?_, ?_, ?_, ?_, outside_next rfl rfl, outside_next rfl rfl⟩
  · unfold execPunchTakeEntry; (repeat' split) <;> exact outside_next (by simp) (by simp)
  · unfold execPunchCycleEnd; dsimp only; (repeat' split) <;> exact outside_next (by simp) (by simp)
  · unfold execPunchJobStart; dsimp only; (repeat' split) <;> exact outside_next (by simp) (by simp)
  · unfold execTapeLowAsserted; dsimp only; (repeat' split) <;> exact outside_next (by simp) (by simp)
  · exact outside_ite (outside_next rfl rfl) (outside_next rfl rfl)
  · exact outside_ite (outside_next rfl rfl) (outside_next rfl rfl)
  · exact outside_ite (outside_next rfl rfl) (outside_next rfl rfl)

/-- The grant of an access writes nothing, and faults where the device has no such cell. -/
theorem dramGrant_cases (s : State) : Outside s (execDramGrant s) ∨ execDramGrant s = .fault .noSuchCell := by
  unfold execDramGrant
  (repeat' split)
  · exact .inl (outside_next rfl rfl)
  · exact .inl (outside_next rfl rfl)
  · exact .inr rfl
  · exact .inl (outside_next rfl rfl)

/-- The end of an access keeps the queue, and faults where the device has no such cell. -/
theorem dramAccessComplete_cases (s : State) :
    (∃ t, execDramAccessComplete s = .next t ∧ t.pending = s.pending) ∨ execDramAccessComplete s = .fault .noSuchCell := by
  unfold execDramAccessComplete
  (repeat' split)
  · exact .inl ⟨_, rfl, rfl⟩
  · exact .inl ⟨_, rfl, by simp⟩
  · exact .inr rfl

/-- Every command but power-on and the two DRAM events is a next state that keeps the queue and the DRAM. -/
theorem exec_outside {c : Instr} (s : State) (hp : c ≠ .powerOn) (hg : c ≠ .dramGrant) (hd : c ≠ .dramAccessComplete) :
    Outside s (exec c s) := by
  cases hr : request? c with
  | some r => exact request_outside hr s
  | none =>
    obtain ⟨l1, l2, l3, l4, l5, l6, l7, l8, l9, l10, l11, l12, l13, l14, l15, l16⟩ := lineEvent_outside s
    obtain ⟨c1, c2, c3, c4, c5, c6, c7, c8, c9, c10, c11, c12, c13, c14⟩ := callEvent_outside s
    obtain ⟨k1, k2, k3, k4⟩ := keyEvent_outside s
    obtain ⟨p1, p2, p3, p4, p5, p6, p7, p8, p9, p10, p11, p12, p13, p14, p15, p16, p17⟩ := printerEvent_outside s
    obtain ⟨u1, u2, u3, u4, u5, u6, u7, u8, u9⟩ := punchEvent_outside s
    cases c <;> first | contradiction | (unfold exec; solve_by_elim)

/-- Settles O2: the requests by the acts of their blocks, the events block by block, the two DRAM events apart. -/
theorem commandsKeepQueueAndMemory : Obligations.CommandsKeepQueueAndMemory := by
  refine ⟨fun c s t h => ?_, fun c s => ?_⟩
  · by_cases hp : c = .powerOn
    · subst hp
      obtain rfl := Host.Outcome.next.inj h
      exact ⟨rfl, fun _ hne => absurd rfl hne⟩
    by_cases hd : c = .dramAccessComplete
    · subst hd
      rcases dramAccessComplete_cases s with ⟨u, hu, hpu⟩ | hf
      · obtain rfl := Host.Outcome.next.inj (hu.symm.trans h)
        exact ⟨hpu, fun hne => absurd rfl hne⟩
      · exact absurd (hf.symm.trans h) (by simp)
    have hout : Outside s (exec c s) ∨ exec c s = .fault .noSuchCell := by
      by_cases hg : c = .dramGrant
      · subst hg; exact dramGrant_cases s
      · exact .inl (exec_outside s hp hg hd)
    rcases hout with ⟨u, hu, hpu, hmu⟩ | hf
    · obtain rfl := Host.Outcome.next.inj (hu.symm.trans h)
      exact ⟨hpu, fun _ _ => hmu⟩
    · exact absurd (hf.symm.trans h) (by simp)
  · by_cases hg : c = .dramGrant
    · subst hg
      refine ⟨fun r hr => ?_, fun _ _ => .inl rfl⟩
      rcases dramGrant_cases s with ⟨u, hu, -⟩ | hf
      · exact absurd (hu.symm.trans hr) (by simp)
      · exact absurd (hf.symm.trans hr) (by simp)
    by_cases hd : c = .dramAccessComplete
    · subst hd
      refine ⟨fun r hr => ?_, fun _ _ => .inr rfl⟩
      rcases dramAccessComplete_cases s with ⟨u, hu, -⟩ | hf
      · exact absurd (hu.symm.trans hr) (by simp)
      · exact absurd (hf.symm.trans hr) (by simp)
    have hnext : ∃ u, exec c s = .next u := by
      by_cases hp : c = .powerOn
      · subst hp; exact ⟨_, rfl⟩
      · obtain ⟨u, hu, -⟩ := exec_outside s hp hg hd
        exact ⟨u, hu⟩
    obtain ⟨u, hu⟩ := hnext
    exact ⟨fun r hr => absurd (hu.symm.trans hr) (by simp), fun r hr => absurd (hu.symm.trans hr) (by simp)⟩

/-! ### Requests that cannot be taken, and bodies of the wrong length -/

theorem acceptControl_untaken {action : Nat} {body : List Byte} {s : State} (act : State → State × Answer)
    (h : s.linkFree = false ∨ s.takes? 0x43#8 body = none) : acceptControl action body act s = s := by
  unfold acceptControl
  split
  · rfl
  · exact accept_untaken _ _ h

theorem acceptRead_untaken {body : List Byte} {s : State} (h : s.linkFree = false ∨ s.takes? 0x33#8 body = none) :
    acceptRead body s = s := by
  unfold acceptRead
  rcases h with h | h <;> simp [h]

/-- Every row of PUNCH-CONTROL refuses a body of the wrong length alike (log 32). -/
theorem acceptControl_unfit {action : Nat} {body : List Byte} {s s0 : State} (act : State → State × Answer)
    (h : s.asked 0x43#8 body s0) (hlen : body.length ≠ 2) :
    acceptControl action body act s = reply 0x43#8 (badLength (touchStandby s0)) (useFree (touchStandby s0)) := by
  rw [acceptControl, if_neg (fun hc => hlen hc.1), accept_asked_unfit _ h (decide_eq_false hlen)]

theorem acceptRead_unfit {body : List Byte} {s s0 : State} (h : s.asked 0x33#8 body s0) (hlen : body.length ≠ 6) :
    acceptRead body s = reply 0x33#8 (badLength (touchStandby s0)) (useFree (touchStandby s0)) := by
  rw [acceptRead_asked h, if_neg hlen]

/-- RESET-STATION with a body that does not fit, out of a READ-MESSAGE. -/
theorem acceptReset_unfit {body : List Byte} {s s0 : State} (h : s.asked 0x52#8 body s0) (hlen : noBody body = false) :
    acceptReset body s = reply 0x52#8 (badLength (touchStandby s0)) (useFree (touchStandby s0)) := by
  have hread := asked_hostRead h
  rw [acceptReset, if_pos (by simp [hread]), accept_asked_unfit _ h hlen]

/-- Settles O3: every request is an `accept`, but PUNCH-CONTROL with its row's test before it, READ-MESSAGE and
RESET-STATION. -/
theorem untakenAndMalformedRequests : Obligations.UntakenAndMalformedRequests := by
  refine ⟨fun c kind body s hreq hkind hun => ?_, fun c kind body s s0 hreq hfit hasked => ?_⟩
  · cases c <;> try (simp [request?] at hreq; done)
    all_goals obtain ⟨rfl, rfl⟩ := Prod.mk.inj (Option.some.inj hreq)
    case readMessage => exact congrArg Host.Outcome.next (acceptRead_untaken hun)
    case punchControlContinue => exact congrArg Host.Outcome.next (acceptControl_untaken _ hun)
    case punchControlCancel => exact congrArg Host.Outcome.next (acceptControl_untaken _ hun)
    case punchControlFeed => exact congrArg Host.Outcome.next (acceptControl_untaken _ hun)
    case resetStation => exact absurd rfl hkind
    all_goals exact congrArg Host.Outcome.next (accept_untaken _ _ hun)
  · refine ⟨Config.freeByte (touchStandby s0).freeCount, ?_⟩
    cases c <;> try (simp [request?] at hreq; done)
    all_goals obtain ⟨rfl, rfl⟩ := Prod.mk.inj (Option.some.inj hreq)
    case readMessage => exact congrArg Host.Outcome.next (acceptRead_unfit hasked (of_decide_eq_false hfit))
    case punchControlContinue => exact congrArg Host.Outcome.next (acceptControl_unfit _ hasked (of_decide_eq_false hfit))
    case punchControlCancel => exact congrArg Host.Outcome.next (acceptControl_unfit _ hasked (of_decide_eq_false hfit))
    case punchControlFeed => exact congrArg Host.Outcome.next (acceptControl_unfit _ hasked (of_decide_eq_false hfit))
    case resetStation => exact congrArg Host.Outcome.next (acceptReset_unfit hasked hfit)
    all_goals exact congrArg Host.Outcome.next (accept_asked_unfit _ hasked hfit)

end Sys2Proof.Machine
end

section
/-! SUPPORT. The requests that set the station, the line, the code table, the keymap and the printer: the act of each by its
fields, and the statements O6, O7, O8, O9 and O13. -/

namespace Sys2Proof.Machine

/-- A request that can be taken, of a fitting body, is answered with what the act of its block came to. -/
theorem next_accept {kind : Byte} {fits : Bool} {body : List Byte} {act : State → State × Answer} {s s0 t : State} {a : Answer}
    (h : s.asked kind body s0) (hfits : fits = true) (hact : act (touchStandby s0) = (t, a)) :
    (.next (accept kind fits body act s) : Host.Outcome State Fault Refusal) = .next (reply kind a t) := by
  rw [accept_asked_fits act h hfits, hact]

/-! ### The first field at fault (R184) -/

theorem firstFault_none_of_good {fields : List (Nat × Bool)} (h : ∀ x ∈ fields, x.2 = true) : firstFault fields = none := by
  induction fields with
  | nil => rfl
  | cons x rest ih =>
    obtain ⟨p, good⟩ := x
    obtain ⟨hx, hrest⟩ := List.forall_mem_cons.1 h
    exact (if_pos hx).trans (ih hrest)

theorem firstFault_some_of_bad {fields : List (Nat × Bool)} (h : ∃ x ∈ fields, x.2 = false) :
    ∃ p, firstFault fields = some p := by
  induction fields with
  | nil => simp at h
  | cons x rest ih =>
    obtain ⟨p, good⟩ := x
    cases good with
    | false => exact ⟨p, rfl⟩
    | true =>
      obtain ⟨y, hy, hbad⟩ := h
      rcases List.mem_cons.1 hy with rfl | hy
      · exact absurd hbad (by simp)
      · exact ih ⟨y, hy, hbad⟩

/-! ### SET-STATION (R139) -/

theorem actSetStation_of_good {body : List Byte} {m : Mode} {ar : Bool} {rm : ReportMode} (s : State)
    (hm : mode? (field1 body 0) = some m) (har : onOff? (field1 body 5) = some ar) (hrm : reportMode? (field1 body 6) = some rm) :
    actSetStation body s =
      (applyStation m (clampTimer (field2 body 1)) (clampTimer (field2 body 3)) ar rm s,
        ok (put1 m.number ++ put2 (clampTimer (field2 body 1)) ++ put2 (clampTimer (field2 body 3)) ++ put1 (onOffByte ar)
          ++ put1 rm.number)) := by
  simp only [actSetStation, hm, har, hrm]

theorem actSetStation_of_bad {body : List Byte} (s : State)
    (h : mode? (field1 body 0) = none ∨ onOff? (field1 body 5) = none ∨ reportMode? (field1 body 6) = none) :
    ∃ p, actSetStation body s = (s, badValue p) := by
  unfold actSetStation
  split
  next hm har hrm => simp [hm, har, hrm] at h
  next => exact ⟨0, rfl⟩
  next => exact ⟨5, rfl⟩
  next => exact ⟨6, rfl⟩

/-- Settles O6: SET-STATION by whether its three enumerations are in their lists. -/
theorem setStationApplies : Obligations.SetStationApplies := by
  refine ⟨fun s s0 body m ar rm h hlen hm har hrm => ?_, fun s s0 body h hlen hbad => ?_⟩
  · exact next_accept h (decide_eq_true hlen) (actSetStation_of_good _ hm har hrm)
  · obtain ⟨p, hp⟩ := actSetStation_of_bad (touchStandby s0) hbad
    exact ⟨p, next_accept h (decide_eq_true hlen) hp⟩

/-! ### SET-LINE (R36, R53, R10) -/

theorem actSetLine_of_bad {body : List Byte} (s : State)
    (h : onOff? (field1 body 4) = none ∨ sense? (field1 body 5) = none ∨ onOff? (field1 body 6) = none
      ∨ stopLength? (field1 body 10) = none ∨ onOff? (field1 body 11) = none ∨ Rate.ofIndex? (field1 body 12) = none
      ∨ onOff? (field1 body 13) = none) :
    ∃ p, actSetLine body s = (s, badValue p) := by
  unfold actSetLine
  split
  next h4 h5 h6 h10 h11 h12 h13 => simp [h4, h5, h6, h10, h11, h12, h13] at h
  next => exact ⟨_, rfl⟩

/-- Settles O7: SET-LINE by whether its seven enumerations are in their lists. -/
theorem setLineApplies : Obligations.SetLineApplies := by
  refine ⟨fun s s0 body ap se ori sl aoc mx us h hlen h4 h5 h6 h10 h11 h12 h13 => ?_, fun s s0 body h hlen hbad => ?_⟩
  · refine next_accept h (decide_eq_true hlen) ?_
    simp only [actSetLine, h4, h5, h6, h10, h11, h12, h13]
    rfl
  · obtain ⟨p, hp⟩ := actSetLine_of_bad (touchStandby s0) hbad
    exact ⟨p, next_accept h (decide_eq_true hlen) hp⟩

/-! ### LOAD-CODE-TABLE (R3, R4) -/

/-- The entries of the body are fields of the request, from position 3 on (R3, order 1). -/
theorem tableFields_entry {body : List Byte} {i : Nat} (hi : i < 32) :
    (3 + i, (tableEntry? (body.getD (3 + i) 0)).isSome) ∈ tableFields body := by
  unfold tableFields
  exact List.mem_cons_of_mem _ (List.mem_cons_of_mem _ (List.mem_cons_of_mem _
    (List.mem_map.2 ⟨i, List.mem_range.2 hi, rfl⟩)))

theorem tableFields_bad {body : List Byte}
    (h : plane? (field1 body 0) = none ∨ rawCode? (body.getD 1 0) = none ∨ rawCode? (body.getD 2 0) = none
      ∨ ∃ i, i < 32 ∧ tableEntry? (body.getD (3 + i) 0) = none) :
    ∃ p, firstFault (tableFields body) = some p := by
  refine firstFault_some_of_bad ?_
  rcases h with h | h | h | ⟨i, hi, h⟩
  · exact ⟨(0, _), List.mem_cons_self, congrArg Option.isSome h⟩
  · exact ⟨(1, _), List.mem_cons_of_mem _ List.mem_cons_self, congrArg Option.isSome h⟩
  · exact ⟨(2, _), List.mem_cons_of_mem _ (List.mem_cons_of_mem _ List.mem_cons_self), congrArg Option.isSome h⟩
  · exact ⟨_, tableFields_entry hi, congrArg Option.isSome h⟩

theorem tableFields_good {body : List Byte} {p : Plane} {ltrs figs : RawCode} (hp : plane? (field1 body 0) = some p)
    (hl : rawCode? (body.getD 1 0) = some ltrs) (hf : rawCode? (body.getD 2 0) = some figs)
    (he : ∀ i, i < 32 → (tableEntry? (body.getD (3 + i) 0)).isSome) : firstFault (tableFields body) = none := by
  refine firstFault_none_of_good fun x hx => ?_
  simp only [tableFields, List.mem_cons, List.mem_map, List.mem_range] at hx
  rcases hx with rfl | rfl | rfl | ⟨i, hi, rfl⟩
  · exact congrArg Option.isSome hp
  · exact congrArg Option.isSome hl
  · exact congrArg Option.isSome hf
  · exact he i hi

theorem actLoadCodeTable_of_fault {body : List Byte} {p : Nat} (s : State) (h : firstFault (tableFields body) = some p) :
    actLoadCodeTable body s = (s, badValue p) := by
  simp only [actLoadCodeTable, checked, h]

theorem actLoadCodeTable_of_good {body : List Byte} {p : Plane} {ltrs figs : RawCode} (s : State)
    (hp : plane? (field1 body 0) = some p) (hl : rawCode? (body.getD 1 0) = some ltrs)
    (hf : rawCode? (body.getD 2 0) = some figs) (he : ∀ i, i < 32 → (tableEntry? (body.getD (3 + i) 0)).isSome) :
    actLoadCodeTable body s = loadTable p ltrs figs (loadedEntries body) s := by
  simp only [actLoadCodeTable, checked, tableFields_good hp hl hf he, hp, hl, hf]

/-- Settles O8: LOAD-CODE-TABLE by its fields, then by the tests of R3 in their order. -/
theorem loadCodeTableFollowsR3 : Obligations.LoadCodeTableFollowsR3 := by
  intro s s0 body h hlen
  have hfit : decide (body.length = 35) = true := decide_eq_true hlen
  refine ⟨fun p hp => next_accept h hfit (actLoadCodeTable_of_fault _ hp), tableFields_bad, fun p ltrs figs hp hl hf he => ?_⟩
  have hact := actLoadCodeTable_of_good (touchStandby s0) hp hl hf he
  simp only [loadTable] at hact
  intro s1 cv v
  split
  next hstate => exact next_accept h hfit (hact.trans (if_pos hstate))
  next hstate =>
    have hact := hact.trans (if_neg hstate)
    split
    next hsame => exact next_accept h hfit (hact.trans (if_pos hsame))
    next hsame =>
      have hact := hact.trans (if_neg hsame)
      split
      next hid => exact next_accept h hfit (hact.trans (if_pos hid))
      next hid => exact next_accept h hfit (hact.trans (if_neg hid))

/-! ### LOAD-KEYMAP (R86) -/

/-- A load changes the keymap alone. -/
theorem loadKeys_frame (first : Nat) (es : List KeymapEntry) (k : Keyboard) :
    Keyboard.loadKeys first es k = { k with keymap := (Keyboard.loadKeys first es k).keymap } := by
  induction es generalizing first k with
  | nil => rfl
  | cons e rest ih => exact ih ..

/-- A load of keys that exist gives each its entry and leaves every other key. -/
theorem loadKeys_get (es : List KeymapEntry) {first : Nat} (k : Keyboard) (hfit : first + es.length ≤ 64) (j : Nat) :
    (Keyboard.loadKeys first es k).keymap[j]? =
      if first ≤ j ∧ j < first + es.length then es[j - first]? else k.keymap[j]? := by
  induction es generalizing first k with
  | nil => rw [if_neg (by simp)]; rfl
  | cons e rest ih =>
    rw [List.length_cons] at hfit ⊢
    rw [Keyboard.loadKeys, ih _ (by omega)]
    rcases Nat.lt_trichotomy j first with hj | rfl | hj
    · rw [if_neg (by omega), if_neg (by omega), Vector.getElem?_setIfInBounds_ne (by omega)]
    · rw [if_neg (by omega), if_pos (by omega), Vector.getElem?_setIfInBounds_self_of_lt (by omega)]
      simp
    · by_cases hin : j < first + (rest.length + 1)
      · obtain ⟨d, rfl⟩ : ∃ d, j = first + 1 + d := ⟨j - (first + 1), by omega⟩
        rw [if_pos (by omega), if_pos (by omega), Nat.add_sub_cancel_left,
          show first + 1 + d - first = d + 1 by omega, List.getElem?_cons_succ]
      · rw [if_neg (by omega), if_neg (by omega), Vector.getElem?_setIfInBounds_ne (by omega)]

/-- Entries that are all good are taken one for one. -/
theorem filterMap_of_isSome {α β : Type} {f : α → Option β} {l : List α} (h : ∀ x ∈ l, (f x).isSome) :
    (l.filterMap f).length = l.length ∧ ∀ i : Nat, (l.filterMap f)[i]? = l[i]?.bind f := by
  induction l with
  | nil => exact ⟨rfl, fun i => rfl⟩
  | cons x rest ih =>
    obtain ⟨hx, hrest⟩ := List.forall_mem_cons.1 h
    obtain ⟨y, hy⟩ := Option.isSome_iff_exists.1 hx
    obtain ⟨hlen, hget⟩ := ih hrest
    rw [List.filterMap_cons_some hy]
    refine ⟨by simp [hlen], fun i => ?_⟩
    cases i with
    | zero => simp [hy]
    | succ i => simpa using hget i

theorem actLoadKeymap_of_bad {body : List Byte} (s : State)
    (h : field1 body 1 < 1 ∨ 64 < field1 body 1 ∨ 64 < field1 body 0 + field1 body 1
      ∨ ∃ i, i < field1 body 1 ∧ loadedKey body i = none) :
    ∃ p, actLoadKeymap body s = (s, badValue p) := by
  unfold actLoadKeymap
  dsimp only
  split
  next => exact ⟨_, rfl⟩
  next hcount =>
    split
    next => exact ⟨_, rfl⟩
    next hlast =>
      split
      next => exact ⟨_, rfl⟩
      next hgood =>
        obtain ⟨i, hi, hnone⟩ : ∃ i, i < field1 body 1 ∧ loadedKey body i = none := by
          rcases h with h | h | h | h
          · exact absurd (.inl h) hcount
          · exact absurd (.inr h) hcount
          · exact absurd h hlast
          · exact h
        exact absurd (List.find?_eq_none.1 hgood i (List.mem_range.2 hi)) (by simp [hnone])

theorem actLoadKeymap_of_good {body : List Byte} (s : State) (h1 : 1 ≤ field1 body 1) (h64 : field1 body 1 ≤ 64)
    (hlast : field1 body 0 + field1 body 1 ≤ 64) (hgood : ∀ i, i < field1 body 1 → (loadedKey body i).isSome) :
    actLoadKeymap body s =
      ({ s with kb := s.kb.loadKeys (field1 body 0) ((List.range (field1 body 1)).filterMap (loadedKey body)) }, ok []) := by
  have hfind : (List.range (field1 body 1)).find? (fun i => (loadedKey body i).isNone) = none :=
    List.find?_eq_none.2 fun i hi => by simpa [Option.isSome_iff_ne_none] using hgood i (List.mem_range.1 hi)
  rw [actLoadKeymap, if_neg (by omega), if_neg (by omega)]
  simp only [hfind]

/-- Settles O9: LOAD-KEYMAP by its count, keys, kinds and codes; the keymap of a good load by what it gives each key. -/
theorem loadKeymapReplaces : Obligations.LoadKeymapReplaces := by
  intro s s0 body h hfit
  refine ⟨fun hbad => ?_, fun h1 h64 hlast hgood => ?_⟩
  · obtain ⟨p, hp⟩ := actLoadKeymap_of_bad (touchStandby s0) hbad
    exact ⟨p, next_accept h hfit hp⟩
  · obtain ⟨hlen, hget⟩ := filterMap_of_isSome (f := loadedKey body) (l := List.range (field1 body 1))
      fun i hi => hgood i (List.mem_range.1 hi)
    rw [List.length_range] at hlen
    have hkeys := loadKeys_get ((List.range (field1 body 1)).filterMap (loadedKey body)) (first := field1 body 0)
      (touchStandby s0).kb (by omega)
    rw [hlen] at hkeys
    refine ⟨((touchStandby s0).kb.loadKeys (field1 body 0) ((List.range (field1 body 1)).filterMap (loadedKey body))).keymap,
      next_accept h hfit ?_, fun i hi => ?_, fun k hk => ?_⟩
    · exact (actLoadKeymap_of_good _ h1 h64 hlast hgood).trans
        (congrArg (fun k => ({ touchStandby s0 with kb := k }, ok [])) (loadKeys_frame ..))
    · rw [hkeys, if_pos (by omega), Nat.add_sub_cancel_left, hget, List.getElem?_range hi]
      rfl
    · rw [hkeys, if_neg (by omega)]

/-! ### SET-PRINTER (R118) -/

theorem actSetPrinter_of_bad {body : List Byte} (s : State)
    (h : policy? (field1 body 2) = none ∨ stationCode? (body.getD 4 0) = none) :
    ∃ p, actSetPrinter body s = (s, badValue p) := by
  unfold actSetPrinter
  split
  next hpo hlost => rw [hpo, hlost] at h; simp at h
  next => exact ⟨2, rfl⟩
  next => exact ⟨4, rfl⟩

/-- Settles O13: SET-PRINTER by its policy and its LOST code. -/
theorem setPrinterApplies : Obligations.SetPrinterApplies := by
  refine ⟨fun s s0 body po lost h hlen hpo hlost => ?_, fun s s0 body h hlen hbad => ?_⟩
  · refine next_accept h (decide_eq_true hlen) ?_
    simp only [actSetPrinter, hpo, hlost]
    rfl
  · obtain ⟨p, hp⟩ := actSetPrinter_of_bad (touchStandby s0) hbad
    exact ⟨p, next_accept h (decide_eq_true hlen) hp⟩

end Sys2Proof.Machine
end

section
/-! SUPPORT. The call controller: ANSWER, CALL and CLEAR, the readings of RING, the loop, STANDBY and the wake, each by the branches
of its meaning; the statements O15, O17, O18, O19, O20, O21 and O22. -/

namespace Sys2Proof.Machine

/-! ### ANSWER, CALL and CLEAR (R143, R145, R152) -/

/-- The store check of a ring (R142, R164). -/
theorem Store.check_iff (st : Store) :
    st.check = true ↔ st.memInit = false ∧ 1024 ≤ st.free ∧ st.dir.length < 64 := by
  simp only [Store.check, Bool.and_eq_true, Bool.not_eq_true', decide_eq_true_eq, and_assoc]
  exact Iff.rfl

theorem Store.check_of_lacking {st : Store} (h : st.memInit = true ∨ st.free < 1024 ∨ 64 ≤ st.dir.length) : st.check = false := by
  rw [← Bool.not_eq_true, Store.check_iff]
  rintro ⟨hinit, hfree, hdir⟩
  rcases h with h | h | h
  · exact absurd (hinit.symm.trans h) (by decide)
  · omega
  · omega

theorem actAnswer_of_none {s : State} (h : s.call.attendedWait = false) : actAnswer s = (s, plainAnswer .wrongState) :=
  if_neg (by simp [h])

theorem actAnswer_of_lacking {s : State} (h : s.call.attendedWait = true) (hc : s.store.check = false) :
    actAnswer s = (refuseRing .storeFull s, plainAnswer .full) := by
  rw [actAnswer, if_pos h, if_neg (by simp [hc])]

theorem actAnswer_of_check {s : State} (h : s.call.attendedWait = true) (hc : s.store.check = true) :
    actAnswer s = (enterStarting s, ok []) := by
  rw [actAnswer, if_pos h, if_pos hc]

theorem actCall_of_not {s : State} (h : s.call.state ≠ .idle ∨ s.call.configured = false) :
    actCall s = (s, plainAnswer .wrongState) := by
  refine if_neg ?_
  rintro ⟨hidle, hconf⟩
  rcases h with h | h
  · exact h hidle
  · exact absurd (h.symm.trans hconf) (by decide)

/-- A call with the loop closed is cleared (R152). -/
theorem actClear_of_call {s : State} (h : s.call.state = .answering ∨ s.call.state = .originating ∨ s.call.state = .agreeing
    ∨ s.call.state = .connected) : actClear s = (enterClearing .clearRequest s, ok []) := by
  rcases h with h | h | h | h <;> simp only [actClear, h]

theorem actClear_of_rest {s : State} (h : s.call.state = .idle ∨ s.call.state = .standby) :
    actClear s = (s, plainAnswer .wrongState) := by
  rcases h with h | h <;> simp only [actClear, h]

/-- Settles O15: the three requests by the call state and the attended wait, ANSWER by the store check too. -/
theorem callRequests : Obligations.CallRequests := by
  refine ⟨⟨fun s s0 h => ⟨fun hwait => ?_, fun hwait hlack => ?_, fun hwait hinit hfree hdir => ?_⟩,
    fun s s0 h => ⟨fun hnot => ?_, fun hidle hconf => ?_⟩⟩,
    fun s s0 h => ⟨fun hst hwait => ?_, fun hst hwait => ?_, fun hst => ?_, fun hst => ?_, fun hst => ?_, fun hst => ?_⟩⟩
  · exact next_accept h rfl (actAnswer_of_none hwait)
  · exact next_accept h rfl (actAnswer_of_lacking hwait (Store.check_of_lacking hlack))
  · exact next_accept h rfl (actAnswer_of_check hwait ((Store.check_iff _).2 ⟨hinit, hfree, hdir⟩))
  · exact next_accept h rfl (actCall_of_not hnot)
  · exact next_accept h rfl (if_pos ⟨hidle, hconf⟩)
  · refine next_accept h rfl ?_
    simp only [actClear, hst]
    exact if_pos hwait
  · refine next_accept h rfl ?_
    simp only [actClear, hst]
    exact if_neg (by simp [hwait])
  · refine next_accept h rfl ?_
    simp only [actClear, hst]
    rfl
  · exact next_accept h rfl (actClear_of_call hst)
  · refine next_accept h rfl ?_
    simp only [actClear, hst]
  · exact next_accept h rfl (actClear_of_rest hst)

/-! ### RING (R141, R142, R159) -/

theorem ringTick_lockout_asserted {s : State} (h : s.call.lockout = true) :
    ringTick true s = { s with call := { s.call with quiet := 0 } } := by
  unfold ringTick
  rw [if_pos h, if_pos rfl]

theorem ringTick_lockout_absent {s : State} (h : s.call.lockout = true) :
    ringTick false s =
      if s.call.quiet < 127 then { s with call := { s.call with quiet := s.call.quiet + 1 } } else clearLockout s := by
  unfold ringTick
  rw [if_pos h, if_neg (by decide)]
  exact ite_congr (propext (by simp only [Config.lockoutTicks]; omega)) (fun _ => rfl) fun _ => rfl

theorem ringTick_ringCheck {s : State} (h : s.call.lockout = false) (hst : s.call.state = .ringCheck) :
    ringTick true s =
      if s.call.ringCount < 15 then { s with call := { s.call with ringCount := s.call.ringCount + 1 } } else qualifyRing s := by
  unfold ringTick
  rw [if_neg (by simp [h])]
  simp only [hst]
  exact ite_congr (propext (by simp only [Config.ringTicks]; omega)) (fun _ => rfl) fun _ => rfl

theorem ringTick_standby {s : State} (h : s.call.lockout = false) (hst : s.call.state = .standby) :
    ringTick true s =
      if s.call.waking = true ∧ 1 ≤ s.call.ringCount then
        { s with call := { s.call with ringCount := min 15 (s.call.ringCount + 1) } }
      else beginWake (firstRing s) := by
  unfold ringTick
  rw [if_neg (by simp [h])]
  simp only [hst]

/-- RING is not looked at in the states of a call. -/
theorem ringTick_elsewhere {s : State} (h : s.call.lockout = false) (hidle : s.call.state ≠ .idle)
    (hcheck : s.call.state ≠ .ringCheck) (hstandby : s.call.state ≠ .standby) (b : Bool) : ringTick b s = s := by
  unfold ringTick
  rw [if_neg (by simp [h])]
  cases b <;> cases hst : s.call.state <;> first | contradiction | rfl

/-- An absent RING matters in RING-CHECK and in STANDBY alone. -/
theorem ringTick_absent_elsewhere {s : State} (h : s.call.lockout = false)
    (hcheck : s.call.state ≠ .ringCheck) (hstandby : s.call.state ≠ .standby) : ringTick false s = s := by
  unfold ringTick
  rw [if_neg (by simp [h])]
  cases hst : s.call.state <;> first | contradiction | rfl

/-- Settles O17: the readings of RING by the lockout, the call state and the ring count. -/
theorem ringReadings : Obligations.RingReadings := by
  refine ⟨fun s => ⟨fun h => ?_, fun h hst => ?_, fun h hst hn => ?_, fun h hst hn => ?_, fun h hst hw => ?_,
    fun h hst hw hn => ?_, fun h hst hw hn => ?_, fun h h1 h2 h3 => ?_⟩,
    fun s => ⟨fun h hn => ?_, fun h hn => ?_, fun h hst => ?_, fun h hst => ?_, fun h h1 h2 => ?_⟩⟩ <;>
    refine congrArg Host.Outcome.next ?_
  · exact ringTick_lockout_asserted h
  · unfold ringTick
    rw [if_neg (by simp [h])]
    simp only [hst]
    rfl
  · exact Eq.trans (ringTick_ringCheck h hst) (if_pos hn)
  · exact Eq.trans (ringTick_ringCheck h hst) (if_neg (Nat.not_lt.2 hn))
  · exact Eq.trans (ringTick_standby h hst) (if_neg fun hc => absurd (hw.symm.trans hc.1) (by decide))
  · refine Eq.trans (ringTick_standby h hst) (Eq.trans (if_neg fun hc => absurd hc.2 (by simp [hn])) ?_)
    simp only [beginWake, firstRing, hw]
  · exact Eq.trans (ringTick_standby h hst) (if_pos ⟨hw, hn⟩)
  · refine ringTick_elsewhere ?_ ?_ ?_ ?_ true
    · exact h
    · exact h1
    · exact h2
    · exact h3
  · exact Eq.trans (ringTick_lockout_absent h) (if_pos hn)
  · exact Eq.trans (ringTick_lockout_absent h) (if_neg (Nat.not_lt.2 hn))
  · unfold ringTick
    rw [if_neg (by simp [h])]
    simp only [hst]
    rfl
  · unfold ringTick
    rw [if_neg (by simp [h])]
    simp only [hst]
  · refine ringTick_absent_elsewhere ?_ ?_ ?_
    · exact h
    · exact h1
    · exact h2

/-! ### The qualified ring and the attended wait (R142, R143) -/

theorem exec_ringQualified {s : State} (hst : s.call.state = .ringCheck) (hw : s.call.attendedWait = false)
    (hl : s.call.lockout = false) : exec .ringQualified s = .next (qualifyRing s) := if_pos ⟨hst, hw, hl⟩

theorem countDown_last {n : Nat} (h : n ≤ 1) : countDown (some n) = (none, true) := if_pos h

theorem countDown_more {n : Nat} (h : 2 ≤ n) : countDown (some n) = (some (n - 1), false) := if_neg (by omega)

/-- Settles O18: the qualified ring by what the station is ready for, the end of the lockout by the attended wait, the wait's
tick by what is left of its timer. -/
theorem ringQualifiedAndWait : Obligations.RingQualifiedAndWait := by
  refine ⟨fun s hst hw hl => ⟨fun hconf => ?_, fun hconf hlack => ?_, fun hconf hinit hfree hdir =>
    ⟨fun hm => ?_, fun hm => ?_⟩⟩, fun s hl hw => ?_, fun s hl hw => ?_, fun s hw => ?_, fun s n hn => ⟨fun h => ?_, fun h => ?_⟩⟩
  · rw [exec_ringQualified hst hw hl, qualifyRing, if_pos hconf, refuseRing, ringToIdle, hw]
  · rw [exec_ringQualified hst hw hl, qualifyRing, if_neg (by simp [hconf]), if_pos (Store.check_of_lacking hlack), refuseRing,
      ringToIdle, hw]
  · have hcheck := (Store.check_iff s.store).2 ⟨hinit, hfree, hdir⟩
    rw [exec_ringQualified hst hw hl, qualifyRing, if_neg (by simp [hconf]), if_neg (by simp [hcheck]), if_pos hm, enterStarting,
      hw]
    rfl
  · have hcheck := (Store.check_iff s.store).2 ⟨hinit, hfree, hdir⟩
    rw [exec_ringQualified hst hw hl, qualifyRing, if_neg (by simp [hconf]), if_neg (by simp [hcheck]), if_neg hm]
    rfl
  · exact (if_pos hl).trans (congrArg Host.Outcome.next (if_neg (by simp [hw])))
  · exact (if_pos hl).trans (congrArg Host.Outcome.next (if_pos hw))
  · exact if_pos hw
  · rw [answerWaitTick, hn, countDown_more h]
    rfl
  · rw [answerWaitTick, hn, countDown_last h]
    rfl

/-! ### The loop and the end of a call (R145, R154) -/

theorem loopTick_current {s : State} (h : s.pins.loopSense = true) : loopTick s = connect s := if_pos h

theorem loopTick_more {s : State} {n : Nat} (h : s.pins.loopSense = false) (hn : s.call.loopTimer = some n) (h2 : 2 ≤ n) :
    loopTick s = { s with call := { s.call with loopTimer := some (n - 1) } } := by
  rw [loopTick, if_neg (by simp [h]), hn, countDown_more h2]
  rfl

theorem loopTick_last {s : State} {n : Nat} (h : s.pins.loopSense = false) (hn : s.call.loopTimer = some n) (h1 : n ≤ 1) :
    loopTick s = enterClearing .noLoop s := by
  rw [loopTick, if_neg (by simp [h]), hn, countDown_last h1]
  rfl

/-- The loss count of CLEARING at a tick (R154). -/
theorem clearingTick_eq (s : State) :
    clearingTick s =
      if s.pins.loopSense = true then { s with call := { s.call with lossCount := 0 } }
      else if s.call.lossCount < 3 then { s with call := { s.call with lossCount := s.call.lossCount + 1 } }
      else callEnd s := by
  rw [clearingTick]
  exact ite_congr rfl (fun _ => rfl) fun _ =>
    ite_congr (propext (by simp only [Config.lossTicks]; omega)) (fun _ => rfl) fun _ => rfl

theorem signalTick_clear {s : State} {n : Nat} (h : s.tx.signal = .clr n) :
    signalTick s = if n < 127 then { s with tx := { s.tx with signal := .clr (n + 1) } } else callEnd s := by
  simp only [signalTick, h]
  exact ite_congr (propext (by simp only [Config.clearTicks]; omega)) (fun _ => rfl) fun _ => rfl

/-- The comparison in OFF may leave the printer another mode and catch-up message, nothing else (R110). -/
theorem compareCursors_false_pr (s : State) :
    (compareCursors false s).pr = { s.pr with
      mode := (compareCursors false s).pr.mode, catchUp := (compareCursors false s).pr.catchUp } := by
  unfold compareCursors
  dsimp only
  split
  next => rfl
  next => simp
  next => simp

theorem offComparison_pr (s : State) :
    (offComparison s).pr = { s.pr with mode := (offComparison s).pr.mode, catchUp := (offComparison s).pr.catchUp } := by
  unfold offComparison
  split
  next => exact compareCursors_false_pr s
  next => rfl

theorem callEnd_pr (s : State) : (callEnd s).pr.unavailable = false ∧ (callEnd s).pr.queue = s.pr.queue := by
  simp only [callEnd, raise_frame]
  constructor
  · rw [offComparison_pr]
  · rw [offComparison_pr]

theorem callEnd_reports (s : State) :
    (callEnd s).link.reports = (({ s.link with
      reports := (joinReports (.callEnded s.call.cause (if s.call.reached then s.call.rate else none)
        (if s.call.reached then s.call.outcome else none) s.call.verdict s.call.ceilingLeft) s.link.reports).1 }).kick).reports := by
  simp [callEnd, raise]

/-- Settles O19: the loop while a call waits for it, the two ends of a clearing, their ticks, and what the end of a call leaves
in each block. -/
theorem loopAndCallEnds : Obligations.LoopAndCallEnds := by
  refine ⟨fun s h => ⟨?_, ?_⟩, fun s n hst hsig => ⟨?_, ?_⟩, fun s => ⟨loopTick_current, fun h n hn =>
    ⟨loopTick_more h hn, loopTick_last h hn⟩, fun h => ?_, fun h hn => ?_, fun h hn => ?_, fun n hn => ⟨fun h => ?_, fun h => ?_⟩⟩,
    fun s => ⟨?_, ?_, ?_, ?_, ?_, (callEnd_pr s).1, (callEnd_pr s).2, ?_, ?_, ?_, ?_, ?_, callEnd_reports s⟩⟩
  · exact if_pos (by simpa [State.awaitsLoop] using h)
  · exact if_pos (by simpa [State.awaitsLoop] using h)
  · simp only [exec, execClearSignalComplete, hsig]
    exact if_pos hst
  · simp only [exec, execClearingLossCount, hsig]
    exact if_pos hst
  · rw [clearingTick_eq, if_pos h]
  · rw [clearingTick_eq, if_neg (by simp [h]), if_pos hn]
  · rw [clearingTick_eq, if_neg (by simp [h]), if_neg (Nat.not_lt.2 hn)]
  · rw [signalTick_clear hn, if_pos h]
  · rw [signalTick_clear hn, if_neg (Nat.not_lt.2 h)]
  all_goals simp [callEnd, Receiver.toHunt]

/-! ### The timers of IDLE and CONNECTED, and STANDBY (R151, R157, R158) -/

theorem LinkRx.receiving_iff (r : LinkRx) : r.receiving = false ↔ ∀ bs, r ≠ .inFrame bs := by
  cases r <;> simp [LinkRx.receiving]

/-- The standby conditions (R157; log 28). -/
theorem State.standbyOk_iff (s : State) :
    s.standbyOk = true ↔
      s.call.state = .idle ∧ s.pr.state = .off ∧ s.pu.queue = [] ∧ s.pu.chain = []
      ∧ (s.pu.state = .off ∨ s.pu.state = .tapeLowHold) ∧ s.kb.buffer = []
      ∧ s.router.linkText = [] ∧ s.tx.duty = .none ∧ s.link.reports = [] ∧ s.link.replies = [] ∧ s.link.holding = []
      ∧ (∀ bs, s.link.rx ≠ .inFrame bs) ∧ s.store.allWritten = true ∧ s.store.playRead = none ∧ s.store.printRead = none
      ∧ s.store.punchRead = none ∧ s.store.hostRead = none ∧ s.store.memInit = false ∧ s.pins.wake = false := by
  simp [State.standbyOk, Punch.rests, Link.quiet, Store.quiet, LinkRx.receiving_iff, and_assoc]

theorem idleClearTick_stands {s : State} (h : s.call.idleTimer = none) : idleClearTick s = s := by
  rw [idleClearTick, h]
  simp only [countDown, Bool.false_eq_true, if_false, ← h]

theorem standbyTick_stands {s : State} (h : s.call.standbyTimer = none) : standbyTick s = s := by
  rw [standbyTick, h]
  simp only [countDown, Bool.false_eq_true, if_false, ← h]

/-- Settles O20: the two expiries by the call state and the standby conditions, their ticks by what is left of the timers. -/
theorem idleClearAndStandbyAfter : Obligations.IdleClearAndStandbyAfter := by
  refine ⟨fun s hst ht => if_pos ⟨hst, ht⟩, fun s hst ht => ⟨fun hok => ?_, fun hok => ?_⟩, State.standbyOk_iff,
    fun s => ⟨idleClearTick_stands, standbyTick_stands, fun n => ⟨fun ht h => ?_, fun ht h => ?_, fun ht h => ?_,
    fun ht h => ?_⟩⟩, fun s => rfl⟩
  · exact (if_pos ⟨hst, ht⟩).trans (congrArg Host.Outcome.next (if_pos hok))
  · refine (if_pos ⟨hst, ht⟩).trans (congrArg Host.Outcome.next ((if_neg (by simp [hok])).trans (if_pos hst)))
  · rw [idleClearTick, ht, countDown_more h]
    rfl
  · rw [idleClearTick, ht, countDown_last h]
    rfl
  · rw [standbyTick, ht, countDown_more h]
    rfl
  · rw [standbyTick, ht, countDown_last h]
    rfl

/-! ### STANDBY and frames sent (R157, R184, R187) -/

theorem isStandbyOk_iff (f : OutFrame) : f.isStandbyOk = true ↔ ∃ a : Answer, f = .reply 0x15#8 a ∧ a.result = .ok := by
  cases f with
  | reply kind a =>
    simp only [OutFrame.isStandbyOk, Bool.and_eq_true, beq_iff_eq, decide_eq_true_eq, OutFrame.reply.injEq]
    exact ⟨fun ⟨hk, ha⟩ => ⟨a, ⟨hk, rfl⟩, ha⟩, fun ⟨_, ⟨hk, he⟩, ha⟩ => ⟨hk, he ▸ ha⟩⟩
  | rejected => simp [OutFrame.isStandbyOk]
  | report => simp [OutFrame.isStandbyOk]

theorem kick_reply {l : Link} {f : OutFrame} {rest : List OutFrame} (hs : l.sending = none) (hr : l.replies = f :: rest) :
    l.kick = { l with sending := some f, replies := rest } := by
  simp only [Link.kick, hs, hr]

theorem kick_report {l : Link} {r : Report} (hs : l.sending = none) (hr : l.replies = []) (hm : l.mode = .push)
    (hh : headReport? l.reports = some r) :
    l.kick = { l with sending := some (.report r), reports := dropHead r l.reports } := by
  simp only [Link.kick, hs, hr, hm, hh]

/-- Nothing is chosen in PULL without a reply, nor where nothing waits. -/
theorem kick_nothing {l : Link} (hs : l.sending = none) (hr : l.replies = []) (h : l.mode = .pull ∨ l.reports = []) :
    l.kick = l := by
  rcases h with hm | hrep
  · simp only [Link.kick, hs, hr, hm]
  · have hhead : headReport? l.reports = none := by simp [hrep, headReport?]
    cases hm : l.mode <;> simp only [Link.kick, hs, hr, hm, hhead]

theorem exec_linkFrameSent_of_sending {s : State} {f : OutFrame} (h : s.link.sending = some f) :
    exec .linkFrameSent s =
      if s.call.standbyPending = true ∧ f.isStandbyOk = true then
        .next (afterStandbyReply { s with link := { s.link with sending := none } })
      else .next { s with link := ({ s.link with sending := none }).kick } := by
  simp only [exec, execLinkFrameSent, h]

/-- Settles O21: STANDBY by its conditions, a frame that has been sent by whether it is the reply that STANDBY waits for, and
the transmitter's choice. -/
theorem standbyAndFramesSent : Obligations.StandbyAndFramesSent := by
  refine ⟨fun s s0 h => ⟨fun hfree => ?_, fun hfree => ?_⟩, fun s hp hs => ⟨fun hok => ?_, fun hok => ?_⟩, fun s f hs hn => ?_,
    isStandbyOk_iff, fun l hs f rest hr => kick_reply hs hr, fun l hs hr hm r hh => kick_report hs hr hm hh,
    fun l hs hr h => kick_nothing hs hr h⟩
  · exact next_accept h rfl (if_pos hfree)
  · exact next_accept h rfl (if_neg (by simpa using hfree))
  · rw [exec_linkFrameSent_of_sending hs, if_pos ⟨hp, (isStandbyOk_iff _).2 ⟨_, rfl, rfl⟩⟩]
    exact congrArg Host.Outcome.next (if_pos hok)
  · rw [exec_linkFrameSent_of_sending hs, if_pos ⟨hp, (isStandbyOk_iff _).2 ⟨_, rfl, rfl⟩⟩]
    exact congrArg Host.Outcome.next (if_neg (by simpa using hok))
  · rw [exec_linkFrameSent_of_sending hs, if_neg ?_]
    rintro ⟨hp, hf⟩
    obtain ⟨a, rfl, ha⟩ := (isStandbyOk_iff f).1 hf
    rcases hn with hn | hn
    · exact absurd (hn.symm.trans hp) (by decide)
    · exact hn a rfl ha

/-! ### Wakes (R158, R159) -/

theorem State.mayWake_iff (s : State) : s.mayWake = true ↔ s.call.state = .standby ∧ s.call.waking = false := by
  simp [State.mayWake]

/-- Settles O22: WAKE_EVENT by its cause and by whether a wake may begin, WAKE_COMPLETE by the ring count. -/
theorem wakeEvents : Obligations.WakeEvents := by
  refine ⟨fun s hst hw => ?_, fun s hno => ?_, fun s hst hw => ?_⟩
  · have hmay : s.mayWake = true := (State.mayWake_iff s).2 ⟨hst, hw⟩
    refine ⟨fun hl => if_pos ⟨hmay, hl⟩, fun hl => if_neg (by simp [hl]), congrArg Host.Outcome.next (if_pos hmay),
      fun sense hs => if_pos ⟨hmay, hs⟩, if_neg (by simp)⟩
  · have hmay : s.mayWake = false := by
      rw [← Bool.not_eq_true, State.mayWake_iff]
      rintro ⟨hst, hw⟩
      rcases hno with h | h
      · exact h hst
      · exact absurd (hw.symm.trans h) (by decide)
    exact ⟨congrArg Host.Outcome.next (if_neg (by simpa [State.mayWake] using hmay)), if_neg (by simp [hmay]),
      fun sense => if_neg (by simp [hmay])⟩
  · rw [show exec .wakeComplete s = execWakeComplete s from rfl, execWakeComplete, if_pos ⟨hst, hw⟩]
    dsimp only
    split
    next hring => exact ⟨_, rfl, rfl, rfl, rfl, rfl, rfl, rfl, rfl, rfl, rfl, rfl, rfl, rfl, rfl, rfl, rfl, rfl, rfl⟩
    next hring => exact ⟨_, rfl, rfl, rfl, rfl, rfl, rfl, rfl, rfl, rfl, rfl, rfl, rfl, rfl, rfl, rfl, rfl, rfl, rfl⟩

end Sys2Proof.Machine
end

section
/-! SUPPORT. The entry to CLEARING (R153), a break that is sent (R48), the answerback's trigger (R45), and the sent point with the
waveform (R39, R41): the statements O16, O23, O24 and O25. -/

namespace Sys2Proof.Machine

/-! ### The directory while nothing is released automatically -/

theorem autoReleaseTest_off {s : State} (n : Nat) (h : s.call.autoRelease = false) : autoReleaseTest n s = s := by
  unfold autoReleaseTest
  split
  next => rfl
  next e _ => exact if_neg (by simp [State.releasable, h])

theorem givenUp_off {s : State} (ns : List Nat) (h : s.call.autoRelease = false) : givenUp ns s = s := by
  induction ns with
  | nil => rfl
  | cons n rest ih => rw [givenUp, autoReleaseTest_off n h, ih]

theorem setRead_dir (r : Reader) (x : Option Read) (st : Store) : (st.setRead r x).dir = st.dir := by cases r <;> rfl

theorem abandon_dir (r : Reader) (st : Store) : (st.abandon r).dir = st.dir := setRead_dir r none st

theorem ask_dir (m : List Host.Cell) (r : Reader) (n p : Nat) (st : Store) : (st.ask m r n p).1.dir = st.dir := by
  unfold Store.ask
  split
  next => rfl
  next =>
    split
    next => rfl
    next => exact setRead_dir ..

/-- The punch's reads leave the directory as it is. -/
theorem punchReads_dir (n : Nat) (s : State) : (punchReads n s).store.dir = s.store.dir := by
  induction n generalizing s with
  | zero => rfl
  | succ n ih =>
    unfold punchReads
    split
    next => rfl
    next =>
      split
      next => exact (ih _).trans (ask_dir ..)
      next => rfl

theorem endPunchJob_dir_off {s : State} (h : s.call.autoRelease = false) : (endPunchJob s).store.dir = s.store.dir := by
  unfold endPunchJob
  split
  next => rfl
  next j rest hchain =>
    dsimp only
    rw [autoReleaseTest_off j.number (by simpa using h)]
    split <;> simp [enterTapeHold]

theorem finishJob_dir_off {s : State} (h : s.call.autoRelease = false) : (finishJob s).store.dir = s.store.dir := by
  unfold finishJob
  split
  next =>
    split
    next =>
      split
      next => exact endPunchJob_dir_off h
      next => rfl
    next => rfl
  next =>
    split
    next => exact endPunchJob_dir_off h
    next => rfl
  next => rfl

theorem punchSettle_dir_off {s : State} (h : s.call.autoRelease = false) : (punchSettle s).store.dir = s.store.dir := by
  have hsettled : (finishJob (punchReads 32 s)).store.dir = s.store.dir := by
    rw [finishJob_dir_off (by simpa using h), punchReads_dir]
  unfold punchSettle
  split
  next => rfl
  next =>
    dsimp only
    split
    next => exact hsettled
    next => exact hsettled

theorem leave_dir (d : Dir) (st : Store) : (st.leave d).dir = st.dir := by
  unfold Store.leave
  split <;> cases d <;> rfl

theorem closeAsm_dir (d : Dir) (st : Store) : (st.closeAsm d).dir = st.dir := by
  unfold Store.closeAsm
  split
  next =>
    split
    next => exact leave_dir d st
    next => cases d <;> rfl
  next => rfl

/-- The entry of a number as a close leaves it (R150, R174). -/
def Entry.closedWith (f : MsgFlags) (e : Entry) : Entry := { e with state := .closed, flags := f, headerDue := true }

theorem closeMessage_dir_off {s : State} (e : Entry) (f : MsgFlags) (h : s.call.autoRelease = false) :
    (closeMessage e f s).store.dir =
      s.store.dir.map fun x => if x.number = e.number then x.closedWith (s.closeFlags e f) else x := by
  unfold closeMessage
  dsimp only
  rw [autoReleaseTest_off _ (by simpa using h)]
  simp only [raise_frame]
  rw [punchSettle_dir_off (by simpa using h)]
  exact closeAsm_dir ..

theorem cancelPlayback_dir_off {s : State} (h : s.call.autoRelease = false) :
    (cancelPlayback s).store.dir = s.store.dir := by
  unfold cancelPlayback
  split
  next =>
    dsimp only
    rw [autoReleaseTest_off _ (by simpa using h)]
    simp [abandon_dir]
  next => rfl

theorem offComparison_dir_off {s : State} (h : s.call.autoRelease = false) : (offComparison s).store.dir = s.store.dir := by
  unfold offComparison compareCursors
  split
  next =>
    dsimp only
    split
    next => rfl
    next => simp [givenUp_off, h]
    next => simp [givenUp_off, h]
  next => rfl

theorem callEnd_dir_off {s : State} (h : s.call.autoRelease = false) : (callEnd s).store.dir = s.store.dir := by
  simp only [callEnd, raise_frame]
  exact offComparison_dir_off h

/-! ### Entry to CLEARING (R153) -/

/-- A playback as its cancelling leaves it (R156). -/
def Play.cancel (p : Play) : Play :=
  if p.state = .running ∨ p.state = .paused then { p with state := .cancelled, buf := [], skipped := [] } else p

theorem Play.cancel_state_of {p : Play} (h : p.state = .running ∨ p.state = .paused) : p.cancel.state = .cancelled := by
  rw [Play.cancel, if_pos h]

theorem Play.cancel_state_of_not {p : Play} (h1 : p.state ≠ .running) (h2 : p.state ≠ .paused) : p.cancel.state = p.state := by
  rw [Play.cancel, if_neg (not_or.2 ⟨h1, h2⟩)]

theorem cancelPlayback_call (s : State) : (cancelPlayback s).call = { s.call with play := s.call.play.cancel } := by
  unfold cancelPlayback
  split
  next h => rw [Play.cancel, if_pos h]; simp
  next h => rw [Play.cancel, if_neg h]

/-- The state that the clearing of a call begins with, its playback cancelled and its incoming message closed (R153). -/
def clearingBegun (cause : Cause) (s : State) : State :=
  closeOpen .in (clearFlags s.clearingVerdict) (cancelPlayback { s with
    call := { s.call with
      state := .clearing, cause := cause, verdict := s.clearingVerdict
      ceilingLeft := (s.agr.moveCeiling s.clearingVerdict).ceiling, lossCount := 0, loopTimer := none, idleTimer := none }
    rx := { s.rx with spaceCount := 0, lossCount := 0 }
    agr := { s.agr.moveCeiling s.clearingVerdict with active := false }
    tx := s.tx.cancelDuty })

theorem enterClearing_of_other {cause : Cause} (s : State) (h : cause ≠ .lineLost) :
    enterClearing cause s =
      { flush .space (clearingBegun cause s) with
        tx := { (flush .space (clearingBegun cause s)).tx with signal := .clr 0 } } := if_neg h

theorem enterClearing_of_lineLost (s : State) :
    enterClearing .lineLost s =
      callEnd { flush .mark (clearingBegun .lineLost s) with
        tx := { (flush .mark (clearingBegun .lineLost s)).tx with signal := .none } } := by
  unfold enterClearing
  exact if_pos rfl

theorem clearingBegun_blocks (cause : Cause) (s : State) :
    (clearingBegun cause s).conv = s.conv ∧ (clearingBegun cause s).rx = { s.rx with spaceCount := 0, lossCount := 0 }
      ∧ (clearingBegun cause s).agr = { s.agr.moveCeiling s.clearingVerdict with active := false }
      ∧ (clearingBegun cause s).tx = s.tx.cancelDuty
      ∧ (clearingBegun cause s).call = { s.call with
        state := .clearing, cause := cause, verdict := s.clearingVerdict
        ceilingLeft := (s.agr.moveCeiling s.clearingVerdict).ceiling, lossCount := 0, loopTimer := none, idleTimer := none
        play := s.call.play.cancel }
      ∧ (clearingBegun cause s).router = s.router ∧ (clearingBegun cause s).kb = s.kb ∧ (clearingBegun cause s).mem = s.mem := by
  simp [clearingBegun, cancelPlayback_call]

theorem clearingBegun_dir_off (cause : Cause) {s : State} (h : s.call.autoRelease = false) {e : Entry}
    (he : s.store.open? .in = some e) :
    ∃ f : MsgFlags, f.endedByClear = true ∧ f.poorLine = (e.flags.poorLine || decide (s.clearingVerdict = .poor))
      ∧ f.complete = e.flags.complete
      ∧ (clearingBegun cause s).store.dir = s.store.dir.map fun x => if x.number = e.number then x.closedWith f else x := by
  unfold clearingBegun
  generalize hs1 : cancelPlayback { s with
    call := { s.call with
      state := .clearing, cause := cause, verdict := s.clearingVerdict
      ceilingLeft := (s.agr.moveCeiling s.clearingVerdict).ceiling, lossCount := 0, loopTimer := none, idleTimer := none }
    rx := { s.rx with spaceCount := 0, lossCount := 0 }
    agr := { s.agr.moveCeiling s.clearingVerdict with active := false }
    tx := s.tx.cancelDuty } = s1
  have hoff : s1.call.autoRelease = false := by rw [← hs1, cancelPlayback_call]; exact h
  have hdir : s1.store.dir = s.store.dir := by rw [← hs1]; exact cancelPlayback_dir_off (by exact h)
  have hopen : s1.store.open? .in = some e := by
    simp only [Store.open?, hdir]
    exact he
  refine ⟨s1.closeFlags e (clearFlags s.clearingVerdict), ?_, ?_, ?_, ?_⟩
  · simp [State.closeFlags, MsgFlags.or, clearFlags]
  · simp [State.closeFlags, MsgFlags.or, clearFlags, MsgFlags.none]
  · simp [State.closeFlags, MsgFlags.or, clearFlags, MsgFlags.none]
  · simp only [closeOpen, hopen]
    rw [closeMessage_dir_off e _ hoff, hdir]

theorem enterClearing_dir_off (cause : Cause) {s : State} (h : s.call.autoRelease = false) :
    (enterClearing cause s).store.dir = (clearingBegun cause s).store.dir := by
  by_cases hc : cause = .lineLost
  · subst hc
    obtain ⟨-, -, -, -, hcall, -⟩ := clearingBegun_blocks .lineLost s
    rw [enterClearing_of_lineLost, callEnd_dir_off]
    · rfl
    · exact (congrArg CallCtl.autoRelease hcall).trans h
  · rw [enterClearing_of_other s hc]
    rfl

/-- The incoming message that is open at the entry to CLEARING, as the entry leaves it (R150). -/
theorem enterClearing_closes (cause : Cause) {s : State} (h : s.call.autoRelease = false) {e : Entry}
    (he : s.store.open? .in = some e) :
    (∀ x ∈ (enterClearing cause s).store.dir, x.number = e.number → x.state ≠ .open)
      ∧ ∃ x ∈ (enterClearing cause s).store.dir, x.number = e.number ∧ x.state = .closed ∧ x.length = e.length
        ∧ x.flags.endedByClear = true
        ∧ x.flags.poorLine = (e.flags.poorLine || decide (s.clearingVerdict = .poor)) ∧ x.flags.complete = e.flags.complete := by
  obtain ⟨f, hended, hpoor, hcomplete, hdir⟩ := clearingBegun_dir_off cause h he
  rw [enterClearing_dir_off cause h, hdir]
  refine ⟨fun x hx hn => ?_, ⟨e.closedWith f, List.mem_map.2 ⟨e, List.mem_of_find?_eq_some he, if_pos rfl⟩, rfl, rfl, rfl, hended,
    hpoor, hcomplete⟩⟩
  obtain ⟨y, _, rfl⟩ := List.mem_map.1 hx
  by_cases hy : y.number = e.number
  · rw [if_pos hy]
    exact fun hopen => MsgState.noConfusion hopen
  · rw [if_neg hy] at hn
    exact absurd hn hy

/-- The ceiling that a verdict leaves (R62). -/
def Agreement.movedCeiling (v : Verdict) (a : Agreement) : Rate :=
  match v with
  | .poor => a.ceiling.down
  | .good => a.cfgMax.lower a.ceiling.up
  | .neutral => a.ceiling

theorem moveCeiling_ceiling (v : Verdict) (a : Agreement) : (a.moveCeiling v).ceiling = a.movedCeiling v := by
  cases v <;> rfl

/-- Settles O16: the entry to CLEARING as the close of the incoming message after the marks of the call, and what that state, the
flush and the end of a lost call leave in each block. -/
theorem entryToClearing : Obligations.EntryToClearing := by
  refine ⟨fun cause s h e he => enterClearing_closes cause h he,
    fun cause s => ⟨enterClearing_of_other s, fun h => by subst h; exact enterClearing_of_lineLost s⟩, fun cause s => ?_⟩
  obtain ⟨hconv, hrx, hagr, htx, hcall, hrouter, hkb, hmem⟩ := clearingBegun_blocks cause s
  have hcancel := Play.cancel_state_of (p := s.call.play)
  have hkeep := Play.cancel_state_of_not (p := s.call.play)
  intro t v
  have hv : s.clearingVerdict = v := rfl
  rw [hv] at hagr hcall
  clear_value v
  by_cases hc : cause = .lineLost
  · subst hc
    have ht : t = _ := enterClearing_of_lineLost s
    rw [ht]
    simp [callEnd, flush, Agreement.takeBack, hconv, hrx, hagr, htx, hcall, hrouter, hkb, hmem, Receiver.toHunt,
      Transmitter.cancelDuty, moveCeiling_ceiling]
    exact ⟨rfl, hcancel, hkeep⟩
  · have ht : t = _ := enterClearing_of_other s hc
    rw [ht]
    simp [flush, Agreement.takeBack, hconv, hrx, hagr, htx, hcall, hrouter, hkb, hmem, Transmitter.cancelDuty, hc,
      moveCeiling_ceiling]
    exact ⟨rfl, hcancel, hkeep⟩

/-! ### Breaks (R48) -/

theorem pausePlayback_of_other {s : State} (h : s.call.play.state ≠ .running) : pausePlayback s = s := if_neg h

theorem pausePlayback_of_running {s : State} (h : s.call.play.state = .running) :
    pausePlayback s = { s with
      call := { s.call with
        play := { s.call.play with state := .paused, readPos := s.sentCursor, buf := [], skipped := [] } }
      store := s.store.abandon .playback } := if_pos h

theorem signalTick_break {s : State} {n : Nat} (h : s.tx.signal = .brk n) :
    signalTick s = if n < 19 then { s with tx := { s.tx with signal := .brk (n + 1) } } else endBreak s := by
  simp only [signalTick, h]
  exact ite_congr (propext (by simp only [Config.breakTicks]; omega)) (fun _ => rfl) fun _ => rfl

/-- Settles O23: SEND-BREAK by the call state and the signal in progress, the break by whether a playback runs. -/
theorem breakSent : Obligations.BreakSent := by
  refine ⟨fun s s0 h => ⟨fun hst => ?_, fun hst hsig => ?_, fun hst hsig => ?_⟩, fun s n hn => ⟨?_, fun h => ?_, fun h => ?_⟩⟩
  · exact next_accept h rfl (if_neg hst)
  · exact next_accept h rfl ((if_pos hst).trans (if_neg hsig))
  · refine ⟨sendBreak (touchStandby s0), next_accept h rfl ((if_pos hst).trans (if_pos hsig)), ?_⟩
    refine ⟨by simp [sendBreak, flush, Transmitter.cancelDuty], by simp [sendBreak, flush], fun hplay => ?_, fun hplay => ?_, ?_⟩
    · simp only [sendBreak]
      rw [pausePlayback_of_other (by exact hplay)]
      exact ⟨rfl, rfl⟩
    · simp only [sendBreak]
      rw [pausePlayback_of_running (by exact hplay)]
      exact ⟨rfl, rfl, rfl, rfl⟩
    · simp [sendBreak, flush]
  · simp only [exec, execBreakSignalEnd, hn]
    rfl
  · rw [signalTick_break hn, if_pos h]
  · rw [signalTick_break hn, if_neg (Nat.not_lt.2 h)]
    rfl

/-! ### The answerback's trigger (R45, R47) -/

theorem CallState.takesTrigger_iff (c : CallState) : c.takesTrigger = true ↔ c = .idle ∨ c = .agreeing ∨ c = .connected := by
  cases c <;> simp [CallState.takesTrigger]

theorem CallState.takesTrigger_of_other {c : CallState} (h1 : c ≠ .idle) (h2 : c ≠ .agreeing) (h3 : c ≠ .connected) :
    c.takesTrigger = false := by
  refine Bool.eq_false_iff.mpr fun h => ?_
  rcases c.takesTrigger_iff.mp h with h | h | h <;> contradiction

theorem triggerAnswerback_of_none {s : State} (hst : s.call.state.takesTrigger = true) (hd : s.tx.duty = .none)
    (ha : s.conv.answerback = []) : triggerAnswerback s = raise .noAnswerback s := by
  rw [triggerAnswerback, if_neg (by simp [hst, hd]), if_pos (by simp [ha])]

theorem triggerAnswerback_of_some {s : State} (hst : s.call.state.takesTrigger = true) (hd : s.tx.duty = .none)
    (ha : s.conv.answerback ≠ []) :
    triggerAnswerback s =
      if s.call.state = .idle then
        let t := takeAnswerback s.conv.answerbackText { s with tx := { s.tx.wantDuty with duty := .sending } }
        { t with tx := t.tx.cancelDuty }
      else { s with tx := s.tx.wantDuty } := by
  rw [triggerAnswerback, if_neg (by simp [hst, hd]), if_neg (by simp [ha])]

/-- Settles O24: SEND-ANSWERBACK and the trigger by the call state, the duty and the string. -/
theorem sendAnswerback : Obligations.SendAnswerback := by
  refine ⟨fun s s0 h => ⟨fun h1 h2 h3 => ?_, fun hst => ⟨fun hd => ?_, fun hd => ?_⟩⟩,
    fun s => ⟨fun hd => if_pos (.inl hd), fun h1 h2 h3 => if_pos (.inr (CallState.takesTrigger_of_other h1 h2 h3)),
      fun hst hd => ⟨fun ha => ?_, fun ha hidle => ?_, fun ha hidle => ?_⟩⟩, fun s => ⟨rfl, fun c rest => rfl⟩⟩
  · exact next_accept h rfl (if_neg (by simp [CallState.takesTrigger_of_other h1 h2 h3]))
  · exact next_accept h rfl ((if_pos ((CallState.takesTrigger_iff _).2 hst)).trans (if_neg hd))
  · exact next_accept h rfl ((if_pos ((CallState.takesTrigger_iff _).2 hst)).trans (if_pos hd))
  · exact triggerAnswerback_of_none ((CallState.takesTrigger_iff _).2 hst) hd ha
  · rw [triggerAnswerback_of_some ((CallState.takesTrigger_iff _).2 hst) hd ha, if_neg hidle]
    rfl
  · rw [triggerAnswerback_of_some ((CallState.takesTrigger_iff _).2 hst) hd ha, if_pos hidle]
    rfl

/-! ### The sent point and the end of the stop (R40, R41) -/

theorem touchIdleClear_eq (s : State) :
    touchIdleClear s = { s with call :=
      if s.call.state = .connected then { s.call with idleTimer := timerOf s.call.idleClear } else s.call } := by
  unfold touchIdleClear
  split <;> rfl

theorem exec_sentPoint {s : State} {f : Front} (h : s.tx.front = some f) (hs : f.sent = false) :
    exec .sentPoint s = .next (sentNotice f.slot { s with
      tx := { s.tx with front := some { f with sent := true, cycles := 192 * sampleCycles f.rate }, txd := .mark }
      call := if s.call.state = .connected then { s.call with idleTimer := timerOf s.call.idleClear } else s.call }) := by
  simp only [exec, execSentPoint, h, hs, touchIdleClear_eq]
  rfl

theorem sentNotice_offer {x : Slot} {s : State} (hx : x.source = .offer) :
    sentNotice x s =
      if x.kind = .offerCode 3 true ∧ s.agr.active = true then
        makeSwitches { s with agr := { s.agr with sent := s.agr.sent + 1 } }
      else s := by
  unfold sentNotice
  rw [hx]
  split
  next hk => simp [hk]
  next => simp_all
  next => simp_all
  next hne _ _ => rw [if_neg fun hc => hne rfl hc.1]

theorem sentNotice_answerback {x : Slot} {s : State} (hx : x.source = .answerback) (hk : x.kind = .char) :
    sentNotice x s = if s.tx.duty = .none then s else countAnswerback (s.tx.counted + 1) s := by
  unfold sentNotice
  rw [hx, hk]

theorem sentNotice_playback {x : Slot} {s : State} (hx : x.source = .playback) (hk : x.kind = .char) :
    sentNotice x s =
      if s.call.play.state = .running ∧ s.call.play.run = x.run then advanceSent (x.index + 1) s else s := by
  unfold sentNotice
  rw [hx, hk]

/-- A holding source and a shift code have no notice. -/
theorem sentNotice_silent {x : Slot} {s : State} (h : x.source = .keyboard ∨ x.source = .linkText ∨ x.kind = .shift) :
    sentNotice x s = s := by
  unfold sentNotice
  split <;> simp_all

/-- FRONT takes what stands in NEXT, and NEXT what is held (R40, R42). -/
theorem settleSlots_of_next {s : State} {x : Slot} (hf : s.tx.front = none) (hn : s.tx.next = some x) :
    settleSlots s = { s with
      tx := { s.tx with front := some ⟨x, false, s.tx.rate, s.tx.stopLength, 0⟩, next := s.conv.held, txd := .space }
      conv := { s.conv with held := none } } := by
  cases hh : s.conv.held with
  | none =>
    have hconv : s.conv = { s.conv with held := none } := by rw [← hh]
    simp only [settleSlots, Transmitter.moveUp, hf, hn, hh]
    rw [← hconv]
  | some y => simp only [settleSlots, Transmitter.moveUp, hf, hn, hh]

theorem settleSlots_of_held {s : State} {x : Slot} (hf : s.tx.front = none) (hn : s.tx.next = none)
    (hh : s.conv.held = some x) :
    settleSlots s = { s with
      tx := { s.tx with front := some ⟨x, false, s.tx.rate, s.tx.stopLength, 0⟩, txd := .space }
      conv := { s.conv with held := none } } := by
  simp only [settleSlots, Transmitter.moveUp, hf, hn, hh]

theorem settleSlots_of_none {s : State} (hf : s.tx.front = none) (hn : s.tx.next = none) (hh : s.conv.held = none) :
    settleSlots s = s := by
  simp only [settleSlots, Transmitter.moveUp, hf, hn, hh]

theorem exec_frontStopEnd {s : State} {f : Front} (h : s.tx.front = some f) (hs : f.sent = true) :
    exec .frontStopEnd s = .next (settleSlots { s with tx := { s.tx with front := none } }) := by
  simp only [exec, execFrontStopEnd, h, hs, if_true]

/-! ### The waveform (R39) -/

theorem Front.level_start (f : Front) {n : Nat} (h : n < 32) : f.level n = .space := by
  have h0 : n / 32 = 0 := by omega
  simp only [Front.level, h0]

theorem Front.level_stop (f : Front) {n : Nat} (h : 192 ≤ n) : f.level n = .mark := by
  obtain ⟨k, hk⟩ : ∃ k, n / 32 = k + 1 := ⟨n / 32 - 1, by omega⟩
  simp only [Front.level, hk]
  exact if_neg (by omega)

theorem Front.level_unit (f : Front) {k n : Nat} (h1 : 1 ≤ k) (h5 : k ≤ 5) (hlo : 32 * k ≤ n) (hhi : n < 32 * (k + 1)) :
    f.level n = if f.slot.code.getLsbD (k - 1) then .mark else .space := by
  obtain ⟨j, rfl⟩ : ∃ j, k = j + 1 := ⟨k - 1, by omega⟩
  have hk : n / 32 = j + 1 := by omega
  simp only [Front.level, hk]
  exact if_pos (by omega)

theorem advance_of_front {t : Transmitter} {f : Front} (h : t.front = some f) :
    t.advance =
      { t with
        front := some { f with cycles := min f.lastCycle (min f.nextUnit (f.cycles + Config.tickCycles)) }
        txd := f.level (min f.lastCycle (min f.nextUnit (f.cycles + Config.tickCycles)) / sampleCycles f.rate) } := by
  simp only [Transmitter.advance, h]
  rfl

/-! ### Counts that pass unsendable characters (R46, R50) -/

theorem passOver_range (l : List Nat) (fuel v : Nat) :
    v ≤ passOver l fuel v ∧ (∀ i, v ≤ i → i < passOver l fuel v → i ∈ l)
      ∧ (passOver l fuel v ∉ l ∨ passOver l fuel v = v + fuel) := by
  induction fuel generalizing v with
  | zero => exact ⟨Nat.le_refl _, fun i h1 h2 => absurd h2 (Nat.not_lt.2 h1), .inr rfl⟩
  | succ fuel ih =>
    unfold passOver
    split
    next hv =>
      obtain ⟨hle, hmem, hend⟩ := ih (v + 1)
      refine ⟨by omega, fun i h1 h2 => ?_, hend.imp id fun h => by omega⟩
      rcases Nat.eq_or_lt_of_le h1 with rfl | h1
      · exact List.contains_iff_mem.1 hv
      · exact hmem i h1 h2
    next hv => exact ⟨Nat.le_refl _, fun i h1 h2 => absurd h2 (Nat.not_lt.2 h1), .inl fun hm => hv (List.contains_iff_mem.2 hm)⟩

/-- As many tries as the list has members suffice: a list has no more members than its length. -/
theorem passOver_not_mem (l : List Nat) (v : Nat) : passOver l l.length v ∉ l := by
  obtain ⟨_, hmem, hend⟩ := passOver_range l l.length v
  rcases hend with h | h
  · exact h
  · intro hin
    have hsub : List.range' v (l.length + 1) ⊆ l := fun i hi => by
      rw [List.mem_range'_1] at hi
      rcases Nat.lt_or_ge i (passOver l l.length v) with hlt | hge
      · exact hmem i hi.1 hlt
      · rwa [show i = passOver l l.length v by omega]
    have hlen := List.Nodup.length_le_of_subset (List.nodup_range' 1) hsub
    rw [List.length_range'] at hlen
    omega

theorem passOver_spec (l : List Nat) (v : Nat) :
    v ≤ passOver l l.length v ∧ (∀ i, v ≤ i → i < passOver l l.length v → i ∈ l) ∧ passOver l l.length v ∉ l :=
  ⟨(passOver_range l l.length v).1, (passOver_range l l.length v).2.1, passOver_not_mem l v⟩

/-- The answerback text has four characters more than the string (R12). -/
theorem answerbackText_length (cv : Converter) : cv.answerbackText.length = cv.answerback.length + 4 := by
  simp [Converter.answerbackText]

/-- Settles O25: the sent point by the source of its entry, the end of the stop by what waits in NEXT and held, the waveform by
the unit of a sample, and the two counts by what they pass. -/
theorem sentPointAndStop : Obligations.SentPointAndStop := by
  refine ⟨fun s f hf hs => ⟨fun hx hk ha => ?_, fun hx hno => ?_, fun hx hk hd => ?_, fun hx hk hp hr => ?_, fun hx => ?_⟩,
    fun s f hf hs => ⟨fun x hn => ?_, fun x hn hh => ?_, fun hn hh => ?_⟩,
    ⟨⟨rfl, rfl, rfl, rfl, rfl, rfl⟩, ⟨rfl, rfl, rfl⟩, fun f => ⟨fun n => f.level_start, fun n => f.level_stop,
      fun k n => f.level_unit⟩, fun t => advance_idle, fun t f => advance_of_front⟩,
    fun s v => ⟨⟨_, (passOver_spec _ v).1, (passOver_spec _ v).2.1, (passOver_spec _ v).2.2, fun hlt => ?_, fun hge => ?_⟩,
      fun h => if_pos h, fun h => if_neg h⟩,
    fun s v => ⟨⟨_, (passOver_spec _ v).1, (passOver_spec _ v).2.1, (passOver_spec _ v).2.2, fun hlt => ?_, fun hge => ?_⟩,
      fun h => if_pos h, fun h => if_neg h⟩⟩
  · rw [exec_sentPoint hf hs, sentNotice_offer hx, if_pos ⟨hk, ha⟩]
  · rw [exec_sentPoint hf hs, sentNotice_offer hx, if_neg ?_]
    rintro ⟨hk, ha⟩
    rcases hno with h | h
    · exact h hk
    · exact absurd (h.symm.trans ha) (by decide)
  · rw [exec_sentPoint hf hs, sentNotice_answerback hx hk, if_neg hd]
  · rw [exec_sentPoint hf hs, sentNotice_playback hx hk, if_pos ?_]
    split <;> exact ⟨hp, hr⟩
  · rw [exec_sentPoint hf hs, sentNotice_silent hx]
  · refine (exec_frontStopEnd hf hs).trans (congrArg Host.Outcome.next (settleSlots_of_next ?_ ?_))
    · exact rfl
    · exact hn
  · refine (exec_frontStopEnd hf hs).trans (congrArg Host.Outcome.next (settleSlots_of_held ?_ ?_ ?_))
    · exact rfl
    · exact hn
    · exact hh
  · refine (exec_frontStopEnd hf hs).trans (congrArg Host.Outcome.next (settleSlots_of_none ?_ ?_ ?_))
    · exact rfl
    · exact hn
    · exact hh
  · exact if_neg (Nat.not_le.2 hlt)
  · exact if_pos hge
  · rw [countAnswerback, if_neg (by rw [answerbackText_length]; omega)]
  · rw [countAnswerback, if_pos (by rw [answerbackText_length]; omega)]
    rfl

end Sys2Proof.Machine
end


section
/-! SUPPORT. The arbiter's choices, and statement O26. -/

namespace Sys2Proof.Machine

/-! ### The ranks of the arbiter (R42, R46, R50, R71) -/

theorem settleSlots_of_front {s : State} {f : Front} (x : Slot) (hf : s.tx.front = some f) (hn : s.tx.next = none)
    (hh : s.conv.held = some x) :
    settleSlots s = { s with tx := { s.tx with next := some x }, conv := { s.conv with held := none } } := by
  simp only [settleSlots, Transmitter.moveUp, hf, hn, hh]

/-- The conditions under which the arbiter chooses at all (R42, R43). -/
theorem chooseNext_shut {s : State} (h : s.tx.next.isSome = true ∨ s.txOpen = false) : chooseNext s = (s, false) := if_pos h

theorem chooseNext_held {s : State} {x : Slot} (hn : s.tx.next = none) (ho : s.txOpen = true) (hh : s.conv.held = some x) :
    chooseNext s = (settleSlots s, false) := by
  simp only [chooseNext, hn, ho, hh, Option.isSome, Bool.false_eq_true, Bool.true_eq_false, or_false, if_false, if_true]

theorem chooseNext_agreeing {s : State} (hn : s.tx.next = none) (ho : s.txOpen = true) (hh : s.conv.held = none)
    (hst : s.call.state = .agreeing) : chooseNext s = (if s.agr.offers then fillOffer s else s, false) := by
  simp only [chooseNext, hn, ho, hh, hst, Option.isSome, Bool.false_eq_true, Bool.true_eq_false, or_false, if_false, if_true]

theorem chooseNext_connected {s : State} (hn : s.tx.next = none) (ho : s.txOpen = true) (hh : s.conv.held = none)
    (hst : s.call.state = .connected) : chooseNext s = fillText s := by
  simp only [chooseNext, hn, ho, hh, hst, Option.isSome, Bool.false_eq_true, Bool.true_eq_false, or_false, if_false,
    reduceCtorEq]

theorem exec_arbiterFill_of_done {s t : State} (h : chooseNext s = (t, false)) : exec .arbiterFill s = .next t := by
  show Host.Outcome.next (refill (255 + 1) s) = _
  rw [refill_stop 255 (by rw [h]), h]

theorem fillText_duty {s : State} {c : StationCode} (hd : s.tx.duty ≠ .none)
    (hc : s.conv.answerbackText[s.tx.given]? = some c) : fillText s = fillAnswerback c s := by
  simp only [fillText, hc, hd, if_false]

theorem fillText_waiting {s : State} (h : s.tx.duty = .none ∨ s.conv.answerbackText.length ≤ s.tx.given) :
    fillText s = fillWaiting s := by
  unfold fillText
  cases hc : s.conv.answerbackText[s.tx.given]? with
  | none => rfl
  | some c =>
    have hlt : s.tx.given < s.conv.answerbackText.length := (List.getElem?_eq_some_iff.mp hc).1
    exact if_pos (h.resolve_right (by omega))

theorem fillWaiting_play {s : State} {c : StationCode} {rest : List StationCode} (hb : s.call.play.buf = c :: rest)
    (hr : s.call.play.state = .running) : fillWaiting s = fillPlayback c rest s := by
  simp only [fillWaiting, hb, hr, if_true]

theorem fillWaiting_holding {s : State} (h : s.call.play.state ≠ .running ∨ s.call.play.buf = []) :
    fillWaiting s = fillHolding s := by
  unfold fillWaiting
  cases hb : s.call.play.buf with
  | nil => rfl
  | cons c rest => exact if_neg (h.resolve_right (by simp [hb]))

theorem fillHolding_keys {s : State} {c : StationCode} {rest : List StationCode} (hb : s.kb.buffer = c :: rest)
    (hr : s.lineReady .keyboard = true) :
    fillHolding s = winTake .keyboard .keyboard 0 0 c id { s with kb := { s.kb with buffer := rest } } := by
  simp only [fillHolding, hb, hr, if_true, dropKey, List.tail_cons]

theorem fillHolding_link {s : State} (h : s.kb.buffer = [] ∨ s.lineReady .keyboard = false) :
    fillHolding s = fillLinkText s := by
  unfold fillHolding
  cases hb : s.kb.buffer with
  | nil => rfl
  | cons c rest => exact if_neg (by simp [h.resolve_left (by simp [hb])])

theorem fillLinkText_take {s : State} {c : StationCode} {rest : List StationCode} (hb : s.router.linkText = c :: rest)
    (hr : s.lineReady .linkText = true) :
    fillLinkText s = winTake .linkText .linkText 0 0 c id { s with router := { s.router with linkText := rest } } := by
  simp only [fillLinkText, hb, hr, if_true, dropLinkText, List.tail_cons]

theorem fillLinkText_none {s : State} (h : s.router.linkText = [] ∨ s.lineReady .linkText = false) :
    fillLinkText s = (s, false) := by
  unfold fillLinkText
  cases hb : s.router.linkText with
  | nil => rfl
  | cons c rest => exact if_neg (by simp [h.resolve_left (by simp [hb])])

/-! ### The codes of an offer (R55) -/

/-- The bits of M1: one for each rate of the local mask (R54, R55). -/
theorem Agreement.m1_bits (a : Agreement) : ∀ i, i < 5 → a.m1.getLsbD i = decide (i < a.localTop.index) := by
  unfold Agreement.m1
  cases a.localTop <;> decide

theorem Agreement.m2_bits (a : Agreement) : a.m2.getLsbD 0 = a.partnerMask.isSome ∧ a.m2.getLsbD 1 = a.localQuality
    ∧ a.m2.toNat < 4 := by
  unfold Agreement.m2
  cases a.partnerMask.isSome <;> cases a.localQuality <;> decide

/-! ### A winner on LINE-OUT (R8, R9, R42) -/

theorem winTake_unsendable {src : Source} {c : StationCode} {s : State}
    (sl : SlotSource) (i n : Nat) (f : State → State)
    (h : (takeAt src (s.row src) c s).1.conv.encode (takeAt src (s.row src) c s).1.conv.txPlane c = none) :
    winTake src sl i n c f s =
      (storeFullAct (takeAt src (s.row src) c s).2 (f (raise (.unsendable c) (takeAt src (s.row src) c s).1)), true) := by
  simp only [winTake, lineOut, h, Bool.false_eq_true, if_false, Bool.not_false]

/-- Settles O26: the arbiter's branches, by the order of its conditions. -/
theorem arbiterFill : Obligations.ArbiterFill := by
  unfold Obligations.ArbiterFill
  refine ⟨?shut, ?held, ?agreeing, ?give, ?refills, ?connected, ?wins⟩
  case shut => exact fun s h => exec_arbiterFill_of_done (chooseNext_shut h)
  case held =>
    intro s x hn ho hh
    refine ⟨fun hf => ?_, fun hf => ?_⟩
    · obtain ⟨f, hf⟩ := Option.isSome_iff_exists.mp hf
      rw [exec_arbiterFill_of_done (chooseNext_held hn ho hh), settleSlots_of_front x hf hn hh]
    · rw [exec_arbiterFill_of_done (chooseNext_held hn ho hh), settleSlots_of_held hf hn hh]
  case agreeing =>
    intro s hn ho hh hst
    refine ⟨fun ha hf => ?_, fun h => ?_⟩
    · have hoff : s.agr.offers = true := by simp [Agreement.offers, ha, hf]
      exact exec_arbiterFill_of_done ((chooseNext_agreeing hn ho hh hst).trans (by rw [hoff]; rfl))
    · have hoff : s.agr.offers = false := by
        simp only [Agreement.offers, Bool.and_eq_false_iff, decide_eq_false_iff_not]
        exact h.imp_right (by omega)
      exact exec_arbiterFill_of_done ((chooseNext_agreeing hn ho hh hst).trans (by rw [hoff]; rfl))
  case give =>
    intro a
    refine ⟨fun h => ?_, fun h => ?_, fun h => ?_, fun h => ?_⟩ <;> simp only [Agreement.give, h]
    · exact ⟨trivial, trivial⟩
    · exact ⟨trivial, trivial⟩
    · exact ⟨a.m1_bits, trivial⟩
    · obtain ⟨hack, hquality, hlt⟩ := a.m2_bits
      exact ⟨hack, hquality, hlt, trivial⟩
  case refills => exact fun s n => ⟨rfl, rfl, refill_stop n, refill_again n⟩
  case connected =>
    intro s hn ho hh hst text duty play keys link
    have hchoose : chooseNext s = fillText s := chooseNext_connected hn ho hh hst
    have hoffDuty (h : duty = false) : fillText s = fillWaiting s := by
      refine fillText_waiting ?_
      simp only [duty, Bool.and_eq_false_iff, decide_eq_false_iff_not, ne_eq, Classical.not_not, Nat.not_lt] at h
      exact h
    have hoffPlay (h : play = false) : fillWaiting s = fillHolding s := by
      refine fillWaiting_holding ?_
      simp only [play, Bool.and_eq_false_iff, decide_eq_false_iff_not, Bool.not_eq_false', List.isEmpty_iff] at h
      exact h
    have hoffKeys (h : keys = false) : fillHolding s = fillLinkText s := by
      refine fillHolding_link ?_
      simp only [keys, Bool.and_assoc, Bool.and_eq_false_iff, Bool.not_eq_false', List.isEmpty_iff] at h
      simpa only [State.lineReady, Bool.and_eq_false_iff] using h
    have hoffLink (h : link = false) : fillLinkText s = (s, false) := by
      refine fillLinkText_none ?_
      simp only [link, Bool.and_assoc, Bool.and_eq_false_iff, Bool.not_eq_false', List.isEmpty_iff] at h
      simpa only [State.lineReady, Bool.and_eq_false_iff] using h
    refine ⟨fun c hd hc => ?_, fun c rest hd hp hb => ?_, fun c rest hd hp hk hb => ?_, fun c rest hd hp hk hl hb => ?_,
      fun hd hp hk hl => ?_⟩
    · have hduty : s.tx.duty ≠ .none := by
        simp only [duty, Bool.and_eq_true, decide_eq_true_eq] at hd
        exact hd.1
      rw [hchoose, fillText_duty hduty hc]
      rfl
    · have hrun : s.call.play.state = .running := by
        simp only [play, Bool.and_eq_true, decide_eq_true_eq] at hp
        exact hp.1
      rw [hchoose, hoffDuty hd, fillWaiting_play hb hrun]
      rfl
    · have hready : s.lineReady .keyboard = true := by
        simp only [keys, Bool.and_eq_true] at hk
        simp only [State.lineReady, hk, Bool.and_true]
      rw [hchoose, hoffDuty hd, hoffPlay hp, fillHolding_keys hb hready]
    · have hready : s.lineReady .linkText = true := by
        simp only [link, Bool.and_eq_true] at hl
        simp only [State.lineReady, hl, Bool.and_true]
      rw [hchoose, hoffDuty hd, hoffPlay hp, hoffKeys hk, fillLinkText_take hb hready]
    · refine exec_arbiterFill_of_done ?_
      rw [hchoose, hoffDuty hd, hoffPlay hp, hoffKeys hk, hoffLink hl]
  case wins =>
    intro src sl i n c f s r
    refine ⟨winTake_unsendable sl i n f, fun e he hs => ?_, fun e sh he hs => ?_⟩
    · have he' : (takeAt src (s.row src) c s).1.conv.encode (takeAt src (s.row src) c s).1.conv.txPlane c = some e := he
      simp only [winTake, lineOut, he', hs, if_true, Bool.not_true]
      rfl
    · have he' : (takeAt src (s.row src) c s).1.conv.encode (takeAt src (s.row src) c s).1.conv.txPlane c = some e := he
      simp only [winTake, lineOut, he', hs, if_true, Bool.not_true]
      rfl

end Sys2Proof.Machine
end


section
/-! SUPPORT. Rate agreement: the agreed rate, the judgment of an offer, and statement O27. -/

namespace Sys2Proof.Machine

/-! ### The agreed rate (R57) -/

theorem Rate.ofIndex?_index (r : Rate) : Rate.ofIndex? r.index = some r := by cases r <;> rfl

theorem Rate.index_le (r : Rate) : r.index ≤ 5 := by cases r <;> decide

theorem Rate.eq_r50_of_index {r : Rate} (h : r.index = 0) : r = .r50 := by
  cases r <;> first | rfl | exact absurd h (by decide)

theorem Rate.exists_index {i : Nat} (h : i ≤ 5) : ∃ r : Rate, r.index = i := by
  have hall : ∀ j : Fin 6, ∃ r, Rate.ofIndex? j = some r ∧ r.index = j := by decide +revert
  obtain ⟨r, _, hr⟩ := hall ⟨i, by omega⟩
  exact ⟨r, hr⟩

/-- A rate above 50 units/s is in both masks (R54, R57). -/
def Agreement.both (a : Agreement) (m : RawCode) (i : Nat) : Bool := decide (i ≤ a.localTop.index) && m.getLsbD (i - 1)

theorem Agreement.both_iff (a : Agreement) (m : RawCode) (i : Nat) :
    a.both m i = true ↔ i ≤ a.localTop.index ∧ m.getLsbD (i - 1) = true := by simp [Agreement.both]

/-- The first hit in a descending list is the greatest of the hits. -/
theorem find?_descending {p : Nat → Bool} {l : List Nat} (hl : l.Pairwise (· > ·)) {i : Nat} (h : l.find? p = some i) :
    ∀ j ∈ l, p j = true → j ≤ i := by
  obtain ⟨-, before, after, rfl, hbefore⟩ := List.find?_eq_some_iff_append.mp h
  intro j hj hp
  obtain ⟨-, htail, -⟩ := List.pairwise_append.mp hl
  rcases List.mem_append.mp hj with hj | hj
  · exact absurd hp (by simpa using hbefore j hj)
  rcases List.mem_cons.mp hj with rfl | hj
  · exact Nat.le_refl _
  · exact Nat.le_of_lt (List.rel_of_pairwise_cons htail hj)

theorem mem_ranks_iff (i : Nat) : i ∈ [5, 4, 3, 2, 1] ↔ 1 ≤ i ∧ i ≤ 5 := by
  simp only [List.mem_cons, List.not_mem_nil, or_false]
  omega

/-- The agreed rate is in both masks and no rate of both is higher (R57). -/
theorem Agreement.agreedRate_spec {a : Agreement} {m : RawCode} (hm : a.partnerMask = some m) :
    (a.agreedRate = .r50 ∨ 1 ≤ a.agreedRate.index ∧ a.both m a.agreedRate.index = true)
      ∧ ∀ j, 1 ≤ j → j ≤ 5 → a.both m j = true → j ≤ a.agreedRate.index := by
  have hrate : a.agreedRate = (([5, 4, 3, 2, 1].find? (a.both m)).bind Rate.ofIndex?).getD .r50 := by
    simp only [Agreement.agreedRate, hm]
    rfl
  cases hf : [5, 4, 3, 2, 1].find? (a.both m) with
  | none =>
    rw [hrate, hf]
    refine ⟨Or.inl rfl, fun j h1 h5 hj => ?_⟩
    exact absurd hj (List.find?_eq_none.mp hf j ((mem_ranks_iff j).mpr ⟨h1, h5⟩))
  | some i =>
    obtain ⟨h1, h5⟩ := (mem_ranks_iff i).mp (List.mem_of_find?_eq_some hf)
    obtain ⟨r, rfl⟩ := Rate.exists_index h5
    rw [hrate, hf, Option.bind_some, Rate.ofIndex?_index, Option.getD_some]
    refine ⟨Or.inr ⟨h1, List.find?_some hf⟩, fun j hj1 hj5 hj => ?_⟩
    exact find?_descending (by decide) hf j ((mem_ranks_iff j).mpr ⟨hj1, hj5⟩) hj

/-! ### The judgment of an offer (R57) -/

/-- The spare bits of M2 are space exactly when its value is below 4. -/
theorem spareBits_iff : ∀ m2 : RawCode, (m2.getLsbD 2 || m2.getLsbD 3 || m2.getLsbD 4) = decide (4 ≤ m2.toNat) := by decide

theorem Agreement.judge_inconsistent {a : Agreement} (m1 : RawCode) {m2 : RawCode} (h : 4 ≤ m2.toNat) :
    a.judge m1 m2 = { a with
      parser := .first, offerSeen := true, keptM1 := if a.partnerMask.isSome then a.keptM1 else none } := by
  unfold Agreement.judge
  rw [spareBits_iff, decide_eq_true h]
  rfl

theorem Agreement.judge_complete {a : Agreement} (m1 : RawCode) {m2 : RawCode} (h : m2.toNat < 4) :
    a.judge m1 m2 =
      let a1 : Agreement := { a with parser := .first, offerSeen := true, partnerQuality := some (m2.getLsbD 1) }
      match a.partnerMask with
      | some m => if m = m1 then { a1 with rcvd := a.rcvd + bit (m2.getLsbD 0) } else a1
      | none =>
        if a.keptM1 = some m1 then { a1 with partnerMask := some m1, rcvd := a.rcvd + bit (m2.getLsbD 0) }
        else { a1 with keptM1 := some m1 } := by
  unfold Agreement.judge
  rw [spareBits_iff, decide_eq_false (by omega)]
  rfl

/-! ### The fallbacks and the parser (R56, R60) -/

theorem fallBack_fault (s : State) : fallBack .fault s = callConnected .r50 .fault none (raise .agreementFault { s with
    tx := { s.tx with rate := .r50 }, latches := { s.latches with agreementFault := true } }) := rfl

theorem fallBack_plain (s : State) :
    fallBack .plain s = callConnected .r50 .plain none { s with tx := { s.tx with rate := .r50 } } := rfl

theorem misfit_before {s : State} (h : s.agr.offerSeen = false) : misfit s = (fallBack .plain s, true) := by
  simp only [misfit, h, Bool.false_eq_true, if_false]

theorem misfit_after {s : State} (h : s.agr.offerSeen = true) :
    misfit s = ({ s with agr := s.agr.inconsistent }, false) := by
  simp only [misfit, h, if_true]

/-- Settles O27: the timers and the parser by their branches, the agreed rate by `Agreement.agreedRate_spec`. -/
theorem agreementTimers : Obligations.AgreementTimers := by
  unfold Obligations.AgreementTimers
  refine ⟨?short, ?long, ?enter, ?tick, ?parser, ?judged, ?rate, ?switches⟩
  case short =>
    intro s hst hseen ht
    exact if_pos ⟨hst, hseen, ht⟩
  case long =>
    intro s hst hrx
    exact if_pos ⟨hst, hrx⟩
  case enter =>
    intro r o q s s1
    have htx : s1.tx = s.tx := by simp [s1]
    rw [← htx]
    rfl
  case tick =>
    intro s s1
    refine ⟨fun ht hseen => ?_, fun ht hrx => ?_, fun h1 h2 => ?_, fallBack_plain s, fallBack_fault s⟩
    · exact if_pos ⟨by simp only [ht]; rfl, hseen⟩
    · have hlate : ¬(s.agr.timer + 1 = Config.agreementShortTicks ∧ s.agr.offerSeen = false) := by
        rw [ht]; exact fun h => absurd h.1 (by decide)
      exact (if_neg hlate).trans (if_pos ⟨by simp only [ht]; rfl, hrx⟩)
    · have hshort : ¬(s.agr.timer + 1 = Config.agreementShortTicks ∧ s.agr.offerSeen = false) := by
        simp only [Config.agreementShortTicks]
        rintro ⟨ht, hf⟩
        exact h1.elim (fun h => h (by omega)) (fun h => by simp [hf] at h)
      have hlong : ¬(s.agr.timer + 1 = Config.agreementLongTicks ∧ s.agr.rxSwitched = false) := by
        simp only [Config.agreementLongTicks]
        rintro ⟨ht, hf⟩
        exact h2.elim (fun h => h (by omega)) (fun h => by simp [hf] at h)
      exact (if_neg hshort).trans (if_neg hlong)
  case parser =>
    intro s
    refine ⟨misfit_before, misfit_after, rfl, fun r => ⟨fun h => ?_, fun h => ?_, fun h => ?_, fun m1 h => ?_⟩⟩ <;>
      simp only [agreementTake, h]
  case judged =>
    intro a m1 m2 a1 a2 count
    refine ⟨Agreement.judge_inconsistent m1, fun hlt => ⟨fun m hm => ?_, fun hn hk => ?_, fun hn hk => ?_⟩⟩
    · exact (Agreement.judge_complete m1 hlt).trans (by simp only [a2, a1, hm]; rfl)
    · exact (Agreement.judge_complete m1 hlt).trans (by simp only [a2, a1, hn, hk, if_true]; rfl)
    · exact (Agreement.judge_complete m1 hlt).trans (by simp only [a2, a1, hn, hk, if_false])
  case rate =>
    intro a
    refine ⟨fun h => by simp only [Agreement.agreedRate, h], fun m hm => ?_⟩
    obtain ⟨hin, hmax⟩ := Agreement.agreedRate_spec hm
    refine ⟨?_, hin.imp_right fun h => ((a.both_iff m _).mp h.2).2, fun r hr hbit => ?_⟩
    · rcases hin with h | ⟨-, h⟩
      · rw [h]; exact Nat.zero_le _
      · exact ((a.both_iff m _).mp h).1
    · rcases hbit with rfl | hbit
      · exact Nat.zero_le _
      rcases Nat.eq_zero_or_pos r.index with h0 | hpos
      · rw [h0]; exact Nat.zero_le _
      · exact hmax r.index hpos (Rate.index_le r) ((a.both_iff m _).mpr ⟨hr, hbit⟩)
  case switches =>
    intro s tx rx t
    have hends : makeSwitches s = endIfSwitched t := rfl
    refine ⟨fun htx hrx => ?_, fun h => ?_⟩
    · exact hends.trans (if_pos ⟨htx, hrx⟩)
    · refine hends.trans (if_neg ?_)
      rintro ⟨htx, hrx⟩
      rcases h with h | h
      · exact absurd htx (by rw [h]; decide)
      · exact absurd hrx (by rw [h]; decide)

end Sys2Proof.Machine
end


section
/-! SUPPORT. Filtered transitions and the start check, and statement O28. -/

namespace Sys2Proof.Machine

/-! ### Filtered transitions (R17 to R20, R24) -/

/-- Reading the raw level of a filtered level under the same sense gives the filtered level back (R17). -/
theorem Sense.read_raw (se : Sense) (l : Level) : se.read (if se = .normal then l else l.flip) = l := by
  cases se <;> cases l <;> rfl

/-- The nearest boundary of a date is a multiple of 32 (R24). -/
theorem displacement_eq (n : Nat) :
    displacement n = (32 * ((n + 16) / 32), (n : Int) - (32 * ((n + 16) / 32) : Nat)) := by
  unfold displacement
  split
  next h =>
    have hq : (n + 16) / 32 = n / 32 := by omega
    rw [hq]
    exact Prod.ext rfl (by dsimp only; omega)
  next h =>
    have hq : (n + 16) / 32 = n / 32 + 1 := by omega
    rw [hq]
    exact Prod.ext rfl (by dsimp only; omega)

theorem noneOf_iff_allNot (m : List (Nat × Int)) (b : Nat) :
    m.any (fun x => x.1 == b) = false ↔ m.all (fun x => x.1 != b) = true := by
  rw [List.any_eq_false, List.all_eq_true]
  exact forall₂_congr fun x _ => by simp

theorem Receiver.measure_eq (r : Receiver) (date : Nat) : r.measure date = { r with
    measured :=
      if (date : Int) < 208 + r.sc ∧ 17 ≤ date ∧ r.measured.length < 6
          ∧ r.measured.all (fun x => x.1 != 32 * ((date + 16) / 32)) = true then
        r.measured ++ [(32 * ((date + 16) / 32), (date : Int) - (32 * ((date + 16) / 32) : Nat))]
      else r.measured } := by
  unfold Receiver.measure Receiver.stopSample
  rw [displacement_eq]
  dsimp only
  simp only [noneOf_iff_allNot]
  by_cases h : (date : Int) < 208 + r.sc ∧ 17 ≤ date ∧ r.measured.length < 6
      ∧ r.measured.all (fun x => x.1 != 32 * ((date + 16) / 32)) = true
  · obtain ⟨hlate, hearly, hfew, hnew⟩ := h
    rw [if_pos ⟨hearly, hlate, hfew, hnew⟩, if_pos ⟨hlate, hearly, hfew, hnew⟩]
  · rw [if_neg h, if_neg fun ⟨hearly, hlate, hfew, hnew⟩ => h ⟨hlate, hearly, hfew, hnew⟩]

theorem Receiver.setLevel_eq (r : Receiver) (l : Level) : r.setLevel l =
    if l = .mark then { r with level := .mark, spaceCount := 0, breakReady := true, clearReady := true }
    else { r with level := .space } := by cases l <;> rfl

/-- Setting the level keeps what a transition reads. -/
theorem Receiver.setLevel_keeps (r : Receiver) (l : Level) : (r.setLevel l).state = r.state ∧ (r.setLevel l).s = r.s
    ∧ (r.setLevel l).sc = r.sc ∧ (r.setLevel l).edges = r.edges ∧ (r.setLevel l).measured = r.measured := by
  cases l <;> exact ⟨rfl, rfl, rfl, rfl, rfl⟩

theorem exec_filteredTransition_of_fits {s : State} {date : Nat} {l : Level} (hl : l = s.rx.level.flip)
    (hfits : s.rx.dateFits date = true) (hst : s.call.state ≠ .standby) :
    let raw : Level := if s.rx.sense = .normal then l else l.flip
    exec (.filteredTransition date raw raw raw) s = .next { s with
      rx := (s.rx.setLevel l).transition s.call.state.assembles date l, pins := { s.pins with rxd := raw } } := by
  intro raw
  have hread : s.rx.sense.read raw = l := Sense.read_raw s.rx.sense l
  refine Eq.trans (if_pos ⟨rfl, rfl, by rw [hread]; exact hl, hfits, hst⟩) ?_
  rw [hread]

theorem exec_filteredTransition_of_misfit {s : State} {date : Nat} {a b c : Level}
    (h : s.rx.dateFits date = false ∨ ¬(a = c ∧ b = c)) : exec (.filteredTransition date a b c) s = .next s := by
  refine if_neg ?_
  rintro ⟨hac, hbc, -, hfits, -⟩
  rcases h with h | h
  · rw [h] at hfits; exact absurd hfits (by decide)
  · exact h ⟨hac, hbc⟩

/-- Settles O28: the transition by the receiver's state and the new level. -/
theorem receiverEvents : Obligations.ReceiverEvents := by
  unfold Obligations.ReceiverEvents
  refine ⟨?transition, ?dates, fun s date l h => exec_filteredTransition_of_misfit (Or.inl h),
    fun s date a b c h => exec_filteredTransition_of_misfit (Or.inr h), ?startCheck⟩
  case transition =>
    intro s date l hl hfits hst raw r t
    have hexec : exec (.filteredTransition date raw raw raw) s =
        .next (t ((s.rx.setLevel l).transition s.call.state.assembles date l)) :=
      exec_filteredTransition_of_fits hl hfits hst
    have hr : s.rx.setLevel l = r := s.rx.setLevel_eq l
    obtain ⟨hstate, hs, hsc, hedges, hmeasured⟩ := s.rx.setLevel_keeps l
    rw [hr] at hexec hstate hs hsc hedges hmeasured
    rw [hexec]
    refine ⟨fun h hsp ha => ?_, fun h hor => ?_, fun h => ?_, fun h => ?_, fun h hm => ?_, fun h hsp => ?_⟩
      <;> rw [h] at hstate <;> unfold Receiver.transition <;> rw [hstate]
    · simp only [hsp, ha, if_true, hs]
    · cases l with
      | mark => rfl
      | space =>
        have ha : s.call.state.assembles = false := hor.resolve_left (by decide)
        simp only [ha, Bool.false_eq_true, if_false]
    · simp only [hedges]
    · simp only [Receiver.measure_eq, hedges, hsc, hmeasured]
    · simp only [hm]
    · simp only [hsp]
  case dates =>
    intro r date
    refine ⟨fun h => ?_, fun h => ?_, fun h => ?_, fun es x h => ?_⟩
    · rcases h with h | h <;> simp only [Receiver.dateFits, h]
    · simp only [Receiver.dateFits, h, Bool.and_eq_true, decide_eq_true_eq]
      exact Iff.rfl
    · simp only [Receiver.dateFits, h, Bool.and_eq_true, decide_eq_true_eq, and_assoc]
      exact Iff.rfl
    · simp [Receiver.lastDate, h]
  case startCheck =>
    intro s h
    refine ⟨fun hl => ?_, fun hl => ?_⟩ <;> simp only [exec, execStartUnitCheck, Receiver.toHunt, h, hl, if_true]

end Sys2Proof.Machine
end


section
/-! SUPPORT. The end of a character: its raw code, its figures and its delivery, and statement O29. -/

namespace Sys2Proof.Machine

/-! ### The raw code (R21) -/

/-- The number whose bits below `n` are given. -/
def chosenPowers (p : Nat → Bool) (n : Nat) : Nat := ((List.range n).map fun i => if p i = true then 2 ^ i else 0).sum

theorem chosenPowers_succ (p : Nat → Bool) (n : Nat) :
    chosenPowers p (n + 1) = if p n = true then 2 ^ n + chosenPowers p n else chosenPowers p n := by
  simp only [chosenPowers, List.range_succ, List.map_append, List.sum_append, List.map_singleton, List.sum_singleton]
  split <;> omega

theorem chosenPowers_lt (p : Nat → Bool) (n : Nat) : chosenPowers p n < 2 ^ n := by
  induction n with
  | zero => exact Nat.one_pos
  | succ n ih =>
    rw [chosenPowers_succ, Nat.pow_succ]
    split <;> omega

/-- The bits of a sum of chosen powers of 2 are the choices. -/
theorem chosenPowers_testBit (p : Nat → Bool) {i n : Nat} (h : i < n) : (chosenPowers p n).testBit i = p i := by
  induction n with
  | zero => exact absurd h (Nat.not_lt_zero i)
  | succ n ih =>
    rw [chosenPowers_succ]
    rcases Nat.lt_succ_iff_lt_or_eq.mp h with hlt | rfl
    · split
      · rw [Nat.testBit_two_pow_add_gt hlt, ih hlt]
      · exact ih hlt
    · have hclear : (chosenPowers p i).testBit i = false := Nat.testBit_lt_two_pow (chosenPowers_lt p i)
      split
      next hp => rw [Nat.testBit_two_pow_add_eq, hclear, hp]; rfl
      next hp => rw [hclear, (Bool.not_eq_true _).mp hp]

theorem chosenPowers_bits (p : Nat → Bool) {i n : Nat} (h : i < n) : (BitVec.ofNat n (chosenPowers p n)).getLsbD i = p i := by
  rw [BitVec.getLsbD_ofNat, chosenPowers_testBit p h, decide_eq_true h, Bool.true_and]

theorem Receiver.rawCode_bits (r : Receiver) (i : Nat) (h : i < 5) :
    r.rawCode.getLsbD i = decide (levelAt r.edges (32 * (i + 1) + 16 + r.sc) = .mark) := by
  have hbits := chosenPowers_bits (fun i => decide (levelAt r.edges (((32 * (i + 1) + 16 : Nat) : Int) + r.sc) = .mark)) h
  simp only [chosenPowers, decide_eq_true_eq] at hbits
  refine Eq.trans hbits ?_
  push_cast
  rfl

/-! ### Drift (R29, R30) -/

theorem adjustDrift_high (n : Nat) {a : Int} (s : Int) (h : 48 ≤ a) :
    adjustDrift (n + 1) (a, s) = adjustDrift n (a - 48, min (s + 1) 6) := if_pos h

theorem adjustDrift_low (n : Nat) {a : Int} (s : Int) (h : a ≤ -48) :
    adjustDrift (n + 1) (a, s) = adjustDrift n (a + 48, max (s - 1) (-6)) :=
  (if_neg (by omega)).trans (if_pos h)

theorem adjustDrift_within (n : Nat) {a : Int} (s : Int) (hlo : -48 < a) (hhi : a < 48) :
    adjustDrift (n + 1) (a, s) = (a, s) := (if_neg (by omega)).trans (if_neg (by omega))

/-- The five outcomes of the steps for a sum within −143..+143 (R29). -/
theorem adjustDrift_four {t o : Int} (hlo : -6 ≤ o) (hhi : o ≤ 6) (ht : -143 ≤ t) (ht' : t ≤ 143) :
    adjustDrift 4 (t, o) =
      if t ≤ -96 then (t + 96, max (o - 2) (-6))
      else if t ≤ -48 then (t + 48, max (o - 1) (-6))
      else if t ≤ 47 then (t, o)
      else if t ≤ 95 then (t - 48, min (o + 1) 6)
      else (t - 96, min (o + 2) 6) := by
  split
  next =>
    rw [adjustDrift_low 3 o (by omega), adjustDrift_low 2 _ (by omega), adjustDrift_within 1 _ (by omega) (by omega)]
    exact Prod.ext (by dsimp only; omega) (by dsimp only; omega)
  split
  next => rw [adjustDrift_low 3 o (by omega), adjustDrift_within 2 _ (by omega) (by omega)]
  split
  next => rw [adjustDrift_within 3 _ (by omega) (by omega)]
  split
  next => rw [adjustDrift_high 3 o (by omega), adjustDrift_within 2 _ (by omega) (by omega)]
  next =>
    rw [adjustDrift_high 3 o (by omega), adjustDrift_high 2 _ (by omega), adjustDrift_within 1 _ (by omega) (by omega)]
    exact Prod.ext (by dsimp only; omega) (by dsimp only; omega)

theorem Receiver.drift_stands {r : Receiver} (h : r.orientation = false ∨ r.measured = []) : r.drift = (r.a, r.s) := by
  refine if_neg ?_
  rintro ⟨ho, hm⟩
  rcases h with h | h
  · rw [h] at ho; exact absurd ho (by decide)
  · exact hm h

/-- The sum of bounded displacements is bounded by their count. -/
theorem sumDisplacements_bound {m : List (Nat × Int)} (h : ∀ x ∈ m, -16 ≤ x.2 ∧ x.2 ≤ 15) :
    -16 * (m.length : Int) ≤ sumDisplacements m ∧ sumDisplacements m ≤ 15 * m.length := by
  induction m with
  | nil => exact ⟨Int.le_refl _, Int.le_refl _⟩
  | cons x m ih =>
    obtain ⟨hx, hx'⟩ := h x List.mem_cons_self
    obtain ⟨ih1, ih2⟩ := ih fun y hy => h y (List.mem_cons_of_mem x hy)
    simp only [sumDisplacements, List.map_cons, List.sum_cons, List.length_cons] at ih1 ih2 ⊢
    push_cast
    exact ⟨by omega, by omega⟩

/-- Within the receiver's ranges the sum of A and the displacements stays within −143..+143 (R29). -/
theorem Receiver.driftSum_bound {r : Receiver} (h : r.inv) :
    -143 ≤ r.a + sumDisplacements r.measured ∧ r.a + sumDisplacements r.measured ≤ 143 := by
  obtain ⟨-, -, ⟨ha, ha'⟩, -, -, -, -, -, -, -, hlen, hm⟩ := h
  obtain ⟨hlo, hhi⟩ := sumDisplacements_bound hm
  exact ⟨by omega, by omega⟩

/-! ### The delivery (R23, R27, R151) -/

theorem exec_characterReceived_measured {s : State} (h : s.rx.state = .assemble)
    (hst : s.call.state = .agreeing ∨ s.call.state = .connected) :
    exec .characterReceived s = .next (deliverLine (if s.rx.isGood then some s.rx.rawCode else none) { s with
      rx := s.rx.updated.ended s.rx.isGood, store := s.store.handQ s.rx.updated.q }) := by
  rcases hst with hst | hst <;> simp only [exec, execCharacterReceived, h, hst, CallState.assembles, and_self, if_true,
    reduceCtorEq, if_false]

theorem exec_characterReceived_clearing {s : State} (h : s.rx.state = .assemble) (hst : s.call.state = .clearing) :
    exec .characterReceived s = .next (deliverLine (if s.rx.isGood then some s.rx.rawCode else none)
      { s with rx := s.rx.ended s.rx.isGood }) := by
  simp only [exec, execCharacterReceived, h, hst, CallState.assembles, and_self, if_true]

theorem deliverLine_agreeing {s : State} (r : Option RawCode) (h : s.call.state = .agreeing) : deliverLine r s =
    if (agreementTake r s).2 then converterTake r (agreementTake r s).1 else (agreementTake r s).1 := by
  simp only [deliverLine, h]

theorem deliverLine_connected {s : State} (r : Option RawCode) (h : s.call.state = .connected) : deliverLine r s =
    converterTake r { s with call := { s.call with idleTimer := timerOf s.call.idleClear } } := by
  simp only [deliverLine, h, touchIdleClear_eq, if_true]

theorem deliverLine_clearing {s : State} (r : Option RawCode) (h : s.call.state = .clearing) :
    deliverLine r s = converterTake r s := by
  simp only [deliverLine, h]

/-- Settles O29: the delivery by the call state, the figures by their ranges. -/
theorem characterReceived : Obligations.CharacterReceived := by
  unfold Obligations.CharacterReceived
  intro s hrx good code p drift s2
  refine ⟨?agreeing, misfit_after, misfit_before, ?connected, ?clearing, ?noOpen, ?handed, s.rx.rawCode_bits,
    Receiver.drift_stands, ?drifts, ?range⟩
  case agreeing =>
    intro hst r
    have hr : agreementTake code s2 = r := by
      simp only [r]
      cases code with
      | none => rfl
      | some c => cases hp : s2.agr.parser <;> simp only [agreementTake, hp]
    have hexec : exec .characterReceived s = .next (deliverLine code s2) := exec_characterReceived_measured hrx (Or.inl hst)
    have hdeliver := deliverLine_agreeing (s := s2) code hst
    rw [hr] at hdeliver
    exact ⟨fun h => by rw [hexec, hdeliver, h]; rfl, fun h => by rw [hexec, hdeliver, h]; rfl⟩
  case connected =>
    intro hst
    have hexec : exec .characterReceived s = .next (deliverLine code s2) := exec_characterReceived_measured hrx (Or.inr hst)
    rw [hexec, deliverLine_connected (s := s2) code hst]
  case clearing =>
    intro hst
    exact (exec_characterReceived_clearing hrx hst).trans (congrArg Host.Outcome.next (deliverLine_clearing _ (by exact hst)))
  case noOpen => exact fun q h => by simp only [Store.handQ, h]
  case handed => exact fun q e h => by simp only [Store.handQ, h, Store.modify]
  case drifts =>
    intro ho hm t o hlo hhi ht ht'
    exact (if_pos ⟨ho, hm⟩).trans (adjustDrift_four hlo hhi ht ht')
  case range =>
    intro h _ t
    obtain ⟨hlo, hhi⟩ := Receiver.driftSum_bound h
    obtain ⟨-, -, -, ⟨hs, hs'⟩, -⟩ := h
    exact ⟨hlo, hhi, hs, hs'⟩

end Sys2Proof.Machine
end


section
/-! SUPPORT. The code converter and the store's take of a LINE-IN character, and statement O30. -/

namespace Sys2Proof.Machine

/-! ### The lowest raw code (R8) -/

/-- In an ordered list no hit of a search stands before the first. -/
theorem find?_first {α : Type} {R : α → α → Prop} {p : α → Bool} {l : List α} (hl : l.Pairwise R) {x : α}
    (h : l.find? p = some x) : ∀ y ∈ l, p y = true → y = x ∨ R x y := by
  obtain ⟨-, before, after, rfl, hbefore⟩ := List.find?_eq_some_iff_append.mp h
  intro y hy hp
  obtain ⟨-, htail, -⟩ := List.pairwise_append.mp hl
  rcases List.mem_append.mp hy with hy | hy
  · exact absurd hp (by simpa using hbefore y hy)
  rcases List.mem_cons.mp hy with rfl | hy
  · exact Or.inl rfl
  · exact Or.inr (List.rel_of_pairwise_cons htail hy)

theorem mem_rawCodes (r : RawCode) : r ∈ rawCodes := by decide +revert

theorem rawCodes_ordered : rawCodes.Pairwise fun x y => x.toNat < y.toNat := by decide

theorem rawCodes_find_lowest {p : RawCode → Bool} {r : RawCode} (hr : p r = true)
    (hlow : ∀ x, p x = true → r.toNat ≤ x.toNat) : rawCodes.find? p = some r := by
  cases hf : rawCodes.find? p with
  | none => exact absurd hr (List.find?_eq_none.mp hf r (mem_rawCodes r))
  | some x =>
    rcases find?_first rawCodes_ordered hf r (mem_rawCodes r) hr with h | h
    · rw [h]
    · exact absurd (hlow x (List.find?_some hf)) (by omega)

theorem rawCodes_find_none {p : RawCode → Bool} (h : ∀ x, ¬p x = true) : rawCodes.find? p = none :=
  List.find?_eq_none.mpr fun x _ => h x

/-- A raw code stands for a station code in a plane: it is no shift code and the plane's entry holds the code (R8). -/
def Converter.Stands (cv : Converter) (c : StationCode) (p : Plane) (r : RawCode) : Prop :=
  cv.ltrsShift ≠ some r ∧ cv.figsShift ≠ some r ∧ (cv.table p).entry r = some c

theorem Converter.isAt_iff (cv : Converter) (c : StationCode) (p : Plane) (r : RawCode) :
    cv.isAt p c r = true ↔ cv.Stands c p r := by
  simp [Converter.isAt, Converter.designated, Converter.Stands, and_assoc]

theorem Converter.find?_lowest {cv : Converter} {c : StationCode} {p : Plane} {r : RawCode} (h : cv.Stands c p r)
    (hlow : ∀ x, cv.Stands c p x → r.toNat ≤ x.toNat) : cv.find? p c = some r :=
  rawCodes_find_lowest ((cv.isAt_iff c p r).mpr h) fun x hx => hlow x ((cv.isAt_iff c p x).mp hx)

theorem Converter.find?_none {cv : Converter} {c : StationCode} {p : Plane} (h : ∀ x, ¬cv.Stands c p x) :
    cv.find? p c = none :=
  rawCodes_find_none fun x hx => h x ((cv.isAt_iff c p x).mp hx)

theorem Converter.both_iff (cv : Converter) (c : StationCode) (r : RawCode) :
    (cv.isAt .letters c r && cv.isAt .figures c r) = true ↔ cv.Stands c .letters r ∧ cv.Stands c .figures r := by
  rw [Bool.and_eq_true, cv.isAt_iff, cv.isAt_iff]

theorem Converter.findBoth?_lowest {cv : Converter} {c : StationCode} {r : RawCode}
    (h : cv.Stands c .letters r ∧ cv.Stands c .figures r)
    (hlow : ∀ x, cv.Stands c .letters x ∧ cv.Stands c .figures x → r.toNat ≤ x.toNat) : cv.findBoth? c = some r :=
  rawCodes_find_lowest ((cv.both_iff c r).mpr h) fun x hx => hlow x ((cv.both_iff c x).mp hx)

theorem Converter.findBoth?_none {cv : Converter} {c : StationCode}
    (h : ∀ x, ¬(cv.Stands c .letters x ∧ cv.Stands c .figures x)) : cv.findBoth? c = none :=
  rawCodes_find_none fun x hx => h x ((cv.both_iff c x).mp hx)

/-! ### The encoder's cases (R8, R10) -/

/-- The plane after encoding: LETTERS after a space with unshift-on-space (R10). -/
theorem Converter.unshifted_eq (cv : Converter) (c : StationCode) (sh : Option RawCode) (r : RawCode) (p : Shift) :
    cv.unshifted c ⟨sh, r, p⟩ = ⟨sh, r, if cv.unshift = true ∧ c = 0x20#7 then .letters else p⟩ := by
  unfold Converter.unshifted Config.space
  by_cases h : cv.unshift = true ∧ c = 0x20#7
  · obtain ⟨hu, rfl⟩ := h
    simp [hu]
  · rw [if_neg h, if_neg (by simpa using h)]

/-- The plane that stands after a code was encoded for a shift (R10). -/
def Converter.planeAfter (cv : Converter) (c : StationCode) (p : Shift) : Shift :=
  if cv.unshift = true ∧ c = 0x20#7 then .letters else p

theorem Converter.encode_letters (cv : Converter) (c : StationCode) : cv.encode .letters c =
    (cv.encodeKnown .letters c).map fun e => ⟨e.shift, e.code, cv.planeAfter c e.plane⟩ :=
  congrArg (Option.map · _) (funext fun e => cv.unshifted_eq c e.shift e.code e.plane)

theorem Converter.encode_figures (cv : Converter) (c : StationCode) : cv.encode .figures c =
    (cv.encodeKnown .figures c).map fun e => ⟨e.shift, e.code, cv.planeAfter c e.plane⟩ :=
  congrArg (Option.map · _) (funext fun e => cv.unshifted_eq c e.shift e.code e.plane)

theorem Converter.encode_unknown (cv : Converter) (c : StationCode) : cv.encode .unknown c =
    (cv.encodeUnknown c).map fun e => ⟨e.shift, e.code, cv.planeAfter c e.plane⟩ :=
  congrArg (Option.map · _) (funext fun e => cv.unshifted_eq c e.shift e.code e.plane)

section Searches

variable {cv : Converter} {c : StationCode} {p : Plane} {r : RawCode}

theorem Converter.encodeKnown_here (h : cv.find? p c = some r) : cv.encodeKnown p c = some ⟨none, r, p.shift⟩ := by
  simp only [Converter.encodeKnown, h]

theorem Converter.encodeKnown_other (h0 : cv.find? p c = none) (h : cv.find? p.other c = some r) :
    cv.encodeKnown p c = some ⟨cv.shiftCode p.other, r, p.other.shift⟩ := by
  simp only [Converter.encodeKnown, h0, h]

theorem Converter.encodeKnown_none (h0 : cv.find? p c = none) (h : cv.find? p.other c = none) :
    cv.encodeKnown p c = none := by
  simp only [Converter.encodeKnown, h0, h]

theorem Converter.encodeUnknown_both (h : cv.findBoth? c = some r) : cv.encodeUnknown c = some ⟨none, r, .unknown⟩ := by
  simp only [Converter.encodeUnknown, h]

theorem Converter.encodeUnknown_letters (h0 : cv.findBoth? c = none) (h : cv.find? .letters c = some r) :
    cv.encodeUnknown c = some ⟨cv.ltrsShift, r, .letters⟩ := by
  simp only [Converter.encodeUnknown, h0, h]

theorem Converter.encodeUnknown_figures (h0 : cv.findBoth? c = none) (h1 : cv.find? .letters c = none)
    (h : cv.find? .figures c = some r) : cv.encodeUnknown c = some ⟨cv.figsShift, r, .figures⟩ := by
  simp only [Converter.encodeUnknown, h0, h1, h]

theorem Converter.encodeUnknown_none (h0 : cv.findBoth? c = none) (h1 : cv.find? .letters c = none)
    (h2 : cv.find? .figures c = none) : cv.encodeUnknown c = none := by
  simp only [Converter.encodeUnknown, h0, h1, h2]

end Searches

/-! ### The decoder (R6, R10) -/

theorem Converter.decode_entry {cv : Converter} {r : RawCode} (h : cv.designated r = false) :
    cv.decode r =
      match (cv.table cv.rxPlane).entry r with
      | none => (cv, some (Config.errorMark, true))
      | some c => (if cv.unshift && decide (c = Config.space) then { cv with rxPlane := .letters } else cv, some (c, false)) := by
  simp only [Converter.designated, Bool.or_eq_false_iff, decide_eq_false_iff_not] at h
  obtain ⟨hl, hf⟩ := h
  exact (if_neg hl).trans (if_neg hf)

theorem converterTake_none {s : State} (h : s.call.state = .connected) :
    converterTake none s = lineInTake 0x7F#7 true s := if_pos h

theorem converterTake_letters {s : State} {r : RawCode} (h : s.conv.ltrsShift = some r) :
    converterTake (some r) s = { s with conv := { s.conv with rxPlane := .letters } } := by
  simp only [converterTake, Converter.decode, h, if_true]

theorem converterTake_figures {s : State} {r : RawCode} (hl : s.conv.ltrsShift ≠ some r) (h : s.conv.figsShift = some r) :
    converterTake (some r) s = { s with conv := { s.conv with rxPlane := .figures } } := by
  unfold converterTake Converter.decode
  simp only [if_neg hl, if_pos h]

theorem converterTake_entry {s : State} {r : RawCode} {c : StationCode} (hd : s.conv.designated r = false)
    (hst : s.call.state = .connected) (he : (s.conv.table s.conv.rxPlane).entry r = some c) :
    converterTake (some r) s = lineInTake c false { s with conv := { s.conv with
      rxPlane := if s.conv.unshift = true ∧ c = 0x20#7 then .letters else s.conv.rxPlane } } := by
  unfold converterTake
  simp only [Converter.decode_entry hd, he, hst, if_true]
  congr 1
  by_cases h : s.conv.unshift = true ∧ c = 0x20#7
  · obtain ⟨hu, rfl⟩ := h
    simp [hu, Config.space]
  · simp only [if_neg h]
    have hoff : (s.conv.unshift && decide (c = Config.space)) = false := by
      rw [← Bool.not_eq_true, Bool.and_eq_true, decide_eq_true_eq]; exact h
    simp only [hoff, Bool.false_eq_true, if_false]

theorem converterTake_unassigned {s : State} {r : RawCode} (hd : s.conv.designated r = false)
    (hst : s.call.state = .connected) (he : (s.conv.table s.conv.rxPlane).entry r = none) :
    converterTake (some r) s = lineInTake 0x7F#7 true s := by
  unfold converterTake
  simp only [Converter.decode_entry hd, he, hst, if_true]
  rfl

/-! ### The store's take (R72, R149) -/

theorem deliverLineIn_open {s : State} {e : Entry} (row : Row) (c : StationCode) (h : s.store.open? .in = some e) :
    deliverLineIn row c s = deliverInto e c s := by simp only [deliverLineIn, h]

theorem Store.canOpen_in_iff (st : Store) : st.canOpen .in = true ↔ st.dir.length < 64 ∧ 2 ≤ st.free := by
  simp only [Store.canOpen, Bool.and_eq_true, decide_eq_true_eq]; exact Iff.rfl

/-- Settles O30: the converter by the entry of the raw code, the encoder by its searches. -/
theorem converterTakes : Obligations.ConverterTakes := by
  unfold Obligations.ConverterTakes
  refine ⟨fun s r => converterTake_letters, fun s r => converterTake_figures, fun s r c => converterTake_entry,
    fun s r => converterTake_unassigned, fun s => converterTake_none, ?lineIn, ?encoder, ?stores⟩
  case lineIn =>
    intro c err s m s1 s2 r s3
    have hcomplete : lineInTake c err s = if m.2 then closeOpen .in MsgFlags.justComplete s3 else s3 := rfl
    exact ⟨fun h => by rw [hcomplete, h]; rfl, fun h => by rw [hcomplete, h]; rfl⟩
  case encoder =>
    intro cv c stands both lowest plane
    have here (p : Plane) (r : RawCode) (h : lowest (stands p) r) : cv.find? p c = some r := Converter.find?_lowest h.1 h.2
    have absent (p : Plane) (h : ∀ x, ¬stands p x) : cv.find? p c = none := Converter.find?_none h
    have noBoth (h : ∀ x, ¬both x) : cv.findBoth? c = none := Converter.findBoth?_none h
    refine ⟨fun r h => ?_, fun r h => ?_, fun r h0 h => ?_, fun r h0 h => ?_, fun r h => ?_, fun r h0 h => ?_,
      fun r h0 h => ?_, fun h p => ?_⟩
    · rw [cv.encode_letters c, Converter.encodeKnown_here (here _ r h)]; rfl
    · rw [cv.encode_figures c, Converter.encodeKnown_here (here _ r h)]; rfl
    · rw [cv.encode_letters c, Converter.encodeKnown_other (absent _ h0) (here _ r h)]; rfl
    · rw [cv.encode_figures c, Converter.encodeKnown_other (absent _ h0) (here _ r h)]; rfl
    · rw [cv.encode_unknown c, Converter.encodeUnknown_both (Converter.findBoth?_lowest h.1 h.2)]; rfl
    · rw [cv.encode_unknown c, Converter.encodeUnknown_letters (noBoth h0) (here _ r h)]; rfl
    · rw [cv.encode_unknown c, Converter.encodeUnknown_figures (noBoth fun x hx => h0 x hx.1) (absent _ h0) (here _ r h)]; rfl
    · have hl := absent .letters fun x => (h x).1
      have hf := absent .figures fun x => (h x).2
      cases p with
      | letters => rw [cv.encode_letters c, Converter.encodeKnown_none hl hf]; rfl
      | figures => rw [cv.encode_figures c, Converter.encodeKnown_none hf hl]; rfl
      | unknown => rw [cv.encode_unknown c, Converter.encodeUnknown_none (noBoth fun x hx => (h x).1 hx.1) hl hf]; rfl
  case stores =>
    intro row c s
    refine ⟨fun h => ?_, fun h e he => ?_, fun h hn hfull => ?_, fun h hn hlen hfree e he => ?_⟩
    · simp only [deliverStore, h, Bool.false_eq_true, if_false]
    · simp only [deliverStore, h, if_true, deliverLineIn_open row c he]
    · have hcan : s.store.canOpen .in = false := by
        rw [← Bool.not_eq_true, s.store.canOpen_in_iff]; omega
      simp only [deliverStore, h, if_true, deliverLineIn, hn, hcan, Bool.false_eq_true, if_false]
    · have hcan : s.store.canOpen .in = true := (s.store.canOpen_in_iff).mpr ⟨hlen, hfree⟩
      simp only [deliverStore, h, if_true, deliverLineIn, hn, hcan, he]

end Sys2Proof.Machine
end


section
/-! SUPPORT. The line conditions, and statement O31. -/

namespace Sys2Proof.Machine

/-! ### A break received (R33, R44, R46, R49, R50, R55) -/

theorem Slot.lostOffer_offer {x : Slot} {i : Nat} {acked : Bool} (h : x.kind = .offerCode i acked) :
    x.lostOffer = [decide (i = 3) && acked] := by
  unfold Slot.lostOffer
  rw [h]
  rfl

theorem Slot.lostOffer_other {x : Slot} (h : ∀ i acked, x.kind ≠ .offerCode i acked) : x.lostOffer = [] := by
  unfold Slot.lostOffer
  cases hk : x.kind with
  | offerCode i acked => exact absurd hk (h i acked)
  | char => rfl
  | shift => rfl

theorem Transmitter.lostOffers_eq (t : Transmitter) : t.lostOffers =
    (match t.front with
      | some f => if f.sent then [] else f.slot.lostOffer
      | none => [])
    ++ (match t.next with
      | some x => x.lostOffer
      | none => []) := by
  unfold Transmitter.lostOffers
  cases t.front <;> cases t.next <;> rfl

/-- The agreement, the transmitter and the converter after a break, and the playback that it pauses (R33, R49, R50). -/
theorem receivedBreak_eq (s : State) :
    receivedBreak s = raise .breakReceived { s with
      tx := { s.tx with
        front := none, next := none, txd := if s.tx.signal = .none then .mark else s.tx.txd, duty := .none, given := 0
        counted := 0, passed := [] }
      conv := { s.conv with held := none, txPlane := .unknown }
      agr := s.agr.takeBack s.tx.lostOffers
      call :=
        if s.call.play.state = .running then { s.call with play := { s.call.play with
          state := .paused, readPos := s.sentCursor, buf := [], skipped := [] } }
        else s.call
      store :=
        if s.call.play.state = .running then { s.store with
          playRead := none, access := s.store.access.map (Access.disown .playback) }
        else s.store } := by
  by_cases h : s.call.play.state = .running
  · simp only [receivedBreak, pausePlayback, flush, h, if_true]
    rfl
  · simp only [receivedBreak, pausePlayback, flush, h, if_false]
    rfl

/-! ### The thresholds (R32 to R35) -/

theorem CallState.counts_iff (c : CallState) : c.counts = true ↔ c = .agreeing ∨ c = .connected := by
  cases c <;> simp [CallState.counts]

theorem exec_breakThreshold {s : State} (hst : s.call.state = .agreeing ∨ s.call.state = .connected)
    (hl : s.rx.level = .space) (hr : s.rx.breakReady = true) :
    exec .breakThreshold s = .next (breakThreshold (thresholdTick s)) :=
  if_pos ⟨(CallState.counts_iff _).mpr hst, hl, hr⟩

theorem breakThreshold_agreeing {s : State} (hst : s.call.state = .agreeing) (hrx : s.agr.rxSwitched = false) :
    breakThreshold s = fallBack .fault (receivedBreak { s with
      rx := { s.rx with spaceCount := max s.rx.spaceCount s.rx.brk, breakReady := false }
      latches := { s.latches with breakSeen := true } }) := if_pos ⟨hst, hrx⟩

theorem breakThreshold_stays {s : State} (h : ¬(s.call.state = .agreeing ∧ s.agr.rxSwitched = false)) :
    breakThreshold s = receivedBreak { s with
      rx := { s.rx with spaceCount := max s.rx.spaceCount s.rx.brk, breakReady := false }
      latches := { s.latches with breakSeen := true } } := if_neg h

theorem clearThreshold_inverts {s : State} (hg : s.rx.goodSeen = false) (ha : s.rx.autoPolarity = true)
    (hi : s.rx.inversionMade = false) : clearThreshold s = invertPolarity s := if_pos ⟨hg, ha, hi⟩

theorem clearThreshold_clears {s : State}
    (h : s.rx.goodSeen = true ∨ s.rx.autoPolarity = false ∨ s.rx.inversionMade = true) :
    clearThreshold s = enterClearing .remoteClear { s with rx := { s.rx with clearReady := false } } := by
  refine if_neg ?_
  rintro ⟨hg, ha, hi⟩
  simp [hg, ha, hi] at h

theorem Receiver.countSpace_eq (r : Receiver) : r.countSpace = { r with
    lossCount := 0, spaceCount := if r.level = .space then min 255 (r.spaceCount + 1) else r.spaceCount } := by
  unfold Receiver.countSpace
  cases h : r.level <;> rfl

theorem lineTick_present {s : State} (h : s.pins.loopSense = true) :
    lineTick s = clearTick (breakTick { s with rx := s.rx.countSpace }) := if_pos h

theorem lineTick_absent {s : State} (h : s.pins.loopSense = false) :
    lineTick s = if s.rx.lossCount + 1 < Config.lossTicks then { s with rx := { s.rx with lossCount := s.rx.lossCount + 1 } }
      else loopLost s := if_neg (by rw [h]; decide)

/-- Settles O31: each line condition by its branch. -/
theorem lineConditions : Obligations.LineConditions := by
  unfold Obligations.LineConditions
  refine ⟨?breaks, ?received, fun x => ⟨fun i acked => Slot.lostOffer_offer, Slot.lostOffer_other⟩, ?clears, ?ticks, ?lost⟩
  case breaks =>
    intro s hl hr s1
    refine ⟨fun hst => ?_, fun hst hrx => ?_, fun hst hrx => ?_⟩
    · refine (exec_breakThreshold (Or.inr hst) hl hr).trans (congrArg _ (breakThreshold_stays ?_))
      exact fun h => CallState.noConfusion (hst.symm.trans h.1)
    · refine (exec_breakThreshold (Or.inl hst) hl hr).trans (congrArg _ (breakThreshold_stays ?_))
      exact fun h => Bool.noConfusion (hrx.symm.trans h.2)
    · exact (exec_breakThreshold (Or.inl hst) hl hr).trans
        (congrArg _ (breakThreshold_agreeing (by exact hst) (by exact hrx)))
  case received =>
    intro s lost
    have hlost : s.tx.lostOffers = lost := s.tx.lostOffers_eq
    rw [receivedBreak_eq, hlost]
    rfl
  case clears =>
    intro s hst hl hc hb
    have hexec : exec .clearThreshold s = .next (clearThreshold (thresholdTick s)) :=
      if_pos ⟨(CallState.counts_iff _).mpr hst, hl, hc, hb⟩
    refine ⟨fun hg ha hi => ?_, fun h => ?_⟩
    · exact hexec.trans (congrArg _ (clearThreshold_inverts (by exact hg) (by exact ha) (by exact hi)))
    · exact hexec.trans (congrArg _ (clearThreshold_clears (by exact h)))
  case ticks =>
    intro s
    refine ⟨fun h => ?_, fun h hn => ?_, fun h hn => ?_, fun h => if_pos h, fun h => if_neg h, fun h => ?_, fun h => if_neg h⟩
    · rw [lineTick_present h, Receiver.countSpace_eq]
    · exact (lineTick_absent h).trans (if_pos (by simp only [Config.lossTicks]; omega))
    · exact (lineTick_absent h).trans (if_neg (by simp only [Config.lossTicks]; omega))
    · exact if_pos h
  case lost =>
    intro s hst
    exact if_pos ((CallState.counts_iff _).mpr hst)

end Sys2Proof.Machine
end


section
/-! SUPPORT. The router's sinks and holding sources, and statement O33. -/

namespace Sys2Proof.Machine

/-! ### The set in force (R66) -/

theorem routeSet_local {s : State} (h : s.call.state = .standby ∨ s.call.state = .idle ∨ s.call.state = .ringCheck) :
    s.routeSet = s.router.localSet := by
  rcases h with h | h | h <;> simp only [State.routeSet, h]

theorem Router.callSet_eq (r : Router) (m : Option Mode) :
    r.callSet m = if m = some .unattended then r.unattended else r.attended := by
  cases m with
  | none => rfl
  | some m => cases m <;> rfl

theorem routeSet_call {s : State} (h1 : s.call.state ≠ .standby) (h2 : s.call.state ≠ .idle)
    (h3 : s.call.state ≠ .ringCheck) : s.routeSet = s.router.callSet s.call.callMode := by
  unfold State.routeSet
  cases h : s.call.state with
  | standby => exact absurd h h1
  | idle => exact absurd h h2
  | ringCheck => exact absurd h h3
  | _ => rfl

/-! ### STORE-FULL (R149) -/

theorem storeFullAct_acts {s : State} {full : Bool} (h : full = true) (hst : s.call.state = .connected)
    (hm : s.call.callMode = some .unattended) : storeFullAct full s = enterClearing .storeFull s := if_pos ⟨h, hst, hm⟩

theorem storeFullAct_stands {s : State} {full : Bool}
    (h : full = false ∨ s.call.state ≠ .connected ∨ s.call.callMode ≠ some .unattended) : storeFullAct full s = s := by
  refine if_neg ?_
  rintro ⟨hf, hst, hm⟩
  rcases h with h | h | h
  · rw [h] at hf; exact Bool.noConfusion hf
  · exact h hst
  · exact h hm

/-! ### The deliveries to STORE (R72) -/

theorem deliverStore_silent {src : Source} {row : Row} (c : StationCode) (s : State) (h : row.store = false ∨ src = .playback) :
    deliverStore src row c s = ⟨s, none, false⟩ := by
  unfold deliverStore
  rcases h with h | rfl
  · rw [h]; rfl
  · cases row.store <;> rfl

theorem deliverStore_answerback {row : Row} (c : StationCode) (s : State) (h : row.store = true) :
    deliverStore .answerback row c s =
      match s.store.open? .in with
      | some e => deliverInto e c s
      | none => ⟨s, none, false⟩ := by
  unfold deliverStore
  rw [h]
  rfl

theorem deliverStore_holding {src : Source} {row : Row} (c : StationCode) (s : State) (h : row.store = true)
    (hsrc : src = .keyboard ∨ src = .linkText) : deliverStore src row c s =
      match s.store.open? .out with
      | some e => deliverInto e c s
      | none => ⟨s, none, false⟩ := by
  unfold deliverStore
  rw [h]
  rcases hsrc with rfl | rfl <;> rfl

theorem storeInto_at {s : State} {e : Entry} {c : StationCode} {pos : Nat} (h : (s.store.storeChar e.dir e c).2 = .at pos) :
    storeInto e c s = ({ s with store := (s.store.storeChar e.dir e c).1 }, .at pos) := by
  simp only [storeInto, h]

theorem storeInto_blocked_in {s : State} {e : Entry} {c : StationCode} (h : (s.store.storeChar e.dir e c).2 = .blocked)
    (hd : e.dir = .in) :
    storeInto e c s = ({ s with store := s.store.setFlags e.number MsgFlags.justTruncated }, .blocked) := by
  rw [hd] at h
  simp only [storeInto, hd, h]

theorem storeInto_blocked_out {s : State} {e : Entry} {c : StationCode} (h : (s.store.storeChar e.dir e c).2 = .blocked)
    (hd : e.dir = .out) : storeInto e c s = (s, .blocked) := by
  rw [hd] at h
  simp only [storeInto, hd, h]

theorem storeInto_ringOut {s : State} {e : Entry} {c : StationCode} (h : (s.store.storeChar e.dir e c).2 = .ringOut) :
    storeInto e c s = (closeMessage e MsgFlags.justTruncated s, .ringOut) := by
  simp only [storeInto, h]

theorem deliverInto_at {s : State} {e : Entry} {c : StationCode} {pos : Nat} (h : (s.store.storeChar e.dir e c).2 = .at pos) :
    deliverInto e c s = ⟨punchSettle { s with store := (s.store.storeChar e.dir e c).1 }, some ⟨e.number, pos⟩, false⟩ := by
  simp only [deliverInto, storeInto_at h]

theorem deliverInto_blocked_out {s : State} {e : Entry} {c : StationCode} (h : (s.store.storeChar e.dir e c).2 = .blocked)
    (hd : e.dir = .out) : deliverInto e c s = ⟨s, none, false⟩ := by
  simp only [deliverInto, storeInto_blocked_out h hd]

theorem deliverInto_blocked_in {s : State} {e : Entry} {c : StationCode} (h : (s.store.storeChar e.dir e c).2 = .blocked)
    (hd : e.dir = .in) :
    deliverInto e c s = ⟨{ s with store := s.store.setFlags e.number MsgFlags.justTruncated }, none, false⟩ := by
  simp only [deliverInto, storeInto_blocked_in h hd]

theorem deliverInto_ringOut {s : State} {e : Entry} {c : StationCode} (h : (s.store.storeChar e.dir e c).2 = .ringOut) :
    deliverInto e c s = ⟨closeMessage e MsgFlags.justTruncated s, none, decide (e.dir = .in)⟩ := by
  simp only [deliverInto, storeInto_ringOut h]

theorem setFlags_truncated (n : Nat) (st : Store) :
    st.setFlags n MsgFlags.justTruncated = { st with dir := st.dir.map fun x =>
      if x.number = n then { x with flags := { x.flags with truncated := true }, headerDue := true } else x } := by
  simp [Store.setFlags, Store.modify, MsgFlags.or, MsgFlags.justTruncated, MsgFlags.none]

/-! ### The deliveries to PRINTER and PUNCH (R73 to R76) -/

theorem deliverPrinter_tagged {s : State} {t : Tag} (row : Row) (c : StationCode) (h : s.pr.tracked = some t.number) :
    deliverPrinter row c (some t) s = deliverTagged c t s := by
  simp [deliverPrinter, Option.filter, h]

theorem deliverPrinter_untagged (row : Row) (c : StationCode) (s : State) :
    deliverPrinter row c none s = if row.printer then deliverUntagged c s else s := rfl

theorem deliverPrinter_other {s : State} {t : Tag} (row : Row) (c : StationCode) (h : s.pr.tracked ≠ some t.number) :
    deliverPrinter row c (some t) s = deliverPrinter row c none s := by
  simp [deliverPrinter, Option.filter, h]

theorem Punch.follows_iff (p : Punch) (n : Nat) : p.follows n = true ↔ ∃ j ∈ p.chain, j.follow = true ∧ j.number = n := by
  simp [Punch.follows]

theorem deliverPunch_followed {s : State} {t : Tag} (src : Source) (row : Row) (c : StationCode)
    (h : s.pu.follows t.number = true) : deliverPunch src row c (some t) s = s := if_pos (by simpa using h)

theorem deliverPunch_unfollowed {s : State} {t : Tag} (src : Source) (row : Row) (c : StationCode)
    (h : s.pu.follows t.number = false) : deliverPunch src row c (some t) s = deliverPunch src row c none s := by
  simp [deliverPunch, h]

theorem Printer.room_iff (p : Printer) : p.room = true ↔ p.queue.length < 64 := by
  simp only [Printer.room, decide_eq_true_eq]
  exact Iff.rfl

theorem Punch.takesDirect_iff (p : Punch) : p.takesDirect = true ↔ p.chain = [] ∧ p.queue.length < 32 := by
  simp only [Punch.takesDirect, Bool.and_eq_true, decide_eq_true_eq, List.isEmpty_iff]
  exact Iff.rfl

theorem deliverUntagged_discarded {s : State} (c : StationCode) (h : s.pr.unavailable = true) : deliverUntagged c s = s :=
  if_pos h

theorem deliverUntagged_queued {s : State} (c : StationCode) (h : s.pr.unavailable = false) (hroom : s.pr.queue.length < 64) :
    deliverUntagged c s = noteLiveWork { s with pr := { s.pr with queue := s.pr.queue ++ [⟨c, none⟩] } } :=
  (if_neg (by simp [h])).trans (if_pos ((s.pr.room_iff).mpr hroom))

theorem deliverUntagged_lost {s : State} (c : StationCode) (h : s.pr.unavailable = false) (hfull : 64 ≤ s.pr.queue.length) :
    deliverUntagged c s = { s with pr := { s.pr with lostPending := true } } :=
  (if_neg (by simp [h])).trans (if_neg fun hr => absurd ((s.pr.room_iff).mp hr) (by omega))

theorem deliverTagged_catchUp {s : State} (c : StationCode) (t : Tag) (h : s.pr.mode = .catchUp) : deliverTagged c t s = s := by
  simp only [deliverTagged, h]

theorem deliverTagged_direct {s : State} (c : StationCode) (t : Tag) (h : s.pr.mode = .direct) : deliverTagged c t s =
    if s.pr.room then noteLiveWork { s with pr := { s.pr with queue := s.pr.queue ++ [⟨c, some t⟩] } }
    else enterCatchUp (some t.number) s := by
  simp only [deliverTagged, h]

theorem enterCatchUp_direct {s : State} (m : Option Nat) (h : s.pr.mode = .direct) :
    enterCatchUp m s = offComparison (noteLiveWork { s with pr := { s.pr with mode := .catchUp, catchUp := m } }) := if_pos h

theorem deliverPunch_direct {s : State} {src : Source} {row : Row} (c : StationCode) (hrow : row.punch = true)
    (hsrc : src ≠ .lineIn) (h : s.pu.takesDirect = true) : deliverPunch src row c none s = punchDirect c s :=
  (if_neg (by simp)).trans (if_pos ⟨hrow, hsrc, h⟩)

theorem deliverPunch_dropped {s : State} {src : Source} {row : Row} (c : StationCode)
    (h : ¬(row.punch = true ∧ src ≠ .lineIn ∧ s.pu.takesDirect = true)) : deliverPunch src row c none s = s :=
  (if_neg (by simp)).trans (if_neg h)

/-! ### The delivery to LINK (R78, R79) -/

theorem deliverLink_off {row : Row} (src : Source) (c : StationCode) (s : State) (h : row.link = false) :
    deliverLink src row c s = s := if_pos h

theorem deliverLink_on {row : Row} (src : Source) (c : StationCode) (s : State) (h : row.link = true) :
    deliverLink src row c s =
      if s.link.joinsText src then { s with link := { s.link with reports := appendText c s.link.reports } }
      else if s.link.reports.length < Config.reportCapacity then raise (.text src [c]) s
      else { s with latches := { s.latches with linkTextLost := true } } := if_neg (by rw [h]; decide)

/-- A code joins the newest TEXT report (R78). -/
theorem appendText_newest (pre post : List Report) (src : Source) (codes : List StationCode) (c : StationCode)
    (h : ∀ r ∈ post, r.isText = false) :
    appendText c (pre ++ .text src codes :: post) = pre ++ .text src (codes ++ [c]) :: post := by
  have hpost : post.any Report.isText = false := List.any_eq_false.mpr fun r hr => by simp [h r hr]
  induction pre with
  | nil => simp [appendText, hpost]
  | cons r pre ih =>
    have hlater : (pre ++ .text src codes :: post).any Report.isText = true := by simp [Report.isText]
    cases r with
    | text src1 codes1 => simp only [List.cons_append, appendText, hlater, if_true, ih]
    | _ => simp only [List.cons_append, appendText, ih]

/-! ### Holding sources and the LOST mark (R67, R68, R75) -/

theorem exec_holdingSourceTake_keyboard {s : State} {c : StationCode} {rest : List StationCode}
    (hb : s.kb.buffer = c :: rest) (h : (s.row .keyboard).lineOut = false ∧ s.sinksReady .keyboard = true ∧ s.call.state ≠ .standby) :
    exec (.holdingSourceTake .keyboard) s = .next (routerTake .keyboard c { s with kb := { s.kb with buffer := rest } }) := by
  simp only [exec, execHoldingSourceTake, hb]
  refine (if_pos h).trans ?_
  rw [dropKey, hb, List.tail_cons]

theorem exec_holdingSourceTake_linkText {s : State} {c : StationCode} {rest : List StationCode}
    (hb : s.router.linkText = c :: rest)
    (h : (s.row .linkText).lineOut = false ∧ s.sinksReady .linkText = true ∧ s.call.state ≠ .standby) :
    exec (.holdingSourceTake .linkText) s =
      .next (routerTake .linkText c { s with router := { s.router with linkText := rest } }) := by
  simp only [exec, execHoldingSourceTake, hb]
  refine (if_pos h).trans ?_
  rw [dropLinkText, hb, List.tail_cons]

theorem exec_holdingSourceTake_keyboard_stands {s : State}
    (h : s.kb.buffer = [] ∨ (s.row .keyboard).lineOut = true ∨ s.sinksReady .keyboard = false) :
    exec (.holdingSourceTake .keyboard) s = .next s := by
  cases hb : s.kb.buffer with
  | nil => simp only [exec, execHoldingSourceTake, hb]
  | cons c rest =>
    simp only [exec, execHoldingSourceTake, hb]
    refine if_neg ?_
    rintro ⟨hl, hr, -⟩
    simp [hb, hl, hr] at h

theorem exec_holdingSourceTake_linkText_stands {s : State}
    (h : s.router.linkText = [] ∨ (s.row .linkText).lineOut = true ∨ s.sinksReady .linkText = false) :
    exec (.holdingSourceTake .linkText) s = .next s := by
  cases hb : s.router.linkText with
  | nil => simp only [exec, execHoldingSourceTake, hb]
  | cons c rest =>
    simp only [exec, execHoldingSourceTake, hb]
    refine if_neg ?_
    rintro ⟨hl, hr, -⟩
    simp [hb, hl, hr] at h

theorem sinksReady_iff (s : State) (src : Source) : s.sinksReady src = true ↔
    ((s.row src).store = true →
      s.store.queue.length ≤ 2 ∧ ¬((s.store.open? .out).isSome = true ∧ s.store.outCell.state = .waiting))
    ∧ ((s.row src).printer = true → s.pr.unavailable = true ∨ s.pr.queue.length < 64)
    ∧ ((s.row src).punch = true → s.pu.chain = [] ∧ s.pu.queue.length < 32)
    ∧ ((s.row src).link = true → s.link.joinsText src = true ∨ s.link.reports.length < 24) := by
  have hsink (b c : Bool) : (!b || c) = true ↔ (b = true → c = true) := by cases b <;> simp
  have hstore : s.store.hasRoom = true ↔
      s.store.queue.length ≤ 2 ∧ ¬((s.store.open? .out).isSome = true ∧ s.store.outCell.state = .waiting) := by
    simp only [Store.hasRoom, Bool.and_eq_true, Bool.not_eq_true', Bool.and_eq_false_iff, decide_eq_true_eq,
      decide_eq_false_iff_not, Classical.not_and_iff_not_or_not, Bool.not_eq_true]
  have hprinter : s.pr.takesUntagged = true ↔ s.pr.unavailable = true ∨ s.pr.queue.length < 64 := by
    rw [Printer.takesUntagged, Bool.or_eq_true, Printer.room_iff]
  have hlink : s.link.hasRoom src = true ↔ s.link.joinsText src = true ∨ s.link.reports.length < 24 := by
    rw [Link.hasRoom, Bool.or_eq_true, decide_eq_true_eq]
    exact Iff.rfl
  simp only [State.sinksReady, Bool.and_eq_true, hsink, hstore, hprinter, hlink, Punch.takesDirect_iff, and_assoc]

theorem Printer.lostJoin_of {p : Printer} (h : p.lostPending = true) (hroom : p.queue.length < 64) :
    p.lostJoin = { p with queue := p.queue ++ [⟨p.lostCode, none⟩], lostPending := false } :=
  if_pos (by rw [h, (p.room_iff).mpr hroom]; rfl)

theorem Printer.lostJoin_none {p : Printer} (h : p.lostPending = false ∨ 64 ≤ p.queue.length) : p.lostJoin = p := by
  refine if_neg ?_
  rw [Bool.and_eq_true, p.room_iff]
  rintro ⟨hl, hr⟩
  rcases h with h | h
  · rw [h] at hl; exact Bool.noConfusion hl
  · omega

/-- Settles O33: the take as the sequence of its deliveries, each delivery by its branches. -/
theorem holdingSourcesAndSinks : Obligations.HoldingSourcesAndSinks := by
  unfold Obligations.HoldingSourcesAndSinks
  refine ⟨⟨?take, ?rows, ?store, ?into, ?printer, ?punch⟩, ⟨?holding, sinksReady_iff, ?lost, ?unlost⟩, ?untagged, ?tagged,
    ?direct, ?link, appendText_newest⟩
  case take =>
    intro src c s row d t
    exact ⟨rfl, fun hf hst hm => storeFullAct_acts hf hst hm, fun h => storeFullAct_stands h⟩
  case rows =>
    intro s src
    refine ⟨fun h => ?_, fun h1 h2 h3 => ?_⟩
    · rw [State.row, routeSet_local h]
    · rw [State.row, routeSet_call h1 h2 h3, Router.callSet_eq]
  case store =>
    intro src row c s
    refine ⟨deliverStore_silent c s, fun h hsrc => ?_, fun h hsrc => ?_⟩
    · subst hsrc
      exact ⟨fun hn => by rw [deliverStore_answerback c s h, hn], fun e he => by rw [deliverStore_answerback c s h, he]⟩
    · exact ⟨fun hn => by rw [deliverStore_holding c s h hsrc, hn], fun e he => by rw [deliverStore_holding c s h hsrc, he]⟩
  case into =>
    intro e c s r
    refine ⟨fun pos => deliverInto_at, deliverInto_blocked_out, fun h hd => ?_, deliverInto_ringOut⟩
    rw [deliverInto_blocked_in h hd, setFlags_truncated]
  case printer =>
    exact fun row c t s => ⟨deliverPrinter_tagged row c, deliverPrinter_other row c, deliverPrinter_untagged row c s⟩
  case punch =>
    intro src row c t s
    refine ⟨fun h => deliverPunch_followed src row c ((s.pu.follows_iff _).mpr h), fun h => ?_⟩
    refine deliverPunch_unfollowed src row c ?_
    rw [← Bool.not_eq_true, s.pu.follows_iff]
    rintro ⟨j, hj, hf, hn⟩
    exact h j hj hf hn
  case holding =>
    intro s hst
    exact ⟨fun c rest hb hl hr => exec_holdingSourceTake_keyboard hb ⟨hl, hr, hst⟩,
      fun c rest hb hl hr => exec_holdingSourceTake_linkText hb ⟨hl, hr, hst⟩,
      exec_holdingSourceTake_keyboard_stands, exec_holdingSourceTake_linkText_stands⟩
  case lost =>
    intro s h hroom
    simp only [exec, execLostMarkJoin, Printer.lostJoin_of h hroom]
  case unlost =>
    intro s h
    simp only [exec, execLostMarkJoin, Printer.lostJoin_none h]
  case untagged =>
    exact fun c s => ⟨deliverUntagged_discarded c, deliverUntagged_queued c, deliverUntagged_lost c⟩
  case tagged =>
    intro c t s
    refine ⟨deliverTagged_catchUp c t, fun h hroom => ?_, fun h hfull => ?_⟩
    · exact (deliverTagged_direct c t h).trans (if_pos ((s.pr.room_iff).mpr hroom))
    · refine (deliverTagged_direct c t h).trans ((if_neg fun hr => ?_).trans (enterCatchUp_direct _ h))
      exact absurd ((s.pr.room_iff).mp hr) (by omega)
  case direct =>
    intro src row c s
    refine ⟨fun hrow hsrc hc hq => ?_, fun h => deliverPunch_dropped c ?_⟩
    · exact deliverPunch_direct c hrow hsrc ((s.pu.takesDirect_iff).mpr ⟨hc, hq⟩)
    · rw [s.pu.takesDirect_iff]
      rintro ⟨hrow, hsrc, hc, hq⟩
      rcases h with h | h | h | h
      · rw [h] at hrow; exact Bool.noConfusion hrow
      · exact hsrc h
      · exact h hc
      · omega
  case link =>
    intro src row c s
    refine ⟨deliverLink_off src c s, fun h hj => ?_, fun h hj hlen => ?_, fun h hj hlen => ?_⟩
    · exact (deliverLink_on src c s h).trans (if_pos hj)
    · exact (deliverLink_on src c s h).trans ((if_neg (by simp [hj])).trans (if_pos hlen))
    · exact (deliverLink_on src c s h).trans ((if_neg (by simp [hj])).trans (if_neg (by simp only [Config.reportCapacity]; omega)))

end Sys2Proof.Machine
end


section
/-! SUPPORT. The scan, presses and recognition, and statement O35. -/

namespace Sys2Proof.Machine

/-! ### The matrix and the scan (R80 to R83) -/

theorem Keyboard.isDown_iff (k : Keyboard) (i : Nat) : k.isDown i = true ↔ k.stateOf i ≠ .up := by
  simp [Keyboard.isDown]

theorem Keyboard.inRectangle_iff (k : Keyboard) (key : Nat) : k.inRectangle key = true ↔
    ∃ d t, d < 8 ∧ t < 8 ∧ d ≠ key / 8 ∧ t ≠ key % 8 ∧ k.stateOf (8 * (key / 8) + t) ≠ .up
      ∧ k.stateOf (8 * d + key % 8) ≠ .up ∧ k.stateOf (8 * d + t) ≠ .up := by
  simp only [Keyboard.inRectangle, List.any_eq_true, List.mem_range, Bool.and_eq_true, decide_eq_true_eq, Keyboard.isDown_iff]
  constructor
  · rintro ⟨d, hd, ⟨hd', hrow⟩, t, ht, ⟨ht', hcol⟩, hcorner⟩
    exact ⟨d, t, hd, ht, hd', ht', hcol, hrow, hcorner⟩
  · rintro ⟨d, t, hd, ht, hd', ht', hcol, hrow, hcorner⟩
    exact ⟨d, hd, ⟨hd', hrow⟩, t, ht, ⟨ht', hcol⟩, hcorner⟩

theorem Keyboard.passes_iff (k : Keyboard) (key i : Nat) :
    k.passes key i = true ↔ if k.pos ≤ key then k.pos ≤ i ∧ i < key else k.pos ≤ i ∨ i < key := by
  unfold Keyboard.passes
  split <;> simp

/-- A sense line answers for every key on it that reads down (R95). -/
theorem senseLines_bits (keys : Vector Bool 64) {j : Nat} (h : j < 8) :
    (senseLines keys).getLsbD j = true ↔ ∃ d, d < 8 ∧ keys[8 * d + j]? = some true := by
  have hbit : (senseLines keys).getLsbD j = (List.range 8).any fun d => (keys[8 * d + j]?).getD false :=
    chosenPowers_bits (fun j => (List.range 8).any fun d => (keys[8 * d + j]?).getD false) h
  rw [hbit, List.any_eq_true]
  refine exists_congr fun d => and_congr List.mem_range ?_
  cases keys[8 * d + j]? <;> simp

theorem scanTo_passed (key : Nat) (down : Bool) (s : State) {i : Nat} (h : i < 64) (hp : s.kb.passes key i = true) :
    (scanTo key down s).kb.agreeOf i = 0
      ∧ (i ≠ key → (scanTo key down s).pins.keys[i]? = some (decide (s.kb.stateOf i ≠ .up))) := by
  refine ⟨by rw [scanTo_agreeOf key down s h, if_pos hp], fun hne => ?_⟩
  rw [scanTo_keys key down s h, if_neg hne, if_pos hp]
  rfl

theorem scanTo_unpassed (key : Nat) (down : Bool) (s : State) {i : Nat} (h : i < 64) (hp : ¬s.kb.passes key i = true) :
    (scanTo key down s).kb.agreeOf i = s.kb.agreeOf i
      ∧ (i ≠ key → (scanTo key down s).pins.keys[i]? = s.pins.keys[i]?) := by
  refine ⟨by rw [scanTo_agreeOf key down s h, if_neg hp], fun hne => ?_⟩
  rw [scanTo_keys key down s h, if_neg hne, if_neg hp, Vector.getElem?_eq_getElem h, Option.getD_some]

/-! ### One reading (R81) -/

section Reading

variable {s : State} {key : Nat} {down : Bool}

theorem readKey_agrees (h : s.kb.isDown key = down) : readKey key down s =
    { scanTo key down s with kb := { (scanTo key down s).kb with
      agree := (scanTo key down s).kb.agree.setIfInBounds key 0 } } := if_pos h

theorem readKey_counts (hkey : key < 64) (h : s.kb.isDown key ≠ down) (hc : s.kb.agreeOf key < 2) : readKey key down s =
    { scanTo key down s with kb := { (scanTo key down s).kb with
      agree := (scanTo key down s).kb.agree.setIfInBounds key (s.kb.agreeOf key + 1) } } := by
  have hself := scanTo_agreeOf_self down s hkey
  refine Eq.trans (if_neg h) (Eq.trans (if_pos ?_) ?_)
  · rw [hself]; simp only [Config.agreeLimit]; omega
  · rw [hself]; rfl

theorem readKey_turns (hkey : key < 64) (h : s.kb.isDown key ≠ down) (hc : 2 ≤ s.kb.agreeOf key) : readKey key down s =
    if down then pressKey key (scanTo key down s) else releaseKey key (scanTo key down s) := by
  have hself := scanTo_agreeOf_self down s hkey
  refine Eq.trans (if_neg h) (if_neg ?_)
  rw [hself]; simp only [Config.agreeLimit]; omega

end Reading

theorem Keyboard.scans_of {k : Keyboard} (hr : k.running = true) (hf : k.fresh = false) : k.scans = true := by
  simp only [Keyboard.scans, hr, hf, Bool.not_false, Bool.and_true]

/-! ### Presses (R81, R82, R157) -/

theorem touchStandby_kb (s : State) (k : Keyboard) : touchStandby { s with kb := k } = { touchStandby s with kb := k } := by
  unfold touchStandby
  split <;> rfl

section Press

variable {s : State} {key : Nat}

theorem pressKey_ghost (h : s.kb.inRectangle key = true) : pressKey key s = { touchStandby s with kb := { s.kb with
    keys := s.kb.keys.setIfInBounds key .heldGhost, agree := s.kb.agree.setIfInBounds key 0 } } := by
  unfold pressKey
  rw [touchStandby_kb]
  exact if_pos h

theorem pressKey_full (h : s.kb.inRectangle key = false) (hl : 4 ≤ s.kb.list.length) :
    pressKey key s = { touchStandby s with kb := { s.kb with
      keys := s.kb.keys.setIfInBounds key .heldFull, agree := s.kb.agree.setIfInBounds key 0
      heldFull := s.kb.heldFull ++ [key] } } := by
  unfold pressKey
  rw [touchStandby_kb]
  exact (if_neg (ne_true_of_eq_false h)).trans (if_pos hl)

theorem pressKey_recognised (h : s.kb.inRectangle key = false) (hl : s.kb.list.length < 4) :
    pressKey key s = recognise key { touchStandby s with kb := { s.kb with agree := s.kb.agree.setIfInBounds key 0 } } := by
  unfold pressKey
  rw [touchStandby_kb]
  exact (if_neg (ne_true_of_eq_false h)).trans (if_neg (Nat.not_le.mpr hl))

end Press

/-! ### Recognition (R87 to R94) -/

section Recognition

variable {s : State} {key : Nat}

theorem recognise_char {u f : StationCode} (h : (s.kb.keymap[key]?).getD .none = .char u f) :
    recognise key s = offerKey key (s.kb.charCode u f) false
      { s with kb := (s.kb.joinList key .char (some (s.kb.charCode u f))).retarget key (s.kb.charCode u f) } := by
  simp only [recognise, h]

theorem recognise_rept (h : (s.kb.keymap[key]?).getD .none = .rept) : recognise key s = { s with
    kb := if s.kb.lists .rept then s.kb.joinList key .rept none else (s.kb.joinList key .rept none).beginHold } := by
  simp only [recognise, h]

theorem recognise_brk (h : (s.kb.keymap[key]?).getD .none = .brk) :
    recognise key s = breakKey { s with kb := s.kb.joinList key .brk none } := by
  simp only [recognise, h]

theorem recognise_shift (h : (s.kb.keymap[key]?).getD .none = .shift) :
    recognise key s = { s with kb := s.kb.joinList key .shift none } := by
  simp only [recognise, h]

theorem recognise_none (h : (s.kb.keymap[key]?).getD .none = .none) :
    recognise key s = { s with kb := s.kb.joinList key .none none } := by
  simp only [recognise, h]

theorem recognise_hereIs (h : (s.kb.keymap[key]?).getD .none = .hereIs) :
    recognise key s = triggerAnswerback { s with kb := s.kb.joinList key .hereIs none } := by
  simp only [recognise, h]

theorem recognise_localLine (h : (s.kb.keymap[key]?).getD .none = .localLine) :
    recognise key s = raise (.localLine key) { s with kb := s.kb.joinList key .localLine none } := by
  simp only [recognise, h]

end Recognition

/-- A code offered to a buffer with room joins it (R88, R91). -/
theorem offerKey_joins {s : State} (key : Nat) (code : StationCode) (rep : Bool) (h : s.kb.buffer.length < 32) :
    offerKey key code rep s = { s with kb := { s.kb with buffer := s.kb.buffer ++ [code] } } := if_pos h

/-- A code offered to a full buffer is refused with a bell (R88, R91, R94). -/
theorem offerKey_refused {s : State} (key : Nat) (code : StationCode) (rep : Bool) (h : 32 ≤ s.kb.buffer.length) :
    offerKey key code rep s = raise (.keyRefused key code rep) { s with pr := { s.pr with bell := true } } :=
  if_neg (Nat.not_lt.mpr h)

theorem retarget_buffer (k : Keyboard) (key : Nat) (c : StationCode) : (k.retarget key c).buffer = k.buffer := by
  unfold Keyboard.retarget
  split <;> rfl

/-- Settles O35: a reading by its level and count, a press by the matrix and the list, recognition by the keymap entry. -/
theorem keyDownActs : Obligations.KeyDownActs := by
  unfold Obligations.KeyDownActs
  refine ⟨?readings, ?scan, fun s key => ⟨pressKey_ghost, pressKey_full, pressKey_recognised⟩,
    fun k key _ => k.inRectangle_iff key, ?recognition⟩
  case readings =>
    intro s key hr hf hkey
    have hexec (n : Nat) : exec (.keyDown ⟨key, n⟩) s = .next (readKeys key true n s) :=
      if_pos ⟨Keyboard.scans_of hr hf, hkey⟩
    have hone : exec (.keyDown ⟨key, 1⟩) s = .next (readKey key true s) := hexec 1
    refine ⟨hexec 0, fun n => ⟨hexec n, rfl⟩, fun hup => ?_, fun hup hc => ?_, fun hup hc => ?_⟩ <;> rw [hone]
    · rw [readKey_agrees ((s.kb.isDown_iff key).mpr hup)]
    · have hne : s.kb.isDown key ≠ true := fun hd => (s.kb.isDown_iff key).mp hd hup
      rw [readKey_counts hkey hne hc]
    · have hne : s.kb.isDown key ≠ true := fun hd => (s.kb.isDown_iff key).mp hd hup
      rw [readKey_turns hkey hne hc, if_pos rfl]
  case scan =>
    intro s key down hkey t passed
    refine ⟨scanTo_eq key down s, fun i hi => ⟨fun hp => ?_, fun hp => ?_, fun he => ?_, fun hne hp => ?_, fun hne hp => ?_⟩,
      fun j hj => senseLines_bits _ hj⟩
    · exact (scanTo_passed key down s hi ((s.kb.passes_iff key i).mpr hp)).1
    · exact (scanTo_unpassed key down s hi fun h => hp ((s.kb.passes_iff key i).mp h)).1
    · exact (scanTo_keys key down s hi).trans (by rw [if_pos he])
    · exact (scanTo_passed key down s hi ((s.kb.passes_iff key i).mpr hp)).2 hne
    · exact (scanTo_unpassed key down s hi fun h => hp ((s.kb.passes_iff key i).mp h)).2 hne
  case recognition =>
    intro s key entry listed
    refine ⟨fun u f he => ?_, fun he => ?_, fun he => ?_, fun he hl => ?_, fun he hl => ?_, fun he hst hs => ?_,
      fun he h => ?_, fun he => ?_, fun he => ?_⟩
    · intro c k
      have hc : s.kb.charCode u f = c := rfl
      have hk : (s.kb.joinList key .char (some c)).retarget key c = k := rfl
      have hbuf : k.buffer = s.kb.buffer := hk ▸ retarget_buffer _ key c
      have hrec := recognise_char (key := key) he
      rw [hc, hk] at hrec
      refine ⟨fun hb => ?_, fun hb => ?_⟩
      · rw [hrec, offerKey_joins key c false (by exact hbuf ▸ hb), ← hbuf]
      · rw [hrec, offerKey_refused key c false (by exact hbuf ▸ hb)]
    · exact recognise_shift he
    · exact recognise_none he
    · exact (recognise_rept he).trans (by rw [show s.kb.lists .rept = true from hl]; rfl)
    · exact (recognise_rept he).trans (by rw [show s.kb.lists .rept = false from hl]; rfl)
    · exact (recognise_brk he).trans (if_pos ⟨hst, hs⟩)
    · refine (recognise_brk he).trans (if_neg ?_)
      rintro ⟨hst, hs⟩
      exact h.elim (fun h => h hst) (fun h => h hs)
    · exact recognise_hereIs he
    · exact recognise_localLine he

end Sys2Proof.Machine
end


section
/-! SUPPORT. Releases, held keys, the repeat and the first scan, and statement O36. -/

namespace Sys2Proof.Machine

/-! ### Ghost holds (R84) -/

/-- A key set back to UP, its agreement count 0. -/
def Keyboard.freed (key : Nat) (k : Keyboard) : Keyboard := (k.setState key .up).setAgree key 0

theorem Keyboard.freed_stateOf (k : Keyboard) {key : Nat} (h : key < 64) (i : Nat) :
    (k.freed key).stateOf i = if i = key then .up else k.stateOf i := by
  unfold Keyboard.freed Keyboard.setState Keyboard.setAgree Keyboard.stateOf
  dsimp only
  rw [Vector.getElem?_setIfInBounds]
  by_cases hi : i = key
  · subst hi
    simp [h]
  · rw [if_neg (Ne.symm hi), if_neg hi]

theorem Keyboard.freed_agreeOf (k : Keyboard) {key : Nat} (h : key < 64) (i : Nat) :
    (k.freed key).agreeOf i = if i = key then 0 else k.agreeOf i := by
  unfold Keyboard.freed Keyboard.setState Keyboard.setAgree Keyboard.agreeOf
  dsimp only
  rw [Vector.getElem?_setIfInBounds]
  by_cases hi : i = key
  · subst hi
    simp [h]
  · rw [if_neg (Ne.symm hi), if_neg hi]

/-- A rectangle of a matrix stands in every matrix with the same keys down. -/
theorem Keyboard.inRectangle_mono {k t : Keyboard} (h : ∀ i, t.stateOf i ≠ .up → k.stateOf i ≠ .up) {key : Nat}
    (ht : t.inRectangle key = true) : k.inRectangle key = true := by
  obtain ⟨d, c, hd, hc, hd', hc', h1, h2, h3⟩ := (t.inRectangle_iff key).mp ht
  exact (k.inRectangle_iff key).mpr ⟨d, c, hd, hc, hd', hc', h _ h1, h _ h2, h _ h3⟩

/-- `t` is `k` with some of its ghost holds set back to UP, each of them in no rectangle of `t`. -/
structure Keyboard.GhostsFreed (k t : Keyboard) : Prop where
  rest : t = { k with keys := t.keys, agree := t.agree }
  down : ∀ i, t.stateOf i ≠ .up → k.stateOf i ≠ .up
  other : ∀ i, k.stateOf i ≠ .heldGhost → t.stateOf i = k.stateOf i ∧ t.agreeOf i = k.agreeOf i
  ghost : ∀ i, k.stateOf i = .heldGhost → (t.stateOf i = .heldGhost ∧ t.agreeOf i = k.agreeOf i)
    ∨ (t.stateOf i = .up ∧ t.agreeOf i = 0 ∧ t.inRectangle i = false)

theorem Keyboard.GhostsFreed.refl (k : Keyboard) : k.GhostsFreed k :=
  ⟨rfl, fun _ h => h, fun _ _ => ⟨rfl, rfl⟩, fun _ h => Or.inl ⟨h, rfl⟩⟩

/-- One ghost hold in no rectangle, set back to UP, goes before the others. -/
theorem Keyboard.GhostsFreed.step {k t : Keyboard} {key : Nat} (hkey : key < 64) (hg : k.stateOf key = .heldGhost)
    (hr : k.inRectangle key = false) (h : (k.freed key).GhostsFreed t) : k.GhostsFreed t := by
  have hdown : ∀ i, t.stateOf i ≠ .up → k.stateOf i ≠ .up := by
    intro i hi
    have hfreed := h.down i hi
    rw [k.freed_stateOf hkey i] at hfreed
    by_cases hik : i = key
    · rw [hik, hg]; decide
    · rwa [if_neg hik] at hfreed
  refine ⟨h.rest, hdown, fun i hi => ?_, fun i hi => ?_⟩
  · have hik : i ≠ key := fun he => hi (he ▸ hg)
    have hi' : (k.freed key).stateOf i ≠ .heldGhost := by rwa [k.freed_stateOf hkey i, if_neg hik]
    obtain ⟨hs, ha⟩ := h.other i hi'
    rw [k.freed_stateOf hkey i, if_neg hik] at hs
    rw [k.freed_agreeOf hkey i, if_neg hik] at ha
    exact ⟨hs, ha⟩
  · by_cases hik : i = key
    · subst hik
      have hi' : (k.freed i).stateOf i ≠ .heldGhost := by rw [k.freed_stateOf hkey i, if_pos rfl]; decide
      obtain ⟨hs, ha⟩ := h.other i hi'
      rw [k.freed_stateOf hkey i, if_pos rfl] at hs
      rw [k.freed_agreeOf hkey i, if_pos rfl] at ha
      refine Or.inr ⟨hs, ha, ?_⟩
      rw [← Bool.not_eq_true]
      exact fun ht => by rw [Keyboard.inRectangle_mono hdown ht] at hr; exact Bool.noConfusion hr
    · have hi' : (k.freed key).stateOf i = .heldGhost := by rwa [k.freed_stateOf hkey i, if_neg hik]
      have hghost := h.ghost i hi'
      rwa [k.freed_agreeOf hkey i, if_neg hik] at hghost

theorem Keyboard.freeGhost?_some {k : Keyboard} {key : Nat} (h : k.freeGhost? = some key) :
    key < 64 ∧ k.stateOf key = .heldGhost ∧ k.inRectangle key = false := by
  have hmem := List.mem_range.mp (List.mem_of_find?_eq_some h)
  have hp := List.find?_some h
  simp only [Bool.and_eq_true, decide_eq_true_eq, Bool.not_eq_true'] at hp
  exact ⟨hmem, hp.1, hp.2⟩

theorem Keyboard.freeGhost?_none {k : Keyboard} (h : k.freeGhost? = none) {key : Nat} (hkey : key < 64)
    (hg : k.stateOf key = .heldGhost) : k.inRectangle key = true := by
  have hp := List.find?_eq_none.mp h key (List.mem_range.mpr hkey)
  simpa [hg] using hp

theorem Keyboard.freeGhosts_freed (n : Nat) (k : Keyboard) : k.GhostsFreed (k.freeGhosts n) := by
  induction n generalizing k with
  | zero => exact .refl k
  | succ n ih =>
    cases hg : k.freeGhost? with
    | none => simp only [Keyboard.freeGhosts, hg]; exact .refl k
    | some key =>
      obtain ⟨hkey, hghost, hrect⟩ := Keyboard.freeGhost?_some hg
      simp only [Keyboard.freeGhosts, hg]
      exact .step hkey hghost hrect (ih (k.freed key))

/-- The ghost holds of the matrix. -/
def Keyboard.ghosts (k : Keyboard) : List Nat := (List.range 64).filter fun i => decide (k.stateOf i = .heldGhost)

theorem Keyboard.mem_ghosts_iff (k : Keyboard) (i : Nat) : i ∈ k.ghosts ↔ i < 64 ∧ k.stateOf i = .heldGhost := by
  rw [Keyboard.ghosts, List.mem_filter, List.mem_range, decide_eq_true_iff]

theorem Keyboard.ghosts_nodup (k : Keyboard) : k.ghosts.Nodup := List.nodup_range.sublist List.filter_sublist

theorem Keyboard.ghosts_freed_lt {k : Keyboard} {key : Nat} (hkey : key < 64) (hg : k.stateOf key = .heldGhost) :
    (k.freed key).ghosts.length < k.ghosts.length := by
  have hmem : key ∈ k.ghosts := (k.mem_ghosts_iff key).mpr ⟨hkey, hg⟩
  have herase : (k.freed key).ghosts ⊆ k.ghosts.erase key := by
    intro i hi
    obtain ⟨hlt, hs⟩ := ((k.freed key).mem_ghosts_iff i).mp hi
    rw [k.freed_stateOf hkey i] at hs
    by_cases hik : i = key
    · rw [if_pos hik] at hs; exact KeyState.noConfusion hs
    · rw [if_neg hik] at hs
      exact (List.mem_erase_of_ne hik).mpr ((k.mem_ghosts_iff i).mpr ⟨hlt, hs⟩)
  have hle := (k.freed key).ghosts_nodup.length_le_of_subset herase
  have hpos := List.length_pos_of_mem hmem
  rw [List.length_erase_of_mem hmem] at hle
  omega

/-- With fuel for every ghost hold, none is left to be set back. -/
theorem Keyboard.freeGhosts_done {n : Nat} {k : Keyboard} (h : k.ghosts.length ≤ n) : (k.freeGhosts n).freeGhost? = none := by
  induction n generalizing k with
  | zero =>
    cases hg : k.freeGhost? with
    | none => exact hg
    | some key =>
      obtain ⟨hkey, hghost, -⟩ := Keyboard.freeGhost?_some hg
      exact absurd (Keyboard.ghosts_freed_lt hkey hghost) (by omega)
  | succ n ih =>
    cases hg : k.freeGhost? with
    | none => simp only [Keyboard.freeGhosts, hg]
    | some key =>
      obtain ⟨hkey, hghost, -⟩ := Keyboard.freeGhost?_some hg
      have hlt := Keyboard.ghosts_freed_lt hkey hghost
      simp only [Keyboard.freeGhosts, hg]
      exact ih (k := k.freed key) (by omega)

theorem Keyboard.ghosts_le (k : Keyboard) : k.ghosts.length ≤ 64 := List.length_filter_le _ (List.range 64)

/-! ### Full holds (R84) -/

theorem freeFulls_stops (n : Nat) {s : State} (h : s.kb.heldFull = [] ∨ 4 ≤ s.kb.list.length) : freeFulls (n + 1) s = s := by
  unfold freeFulls
  cases hf : s.kb.heldFull with
  | nil => rfl
  | cons key rest => exact if_neg (Nat.not_lt.mpr (h.resolve_left (by simp [hf])))

theorem freeFulls_tests (n : Nat) {s : State} {key : Nat} {rest : List Nat} (hf : s.kb.heldFull = key :: rest)
    (hl : s.kb.list.length < 4) : freeFulls (n + 1) s =
      if s.kb.inRectangle key then freeFulls n { s with kb := { s.kb with
        keys := s.kb.keys.setIfInBounds key .heldGhost, heldFull := rest } }
      else freeFulls n (recognise key { s with kb := { s.kb with heldFull := rest } }) := by
  have hcap : s.kb.list.length < Config.keyListCapacity := hl
  simp only [freeFulls, hf, hcap, if_true, Keyboard.setState]
  rfl

/-! ### Releases (R82, R90) -/

/-- A key leaves the list: its part in the hold and as the target ends (R82, R90). -/
theorem Keyboard.leaveList_eq (key : Nat) (k : Keyboard) :
    let left := k.list.filter fun d => d.key != key
    let ended : Bool := k.list.any (fun d => d.kind == .rept) && !left.any fun d => d.kind == .rept
    let lost : Bool := ended || k.target.any fun t => t.1 == key
    k.leaveList key = { k with
      list := left, hold := if ended then .absent else k.hold, count := if ended then 0 else k.count
      target := if lost then none else k.target, timer := if lost then none else k.timer } := by
  intro left ended lost
  have hended : ended = (k.lists .rept && !{ k with list := left }.lists .rept) := rfl
  have hlost : lost = (ended || k.target.any fun t => t.1 == key) := rfl
  clear_value ended
  rw [hlost]
  unfold Keyboard.leaveList
  dsimp only
  rw [← hended]
  cases ended <;> cases k.target.any (fun t => t.1 == key) <;> rfl

/-! ### The repeat (R91) -/

theorem exec_repeatTimerExpiry_stands {s : State} (h : s.kb.target = none ∨ s.kb.timer = none ∨ s.kb.hold ≠ .active) :
    exec .repeatTimerExpiry s = .next s := by
  simp only [exec, execRepeatTimerExpiry]
  split
  next ht hn => exact if_neg fun hh => by simp [ht, hn, hh] at h
  next => rfl

theorem offerKey_count (key : Nat) (code : StationCode) (rep : Bool) (s : State) :
    (offerKey key code rep s).kb.count = s.kb.count := by
  unfold offerKey
  split <;> simp

/-- Settles O36: releases by the list and the hold, held keys by the loops over them, the repeat by its count. -/
theorem keysRepeatsAndScan : Obligations.KeysRepeatsAndScan := by
  unfold Obligations.KeysRepeatsAndScan
  refine ⟨?readings, ?release, ?ghosts, ?fulls, fun s => exec_repeatTimerExpiry_stands, ?repeats, ?first, ?drive⟩
  case readings =>
    intro s key hr hf hkey
    have hexec (n : Nat) : exec (.keyUp ⟨key, n⟩) s = .next (readKeys key false n s) :=
      if_pos ⟨Keyboard.scans_of hr hf, hkey⟩
    have hone : exec (.keyUp ⟨key, 1⟩) s = .next (readKey key false s) := hexec 1
    refine ⟨hexec 0, fun n => ⟨hexec n, rfl⟩, fun hup => ?_, fun hup hc => ?_, fun hup hc => ?_⟩ <;> rw [hone]
    · have hd : s.kb.isDown key = false := decide_eq_false (Classical.not_not.mpr hup)
      rw [readKey_agrees hd]
    · have hne : s.kb.isDown key ≠ false := by rw [(s.kb.isDown_iff key).mpr hup]; decide
      rw [readKey_counts hkey hne hc]
    · have hne : s.kb.isDown key ≠ false := by rw [(s.kb.isDown_iff key).mpr hup]; decide
      rw [readKey_turns hkey hne hc, if_neg Bool.false_ne_true]
  case release =>
    intro s key left ended lost k
    have hkb : (touchStandby s).kb = s.kb := by simp
    unfold releaseKey reexamine
    dsimp only
    rw [hkb, Keyboard.leaveList_eq]
    rfl
  case ghosts =>
    intro k t
    have hfreed : k.GhostsFreed t := k.freeGhosts_freed 64
    refine ⟨hfreed.rest, fun key hkey => ⟨hfreed.other key, fun hg hr => ?_, fun hg hr => ?_⟩⟩
    · rcases hfreed.ghost key hg with h | ⟨-, -, hout⟩
      · exact h
      · rw [hout] at hr; exact Bool.noConfusion hr
    · rcases hfreed.ghost key hg with ⟨hs, -⟩ | ⟨hs, ha, -⟩
      · have hin := Keyboard.freeGhost?_none (Keyboard.freeGhosts_done k.ghosts_le) hkey hs
        rw [hin] at hr; exact Bool.noConfusion hr
      · exact ⟨hs, ha⟩
  case fulls =>
    intro n s
    refine ⟨freeFulls_stops n, fun key rest hf hl => ⟨fun hr => ?_, fun hr => ?_⟩⟩
    · rw [freeFulls_tests n hf hl, hr, if_pos rfl]
    · rw [freeFulls_tests n hf hl, hr, if_neg Bool.false_ne_true]
  case repeats =>
    intro s key code n hh ht hn s1
    have hs1 : offerKey key code true s = s1 := rfl
    have hcount : s1.kb.count = s.kb.count := hs1 ▸ offerKey_count key code true s
    have hexec : exec .repeatTimerExpiry s =
        if s1.kb.count + 1 < Config.repeatLimit then
          .next { s1 with kb := { s1.kb with count := s1.kb.count + 1, timer := some 100 } }
        else .next { s1 with kb := { s1.kb with
          count := Config.repeatLimit, hold := .exhausted, target := none, timer := none } } := by
      simp only [exec, execRepeatTimerExpiry, ht, hn, hh, if_true]
      rfl
    refine ⟨fun hc => ?_, fun hc => ?_⟩
    · rw [hexec, hcount]; exact if_pos (by simp only [Config.repeatLimit]; omega)
    · rw [hexec, hcount]; exact if_neg (by simp only [Config.repeatLimit]; omega)
  case first =>
    intro s scan hr hf
    refine ⟨scannedKeys scan, perKey scan.getLsbD, if_pos ⟨hr, hf⟩, fun k => ⟨?_, ?_⟩⟩
    · exact perKey_getElem _ k k.isLt
    · exact perKey_getElem _ k k.isLt
  case drive =>
    intro k
    refine ⟨fun h => ?_, fun h hpos d hd => ?_⟩
    · rw [Keyboard.driveLines, h]; rfl
    · rw [Keyboard.driveLines, h, if_pos rfl, BitVec.getLsbD_ofNat, Nat.testBit_two_pow]
      simp [hd, eq_comm]

end Sys2Proof.Machine
end


section
/-! SUPPORT. The printer's motor, and statement O37. -/

namespace Sys2Proof.Machine

/-! ### Start requests (R97, R144) -/

theorem answerStart_of_call {s : State} (hp : s.pr.startPending = true) (hst : s.call.state = .starting) :
    answerStart s = enterAnswering { s with pr := { s.pr with startPending := false } } :=
  (if_pos hp).trans (if_pos hst)

/-- The answer to a start request changes nothing of the printer but the request (R97). -/
theorem answerStart_pr (s : State) : (answerStart s).pr = { s.pr with startPending := false } := by
  unfold answerStart
  cases h : s.pr.startPending with
  | false =>
    have hpr : s.pr = { s.pr with startPending := false } := by rw [← h]
    exact hpr
  | true =>
    rw [if_pos rfl]
    dsimp only
    split <;> rfl

theorem requestStart_waits {s : State} (h : s.pr.state = .off ∨ s.pr.state = .starting) :
    requestStart s = { s with pr := { s.pr with startPending := true, offTicks := 0 } } := if_pos h

theorem requestStart_answered {s : State} (h : ¬(s.pr.state = .off ∨ s.pr.state = .starting)) :
    requestStart s = answerStart { s with pr := { s.pr with startPending := true, offTicks := 0 } } := if_neg h

/-! ### Work (R96) -/

theorem Store.unprinted_iff (st : Store) (n : Nat) : st.unprinted n = true ↔ st.printOf n < st.lengthOf n := by
  simp [Store.unprinted]

theorem State.catchUpLeft_iff (s : State) : s.catchUpLeft = true ↔
    ∃ n, (s.pr.catchUp = some n ∨ s.pr.tracked = some n) ∧ s.store.printOf n < s.store.lengthOf n := by
  simp only [State.catchUpLeft, Bool.or_eq_true, Bool.and_eq_true, decide_eq_true_eq, Option.any_eq_true,
    Store.unprinted_iff]
  constructor
  · rintro (⟨n, hn, hl⟩ | ⟨-, n, hn, hl⟩)
    · exact ⟨n, Or.inl hn, hl⟩
    · exact ⟨n, Or.inr hn, hl⟩
  · rintro ⟨n, hn | hn, hl⟩
    · exact Or.inl ⟨n, hn, hl⟩
    · by_cases he : s.pr.tracked = s.pr.catchUp
      · exact Or.inl ⟨n, he ▸ hn, hl⟩
      · exact Or.inr ⟨he, n, hn, hl⟩

theorem Printer.noLiveWork_iff (p : Printer) : p.noLiveWork = true ↔
    p.queue = [] ∧ p.tracked = none ∧ p.mode = .direct ∧ p.unavailable = false := by
  simp [Printer.noLiveWork, and_assoc]

theorem Printer.jobMayRun_iff (p : Printer) : p.jobMayRun = true ↔
    p.jobs ≠ [] ∧ p.queue = [] ∧ p.tracked = none ∧ p.mode = .direct ∧ p.unavailable = false := by
  rw [Printer.jobMayRun, Bool.and_eq_true, p.noLiveWork_iff, and_comm]
  simp

theorem Printer.homingDue_iff (p : Printer) : p.homingDue = true ↔ p.state = .ready ∧ p.columnKnown = false := by
  simp [Printer.homingDue]

theorem State.printerWork_iff (s : State) : s.printerWork = true ↔
    (s.pr.queue ≠ [] ∨ (s.pr.mode = .catchUp ∧ s.catchUpLeft = true) ∨ s.pr.jobMayRun = true ∨ s.pr.startPending = true
      ∨ s.pr.waiting ≠ none) ∨ (s.pr.state = .ready ∧ s.pr.columnKnown = false) := by
  simp only [State.printerWork, Bool.or_eq_true, Bool.and_eq_true, decide_eq_true_eq, Bool.not_eq_true', Printer.homingDue_iff,
    List.isEmpty_eq_false_iff, Option.isSome_iff_ne_none]
  grind

/-! ### The motor's events (R97, R98) -/

theorem exec_motorReady_of_starting {s : State} (h : s.pr.state = .starting) :
    let s1 := answerStart { s with pr := { s.pr with state := .ready }, pins := { s.pins with motorReady := true } }
    exec .motorReady s =
      .next (if s.pr.columnKnown then readyComparison s1 else { s1 with pr := s1.pr.startReturn none }) := by
  intro s1
  have hk : s1.pr.columnKnown = s.pr.columnKnown := by simp only [s1, answerStart_pr]
  rw [← hk]
  exact if_pos h

theorem exec_motorStartTimeout_of_starting {s : State} (h : s.pr.state = .starting) :
    exec .motorStartTimeout s =
      if s.pr.startPending then .next (answerStart (enterCatchUp s.pr.tracked
        { s with pr := { s.pr with state := .off, motorOn := false, unavailable := true } }))
      else .next (jam .motor s) := if_pos h

/-- Settles O37: each event of the motor by the printer's state. -/
theorem motorEvents : Obligations.MotorEvents := by
  unfold Obligations.MotorEvents
  refine ⟨?request, ?start, ?noStart, ?work, ?ready, ?notStarting, ?timeout, ?drop, ?timer⟩
  case request =>
    intro s
    refine ⟨requestStart_waits, fun h1 h2 hst => ?_⟩
    refine (requestStart_answered fun h => h.elim h1 h2).trans ?_
    exact answerStart_of_call rfl hst
  case start => exact fun s h1 h2 h3 h4 => if_pos ⟨h1, h2, h3, h4⟩
  case noStart =>
    intro s h
    refine if_neg ?_
    rintro ⟨h1, h2, h3, h4⟩
    rcases h with h | h | h | h
    · exact h h1
    · exact Bool.noConfusion (h2.symm.trans h)
    · exact Bool.noConfusion (h3.symm.trans h)
    · exact h4 h
  case work =>
    intro s textLeft mayRun work
    have hwork : s.printerWork = true ↔ work ∨ (s.pr.state = .ready ∧ s.pr.columnKnown = false) := by
      rw [s.printerWork_iff, s.catchUpLeft_iff, s.pr.jobMayRun_iff]
    refine ⟨fun h => ?_, fun h => ?_⟩
    · rw [hwork]; exact or_iff_left fun hr => h hr.1
    · rw [hwork]; exact or_congr_right (and_iff_right h)
  case ready =>
    intro s h s1
    refine ⟨fun hk => ?_, fun hk => ?_⟩
    · exact (exec_motorReady_of_starting h).trans (by rw [hk]; rfl)
    · exact (exec_motorReady_of_starting h).trans (by rw [hk]; rfl)
  case notStarting => exact fun s h => ⟨if_neg h, if_neg h⟩
  case timeout =>
    intro s h
    refine ⟨fun hp => ?_, fun hp => ?_⟩
    · rw [exec_motorStartTimeout_of_starting h, if_neg (by simp [hp])]
    · rw [exec_motorStartTimeout_of_starting h, if_pos hp]
  case drop =>
    intro s s1
    refine ⟨fun h => ?_, fun h => ?_, fun h => ?_⟩
    · simp only [exec, execMotorReadyDrop, s1, h]
    · rcases h with h | h | h <;> simp only [exec, execMotorReadyDrop, s1, h]
    · rcases h with h | h | h | h <;> simp only [exec, execMotorReadyDrop, s1, h]
  case timer =>
    intro s idle off
    have hidle : s.motorOffRuns = true ↔ idle := s.motorOffRuns_iff
    refine ⟨fun h => ?_, fun h => ?_, fun h hn => ?_, fun h hn => ?_⟩
    · have hr := hidle.mpr h
      exact ⟨if_pos hr, if_pos hr⟩
    · have hr : s.motorOffRuns = false := (Bool.not_eq_true _).mp fun ht => h (hidle.mp ht)
      exact ⟨if_neg (by simp [hr]), motorOffTick_stands hr, if_neg (by simp [hr])⟩
    · rcases motorOffTick_runs (hidle.mpr h) with ⟨-, ht⟩ | ⟨hlate, -⟩
      · exact ht
      · omega
    · rcases motorOffTick_runs (hidle.mpr h) with ⟨hsoon, -⟩ | ⟨-, ht⟩
      · omega
      · exact ht

end Sys2Proof.Machine
end


section
/-! SUPPORT. What the printer takes next, and statement O38. -/

namespace Sys2Proof.Machine

/-! ### The character taken (R102, R104 to R107) -/

section Take

variable {c : PrChar} {s : State}

theorem takeChar_glyph_newline (h : 0x20 ≤ c.code.toNat) (he : s.pr.lineEnd = true) (hp : s.pr.policy = .autoNewline) :
    takeChar c s = { s with pr := { s.pr.ownNewline with waiting := some c } } := (if_pos h).trans (if_pos ⟨he, hp⟩)

theorem takeChar_glyph (h : 0x20 ≤ c.code.toNat) (hn : s.pr.lineEnd = false ∨ s.pr.policy = .overprint) :
    takeChar c s = { s with pr := s.pr.startCycle c } := by
  refine (if_pos h).trans (if_neg ?_)
  rintro ⟨he, hp⟩
  rcases hn with hn | hn
  · rw [hn] at he; exact Bool.noConfusion he
  · rw [hn] at hp; exact absurd hp (by decide)

theorem takeChar_control (h : c.code.toNat < 0x20) : takeChar c s =
    if c.code = Config.cr then { s with pr := s.pr.startReturn (some c) }
    else if c.code = Config.lf then { s with pr := { s.pr with state := .feeding, feed := some ⟨some c⟩ } }
    else if c.code = Config.bell then completeChar c (ringBell s)
    else completeChar c s := if_neg (Nat.not_le.mpr h)

theorem takeChar_cr (h : c.code = 0x03#7) : takeChar c s = { s with pr := s.pr.startReturn (some c) } :=
  (takeChar_control (by rw [h]; decide)).trans (if_pos h)

theorem takeChar_lf (h : c.code = 0x04#7) :
    takeChar c s = { s with pr := { s.pr with state := .feeding, feed := some ⟨some c⟩ } } :=
  (takeChar_control (by rw [h]; decide)).trans ((if_neg (by rw [h]; decide)).trans (if_pos h))

theorem takeChar_bell (h : c.code = 0x02#7) : takeChar c s = completeChar c (ringBell s) :=
  (takeChar_control (by rw [h]; decide)).trans
    ((if_neg (by rw [h]; decide)).trans ((if_neg (by rw [h]; decide)).trans (if_pos h)))

theorem takeChar_other (h : c.code.toNat < 0x20) (hb : c.code ≠ 0x02#7) (hcr : c.code ≠ 0x03#7) (hlf : c.code ≠ 0x04#7) :
    takeChar c s = completeChar c s :=
  (takeChar_control h).trans ((if_neg hcr).trans ((if_neg hlf).trans (if_neg hb)))

theorem completeChar_untagged (hq : ∀ t, c.origin ≠ .queue (some t)) (hc : ∀ t, c.origin ≠ .catchUp t)
    (hj : ∀ t, c.origin ≠ .job t) : completeChar c s = s := by
  unfold completeChar
  cases ho : c.origin with
  | queue t =>
    cases t with
    | none => rfl
    | some t => exact absurd ho (hq t)
  | catchUp t => exact absurd ho (hc t)
  | job t => exact absurd ho (hj t)

end Take

/-! ### The next character at hand (R107, R109, R112) -/

section Next

variable {p : Printer}

theorem Printer.next?_queue {e : PrEntry} {rest : List PrEntry} (h : p.mode = .direct ∨ p.holdsTagged = true)
    (hq : p.queue = e :: rest) : p.next? = some (⟨e.code, .queue e.tag⟩, { p with queue := rest }.lostJoin) := by
  simp only [Printer.next?, h, hq, if_true]

theorem Printer.next?_catchUp {c : StationCode} {rest : List StationCode} {n : Nat} (hm : p.mode = .catchUp)
    (ht : p.holdsTagged = false) (hb : p.buf = c :: rest) (hc : p.catchUp = some n) :
    p.next? = some (⟨c, .catchUp ⟨n, p.bufPos⟩⟩, { p with buf := rest, bufPos := p.bufPos + 1 }) := by
  simp only [Printer.next?, hm, ht, hb, hc, reduceCtorEq, Bool.false_eq_true, or_false, if_false]

theorem Printer.next?_job {c : StationCode} {more : List StationCode} {j : PrintJob} {rest : List PrintJob}
    (hm : p.mode = .direct) (hq : p.queue = []) (hb : p.buf = c :: more) (hj : p.jobs = j :: rest) (hr : p.jobMayRun = true)
    (hrun : p.jobRun = .body) :
    p.next? = some (⟨c, .job ⟨j.number, p.bufPos⟩⟩, { p with buf := more, bufPos := p.bufPos + 1 }) := by
  simp only [Printer.next?, hm, hq, hb, hj, hr, hrun, true_or, and_self, if_true]

/-- Between the characters of a job none is at hand (R112). -/
theorem Printer.next?_none (hm : p.mode = .direct) (hq : p.queue = []) (h : p.buf = [] ∨ p.jobRun ≠ .body) : p.next? = none := by
  simp only [Printer.next?, hm, hq, true_or, if_true]
  split
  next hb hj => exact if_neg fun hr => h.elim (fun h => by simp [h] at hb) (fun h => h hr.2)
  next => rfl

end Next

/-! ### A READY printer (R99, R106, R113) -/

section Ready

variable {s : State}

theorem exec_printerTake_of_ready (h : s.pr.state = .ready) : exec .printerTake s = .next (readyTake s) := by
  simp only [exec, execPrinterTake, h]

theorem readyTake_homing (h : s.pr.state = .ready) (hk : s.pr.columnKnown = false) :
    readyTake s = { s with pr := s.pr.startReturn none } := if_pos ((s.pr.homingDue_iff).mpr ⟨h, hk⟩)

theorem Printer.homingDue_known {p : Printer} (hk : p.columnKnown = true) : p.homingDue = false := by
  simp only [Printer.homingDue, hk, Bool.not_true, Bool.and_false]

theorem readyTake_waiting {c : PrChar} (hk : s.pr.columnKnown = true) (hw : s.pr.waiting = some c) :
    readyTake s = { s with pr := s.pr.startCycle c } := by
  simp only [readyTake, Printer.homingDue_known hk, Bool.false_eq_true, if_false, hw]

theorem readyTake_suspends (hk : s.pr.columnKnown = true) (hw : s.pr.waiting = none) (hd : s.pr.jobRun = .suspendDue) :
    readyTake s = readyComparison { s with pr := { s.pr.newlineIfNeeded with jobRun := .suspended } } := by
  simp only [readyTake, Printer.homingDue_known hk, Bool.false_eq_true, if_false, hw, hd, if_true]

theorem readyTake_next {c : PrChar} {p : Printer} (hk : s.pr.columnKnown = true) (hw : s.pr.waiting = none)
    (hd : s.pr.jobRun ≠ .suspendDue) (hn : s.pr.next? = some (c, p)) :
    readyTake s = readyComparison (takeChar c { s with pr := p }) := by
  simp only [readyTake, Printer.homingDue_known hk, Bool.false_eq_true, if_false, hw, hd, hn]

theorem readyTake_job (hk : s.pr.columnKnown = true) (hw : s.pr.waiting = none) (hd : s.pr.jobRun ≠ .suspendDue)
    (hn : s.pr.next? = none) (hm : s.pr.mode = .direct) : readyTake s = runJob s := by
  simp only [readyTake, Printer.homingDue_known hk, Bool.false_eq_true, if_false, hw, hd, hn, hm, reduceCtorEq]

/-- Out of READY and CATCH-UP no comparison is made (R110). -/
theorem readyComparison_stands (h : s.pr.state ≠ .ready ∨ s.pr.mode ≠ .catchUp) : readyComparison s = s := by
  refine if_neg ?_
  rintro ⟨hs, hm, -⟩
  exact h.elim (fun h => h hs) (fun h => h hm)

/-! ### The head job (R112) -/

variable {j : PrintJob} {rest : List PrintJob}

theorem runJob_waits (hr : s.store.printRead.isSome = true) : runJob s = s := by
  unfold runJob
  cases s.pr.jobs with
  | nil => rfl
  | cons j rest => exact if_pos (Or.inr hr)

theorem runJob_opens (hj : s.pr.jobs = j :: rest) (hm : s.pr.jobMayRun = true) (hr : s.store.printRead = none)
    (hb : s.pr.jobRun ≠ .body) : runJob s = { s with pr := { s.pr.newlineIfNeeded with jobRun := .body } } := by
  simp only [runJob, hj, hm, hr, hb, Bool.true_eq_false, Option.isSome_none, Bool.false_eq_true, or_self, if_false]

theorem runJob_body (hj : s.pr.jobs = j :: rest) (hm : s.pr.jobMayRun = true) (hr : s.store.printRead = none)
    (hb : s.pr.jobRun = .body) : runJob s =
      if j.cursor < s.store.lengthOf j.number then printerAsk j.number j.cursor s
      else if 1 < s.pr.column then { s with pr := { s.pr.ownNewline with jobRun := .closing } }
      else endJob s := by
  simp only [runJob, hj, hm, hr, hb, Bool.true_eq_false, Option.isSome_none, Bool.false_eq_true, or_self, if_false, if_true]

end Ready

theorem Printer.newlineIfNeeded_eq (p : Printer) (r : JobRun) : { p.newlineIfNeeded with jobRun := r } =
    if 1 < p.column then { p with state := .returning, ret := some ⟨none, [], false⟩, feed := some ⟨none⟩, jobRun := r }
    else { p with jobRun := r } := by
  unfold Printer.newlineIfNeeded
  split <;> rfl

/-! ### Live work (R98, R111 to R113) -/

theorem noteLiveWork_live {s : State} (h : s.pr.noLiveWork = false) :
    noteLiveWork s = suspendJob { s with pr := s.pr.stopOff } := if_neg (by simp [h])

/-- Settles O38: the READY printer by what it finds first, the head job by its stage, the character by its code. -/
theorem printerTakes : Obligations.PrinterTakes := by
  unfold Obligations.PrinterTakes
  refine ⟨?ready, ?others, ?returning, ?char, fun c s => completeChar_untagged, ?live, ?suspended⟩
  case ready =>
    intro s h
    have hexec : exec .printerTake s = .next (readyTake s) := exec_printerTake_of_ready h
    refine ⟨fun hk => ?_, fun hk => ⟨fun c hw => ?_, fun e rest hw hd hm hq => ?_, fun c rest n hw hd hm ht hb hc => ?_,
      fun j rest hw hj hq ht hm hu => ?_⟩⟩
    · rw [hexec, readyTake_homing h hk]; rfl
    · rw [hexec, readyTake_waiting hk hw]
    · rw [hexec, readyTake_next hk hw hd (Printer.next?_queue hm hq)]
    · rw [hexec, readyTake_next hk hw hd (Printer.next?_catchUp hm ht hb hc)]
    · have hruns : s.pr.jobMayRun = true := (s.pr.jobMayRun_iff).mpr ⟨by rw [hj]; exact List.cons_ne_nil _ _, hq, ht, hm, hu⟩
      refine ⟨fun hrun hr => ?_, fun c more hrun hb => ?_, fun hrun hb hr => ?_, fun hrun hb hr => ?_⟩
      · have hbody : s.pr.jobRun ≠ .body := by rcases hrun with h | h <;> rw [h] <;> decide
        have hdue : s.pr.jobRun ≠ .suspendDue := by rcases hrun with h | h <;> rw [h] <;> decide
        rw [hexec, readyTake_job hk hw hdue (Printer.next?_none hm hq (Or.inr hbody)) hm,
          runJob_opens hj hruns hr hbody, Printer.newlineIfNeeded_eq]
      · have hdue : s.pr.jobRun ≠ .suspendDue := by rw [hrun]; decide
        have hnext := Printer.next?_job hm hq hb hj hruns hrun
        exact ⟨hnext, by rw [hexec, readyTake_next hk hw hdue hnext]⟩
      · have hdue : s.pr.jobRun ≠ .suspendDue := by rw [hrun]; decide
        have htake := readyTake_job hk hw hdue (Printer.next?_none hm hq (Or.inl hb)) hm
        rw [runJob_body hj hruns hr hrun] at htake
        refine ⟨fun hl => ?_, fun hl hcol => ?_, fun hl hcol => ?_⟩ <;> rw [hexec, htake]
        · rw [if_pos hl]
        · rw [if_neg (Nat.not_lt.mpr hl), if_pos hcol]; rfl
        · rw [if_neg (Nat.not_lt.mpr hl), if_neg (Nat.not_lt.mpr hcol)]
      · have hdue : s.pr.jobRun ≠ .suspendDue := by rw [hrun]; decide
        rw [hexec, readyTake_job hk hw hdue (Printer.next?_none hm hq (Or.inl hb)) hm,
          runJob_waits (Option.isSome_iff_ne_none.mpr hr)]
  case others =>
    intro s h1 h2
    cases hs : s.pr.state with
    | ready => exact absurd hs h1
    | returning => exact absurd hs h2
    | _ => simp only [exec, execPrinterTake, hs]
  case returning =>
    intro s h hf hw hd hp hm c p hn
    have hgo : ¬(s.pr.feed.isSome = true ∨ s.pr.waiting.isSome = true ∨ s.pr.jobRun = .suspendDue ∨ s.pr.paper = false
        ∨ s.pr.motorFailed = true) := by simp [hf, hw, hd, hp, hm]
    simp only [exec, execPrinterTake, h]
    refine congrArg _ ((if_neg hgo).trans ?_)
    simp only [hn]
    rfl
  case char =>
    intro c s
    exact ⟨takeChar_glyph_newline, takeChar_glyph, takeChar_cr, takeChar_lf, takeChar_bell, takeChar_other⟩
  case live =>
    intro s live runs
    have hlive : live ↔ s.pr.noLiveWork = false := by
      rw [← Bool.not_eq_true, s.pr.noLiveWork_iff]
      have hmode : s.pr.mode = .catchUp ↔ ¬s.pr.mode = .direct := by cases s.pr.mode <;> simp
      have hun : s.pr.unavailable = true ↔ ¬s.pr.unavailable = false := by simp
      simp only [live, hmode, hun]
      grind
    refine ⟨fun hl hr => ?_, fun hl hr => ?_, fun hl => ?_⟩
    · exact (noteLiveWork_live (hlive.mp hl)).trans (if_pos hr)
    · exact (noteLiveWork_live (hlive.mp hl)).trans (if_neg hr)
    · exact noteLiveWork_idle ((Bool.not_eq_false _).mp fun h => hl (hlive.mpr h))
  case suspended =>
    intro s h hk hw hd
    have hexec : exec .printerTake s =
        .next (readyComparison { s with pr := { s.pr.newlineIfNeeded with jobRun := .suspended } }) := by
      rw [exec_printerTake_of_ready h, readyTake_suspends hk hw hd]
    rw [hexec, Printer.newlineIfNeeded_eq]
    refine ⟨fun hcol => ?_, fun hcol => ?_⟩
    · rw [if_pos hcol, readyComparison_stands (Or.inl PrState.noConfusion)]
    · rw [if_neg (Nat.not_lt.mpr hcol)]

end Sys2Proof.Machine
end


section
/-! SUPPORT. The print cycle and the end of an operation, and statement O39. -/

namespace Sys2Proof.Machine

/-! ### The events of a print cycle (R99 to R102) -/

theorem exec_rightwardStep {s : State} {c : PrChar} {aw : Bool} {l n : Nat} (h : s.pr.cycle = some ⟨c, false, aw, l, n⟩) :
    exec .rightwardStep s =
      if s.pr.column < l then .next { s with pr := { s.pr with
        hammer := false, intensity := s.pr.intensityReq, cycle := some ⟨c, true, true, l, 44237⟩ } }
      else .next { s with pr := { s.pr with
        hammer := false, intensity := s.pr.intensityReq, cycle := some ⟨c, true, false, l, 44237⟩, lineEnd := true } } := by
  simp only [exec, execRightwardStep, h]
  rfl

theorem exec_encoderPulse_step {s : State} {c : PrChar} {st : Bool} {l n : Nat} (h : s.pr.cycle = some ⟨c, st, true, l, n⟩) :
    exec .encoderPulse s = .next { s with
      pr := { s.pr with
        column := s.pr.column + 1, cycle := some ⟨c, st, false, l, n⟩
        bell := if s.pr.column + 1 = s.pr.margin then true else s.pr.bell }
      pins := { s.pins with home := false } } := by
  simp only [exec, execEncoderPulse, h]
  split <;> rfl

theorem exec_encoderPulse_return {s : State} {r : Carriage} (hc : s.pr.cycle = none) (h : s.pr.ret = some r) :
    exec .encoderPulse s = .next { s with pr := { s.pr with column := max 1 (s.pr.column - 1) } } := by
  simp only [exec, execEncoderPulse, hc, h]

theorem exec_encoderPulse_stray {s : State} (hc : ∀ c, s.pr.cycle = some c → c.awaiting = false) (h : s.pr.ret = none) :
    exec .encoderPulse s = .next { s with pins := { s.pins with home := false } } := by
  cases hcy : s.pr.cycle with
  | none => simp only [exec, execEncoderPulse, hcy, h]
  | some c =>
    obtain ⟨ch, st, aw, l, n⟩ := c
    have haw : aw = false := hc _ hcy
    subst haw
    simp only [exec, execEncoderPulse, hcy, h]

theorem exec_stepTimeout {s : State} {c : PrChar} {st : Bool} {l n : Nat} (h : s.pr.cycle = some ⟨c, st, true, l, n⟩) :
    exec .stepTimeout s = .next (jam (if s.pr.motorFailed then .motor else .step) s) := by
  simp only [exec, execStepTimeout, h, Printer.timeoutCause]

theorem exec_printCycleEnd {s : State} {c : PrChar} {l n : Nat} (h : s.pr.cycle = some ⟨c, true, false, l, n⟩) :
    exec .printCycleEnd s =
      .next (afterOperation (completeChar c { s with pr := { s.pr with cycle := none, hammer := false } })) := by
  simp only [exec, execPrintCycleEnd, h]

/-! ### The end of a job and of an operation (R98, R112, R114) -/

theorem endJob_none {s : State} (h : s.pr.jobs = []) : endJob s = s := by
  simp only [endJob, h]

theorem endJob_head {s : State} {j : PrintJob} {rest : List PrintJob} (h : s.pr.jobs = j :: rest) :
    endJob s = autoReleaseTest j.number { s with pr := { s.pr with jobs := rest, jobRun := .notStarted } } := by
  simp only [endJob, h]

theorem endJob_pr {s : State} {j : PrintJob} {rest : List PrintJob} (h : s.pr.jobs = j :: rest) :
    (endJob s).pr = { s.pr with jobs := rest, jobRun := .notStarted } := by
  rw [endJob_head h]
  simp

/-- What a printer without a closing job does after its operation (R98, R114; log 18). -/
theorem afterOperation_open {s : State} (h : s.pr.jobRun ≠ .closing) : afterOperation s =
    if s.pr.motorFailed then jam .motor s
    else if s.pr.paper then readyComparison { s with pr := { s.pr with state := .ready } }
    else enterPaperOut s := by
  unfold afterOperation
  rw [if_neg h]

theorem afterOperation_closing {s : State} (h : s.pr.jobRun = .closing) : afterOperation s = afterOperation (endJob s) := by
  cases hj : s.pr.jobs with
  | nil => rw [endJob_none hj]
  | cons j rest =>
    have hopen : (endJob s).pr.jobRun ≠ .closing := by rw [endJob_pr hj]; exact JobRun.noConfusion
    rw [afterOperation_open hopen]
    unfold afterOperation
    rw [if_pos h]

/-! ### Completed characters (R107, R112, R117) -/

theorem completeChar_job {s : State} {j : PrintJob} {rest : List PrintJob} (code : StationCode) (t : Tag)
    (h : s.pr.jobs = j :: rest) : completeChar ⟨code, .job t⟩ s = setPrint t.number (t.pos + 1)
      { s with pr := { s.pr with jobs := { j with cursor := t.pos + 1 } :: rest } } := by
  simp only [completeChar, Printer.jobDone, h]

/-- At the length PRINT-INCOMPLETE is cleared, and the header then waits to be written (R107, R117). -/
theorem raisePrint_eq (v : Nat) (e : Entry) : e.raisePrint v =
    { e with
      print := min e.length (max e.print v)
      flags := { e.flags with
        printIncomplete := e.flags.printIncomplete && decide (min e.length (max e.print v) < e.length) }
      headerDue := e.headerDue || (e.flags.printIncomplete && decide (min e.length (max e.print v) = e.length)) } := by
  unfold Entry.raisePrint
  dsimp only
  generalize hp : min e.length (max e.print v) = p
  have hle : p ≤ e.length := hp ▸ Nat.min_le_left _ _
  cases hi : e.flags.printIncomplete with
  | false =>
    have hflags : e.flags = { e.flags with printIncomplete := false } := by rw [← hi]
    simp only [Bool.false_eq_true, and_false, if_false, Bool.false_and, Bool.or_false]
    rw [← hflags]
  | true =>
    have hflags : e.flags = { e.flags with printIncomplete := true } := by rw [← hi]
    rcases Nat.eq_or_lt_of_le hle with rfl | hlt
    · simp
    · simp only [Nat.ne_of_lt hlt, false_and, if_false, hlt, decide_true, decide_false, Bool.and_false, Bool.or_false,
        Bool.and_true]
      rw [← hflags]

/-! ### Hammer periods (R100, R101) -/

theorem hammerPulse_iff {p : Printer} {c : PrCycle} (h : p.cycle = some c) :
    p.hammerPulse = true ↔ p.hammer = true ∧ 10 * c.cycles % 147456 < 9216 * p.intensity := by
  simp only [Printer.hammerPulse, h, Option.any_some, Bool.and_eq_true, decide_eq_true_eq]
  rw [show p.pulseWidth = 9216 * p.intensity from Nat.mul_comm _ _]
  exact Iff.rfl

theorem nextHammerChange_eq (p : Printer) (c : PrCycle) : p.nextHammerChange c =
    if c.cycles < (147456 * (10 * c.cycles / 147456) + 9216 * p.intensity + 9) / 10 then
      (147456 * (10 * c.cycles / 147456) + 9216 * p.intensity + 9) / 10
    else (147456 * (10 * c.cycles / 147456 + 1) + 9) / 10 := by
  have hwidth : p.pulseWidth = 9216 * p.intensity := Nat.mul_comm _ _
  have hstart : hammerPeriod c.cycles * msCycles 4 = 147456 * (10 * c.cycles / 147456) := Nat.mul_comm _ _
  have hnext : 147456 * (10 * c.cycles / 147456) + msCycles 4 = 147456 * (10 * c.cycles / 147456 + 1) := rfl
  unfold Printer.nextHammerChange
  dsimp only
  rw [hwidth, hstart, hnext]

theorem Printer.advance_of_cycle {p : Printer} {c : PrCycle} (h : p.cycle = some c) :
    p.advance = { p with
      cycle := some { c with cycles := min c.lastCycle (p.nextHammerChange c) }
      intensity :=
        if hammerPeriod (min c.lastCycle (p.nextHammerChange c)) = hammerPeriod c.cycles then p.intensity
        else p.intensityReq } := by
  simp only [Printer.advance, h]

/-- Settles O39: the events by the cycle they meet, the end of an operation by what it finds. -/
theorem printCycle : Obligations.PrintCycle := by
  unfold Obligations.PrintCycle
  refine ⟨fun c p => rfl, ?step, ?pulse, fun s r => exec_encoderPulse_return, fun s => exec_encoderPulse_stray,
    fun s c l n => exec_printCycleEnd, fun s => afterOperation_closing, ?jobEnd, ?after, ?complete, ?prints, ?hammer⟩
  case step =>
    intro s c aw l n h
    exact ⟨fun hl => (exec_rightwardStep h).trans (if_pos hl),
      fun hl => (exec_rightwardStep h).trans (if_neg (Nat.not_lt.mpr hl))⟩
  case pulse => exact fun s c st l n h => ⟨exec_encoderPulse_step h, exec_stepTimeout h⟩
  case jobEnd =>
    exact fun s => ⟨endJob_none, fun j rest h => ⟨endJob_head h, endJob_pr h, by simp⟩⟩
  case after =>
    intro s h
    refine ⟨fun hm => ?_, fun hm hp hd => ?_, fun hm hp hc => ?_, fun hm hp => ?_⟩ <;> rw [afterOperation_open h, hm]
    · exact if_pos rfl
    · rw [if_neg Bool.false_ne_true, if_pos hp]
      exact readyComparison_stands (Or.inr (by rw [hd]; exact PrMode.noConfusion))
    · rw [if_neg Bool.false_ne_true, if_pos hp]
    · rw [if_neg Bool.false_ne_true, if_neg (by simp [hp])]
      rfl
  case complete => exact fun code t s => ⟨rfl, rfl, fun j rest => completeChar_job code t⟩
  case prints =>
    intro n v s
    rw [setPrint, Store.modify, funext (raisePrint_eq v)]
  case hammer =>
    intro p
    refine ⟨fun h => ⟨Printer.advance_idle h, Printer.no_pulse (Or.inr h)⟩, fun c h => ?_⟩
    intro period pulse next n
    have hn : min c.lastCycle (p.nextHammerChange c) = n := by rw [nextHammerChange_eq]; rfl
    refine ⟨hammerPulse_iff h, ?_⟩
    rw [Printer.advance_of_cycle h, hn]
    rfl

end Sys2Proof.Machine
end


section
/-! SUPPORT. Returns, feeds and jams, and statement O40. -/

namespace Sys2Proof.Machine

/-! ### Returns and feeds (R99, R103, R104) -/

section Return

variable {s : State} {r : Carriage} {f : Feed}

theorem exec_returnComplete (h : s.pr.ret = some r) :
    let s1 := completeChars (r.char.toList ++ r.feeds) { s with
      pr := { s.pr with ret := none, column := 1, lineEnd := false, columnKnown := true }
      pins := { s.pins with home := true } }
    exec .returnComplete s =
      .next (if s.pr.feed.isSome then { s1 with pr := { s1.pr with state := .feeding } } else afterOperation s1) := by
  simp only [exec, execReturnComplete, h]

theorem exec_lineFeedComplete_overlapped (hf : s.pr.feed = some f) (hr : s.pr.ret = some r) :
    exec .lineFeedComplete s = .next { s with pr := { s.pr with
      feed := none, ret := some ⟨r.char, r.feeds ++ f.char.toList, r.homed⟩ } } := by
  simp only [exec, execLineFeedComplete, hf, hr]

theorem exec_lineFeedComplete_alone (hf : s.pr.feed = some f) (hr : s.pr.ret = none) :
    exec .lineFeedComplete s =
      .next (afterOperation (completeChars f.char.toList { s with pr := { s.pr with feed := none } })) := by
  simp only [exec, execLineFeedComplete, hf, hr]

end Return

/-- A tick of a return short of HOME takes a free reading, and an assertion puts the column at 1 (R99, R103; log 57). -/
theorem homeTick_reading {s : State} (h : s.leftward = true) :
    homeTick s = if Config.freeReading s.freeCount then { s with
        pr := { s.pr with column := 1, ret := s.pr.ret.map fun r => { r with homed := true } }
        pins := { s.pins with home := true }, freeCount := s.freeCount + 1 }
      else { s with pins := { s.pins with home := false }, freeCount := s.freeCount + 1 } := by
  rw [homeTick_travel h]
  cases Config.freeReading s.freeCount <;> rfl

/-! ### Jams (R115) -/

/-- The printer of a jam (R98, R115). -/
theorem jam_pr (cause : JamCause) (s : State) : (jam cause s).pr = { s.pr with
    state := .jammed, motorOn := false, hammer := false, columnKnown := false, motorFailed := false
    jamTags := s.pr.jamTags ++ s.pr.inHand, cycle := none, ret := none, feed := none, waiting := none, buf := []
    jobRun := .notStarted, offTicks := 0 } := by
  simp [jam, Printer.stopOff]

/-- A jam abandons the printer's read (log 45). -/
theorem jam_store (cause : JamCause) (s : State) : (jam cause s).store = s.store.abandon .printer := by
  simp [jam]

/-- Settles O40: the events by the operation they end, the jam by its fields. -/
theorem returnsAndFeeds : Obligations.ReturnsAndFeeds := by
  unfold Obligations.ReturnsAndFeeds
  refine ⟨?returning, fun s f => exec_lineFeedComplete_alone, fun s => ⟨s.leftward_iff, homeTick_idle, homeTick_reading⟩,
    fun s => rfl, fun cause s => rfl, ?jammed⟩
  case returning =>
    intro s r h s1
    refine ⟨fun hf => ?_, fun hf => ?_, fun hl => ?_, fun hl => ?_, fun f hf => exec_lineFeedComplete_overlapped hf h⟩
    · exact (exec_returnComplete h).trans (by rw [hf]; rfl)
    · exact (exec_returnComplete h).trans (by rw [hf]; rfl)
    · exact if_pos hl
    · exact if_neg (ne_true_of_eq_false hl)
  case jammed =>
    intro cause s t
    have hpr : t.pr = _ := jam_pr cause s
    have hstore : t.store = _ := jam_store cause s
    have hcall : t.call = s.call := by simp [t, jam]
    have hmem : t.mem = s.mem := by simp [t, jam]
    rw [hpr, hstore]
    exact ⟨rfl, rfl, rfl, rfl, rfl, rfl, rfl, rfl, rfl, rfl, hcall, rfl, abandon_dir .printer s.store, hmem⟩

end Sys2Proof.Machine
end


section
/-! SUPPORT. Paper, restarts, CATCH-UP and print jobs, and statement O41. -/

namespace Sys2Proof.Machine

/-! ### Paper (R114) -/

theorem exec_paperOut {s : State} (hp : s.pr.paper = true) (hst : s.call.state ≠ .standby) :
    let s1 : State := { s with pr := { s.pr with paper := false }, pins := { s.pins with paperOk := false } }
    exec .paperOut s = match s.pr.state with
      | .ready => .next (enterPaperOut s1)
      | .starting => .next (enterPaperOut s1)
      | .off => .next (enterPaperOut s1)
      | _ => .next s1 := if_pos ⟨hp, hst⟩

theorem exec_paperBack {s : State} (hp : s.pr.paper = false) (hst : s.call.state ≠ .standby) :
    let s1 : State := { s with pr := { s.pr with paper := true }, pins := { s.pins with paperOk := true } }
    exec .paperBack s = match s.pr.state with
      | .paperOut => .next (offComparison (raise .paperBack { s1 with pr := { s1.pr with state := .off } }))
      | .jammed => .next (raise .paperBack s1)
      | _ => .next s1 := if_pos ⟨hp, hst⟩

/-! ### What the entries to CATCH-UP and PAPER-OUT leave of the printer -/

theorem noteLiveWork_pr (s : State) : (noteLiveWork s).pr = { s.pr with
    jobRun := (noteLiveWork s).pr.jobRun, buf := (noteLiveWork s).pr.buf, offTicks := (noteLiveWork s).pr.offTicks } := by
  unfold noteLiveWork suspendJob
  split
  · rfl
  · split <;> rfl

theorem enterCatchUp_stands {s : State} (m : Option Nat) (h : s.pr.mode = .catchUp) : enterCatchUp m s = s :=
  if_neg (by rw [h]; exact PrMode.noConfusion)

theorem enterCatchUp_pr (m : Option Nat) (s : State) : (enterCatchUp m s).pr = { s.pr with
    mode := (enterCatchUp m s).pr.mode, catchUp := (enterCatchUp m s).pr.catchUp, jobRun := (enterCatchUp m s).pr.jobRun
    buf := (enterCatchUp m s).pr.buf, offTicks := (enterCatchUp m s).pr.offTicks } := by
  cases hm : s.pr.mode with
  | catchUp => rw [enterCatchUp_stands m hm]
  | direct =>
    rw [enterCatchUp_direct m hm, offComparison_pr, noteLiveWork_pr]

theorem enterPaperOut_pr (s : State) : (enterPaperOut s).pr = { s.pr with
    state := .paperOut, motorOn := false, offTicks := 0, startPending := false } := by
  unfold enterPaperOut
  rw [answerStart_pr]
  simp [Printer.stopOff]

/-! ### The restart (R109, R116) -/

/-- The LOST mark that is due at a restart stands alone in the emptied queue (R75, R116). -/
def Printer.lostEntries (p : Printer) : List PrEntry := if p.lostPending then [⟨p.lostCode, none⟩] else []

theorem lostJoin_emptied (p : Printer) : { p with queue := [], jamTags := [] }.lostJoin =
    { p with queue := p.lostEntries, lostPending := false, jamTags := [] } := by
  unfold Printer.lostJoin Printer.lostEntries
  cases hl : p.lostPending with
  | true => rfl
  | false =>
    simp only [Bool.false_and, Bool.false_eq_true, if_false]

theorem restartPrinter_eq (s : State) : restartPrinter s =
    let s2 : State := { s with pr := { s.pr with queue := s.pr.lostEntries, lostPending := false, jamTags := [] } }
    let s3 := if s.restartMessage = none then s2 else enterCatchUp s.restartMessage s2
    if s.pr.paper then offComparison { s3 with pr := { s3.pr with state := .off } } else enterPaperOut s3 := by
  unfold restartPrinter
  rw [lostJoin_emptied]
  cases s.restartMessage <;> rfl

/-- What a restart leaves of the printer and the memory (R116). -/
theorem restartPrinter_keeps (s : State) : let t := restartPrinter s
    t.pr.state = (if s.pr.paper then .off else .paperOut) ∧ t.pr.queue = s.pr.lostEntries ∧ t.pr.lostPending = false
      ∧ t.pr.jobs = s.pr.jobs ∧ t.pr.column = s.pr.column ∧ t.pr.columnKnown = s.pr.columnKnown ∧ t.mem = s.mem := by
  intro t
  have ht : t = _ := restartPrinter_eq s
  have hmid (m : Option Nat) (s2 : State) (hs2 : s2 = { s with pr := { s.pr with
      queue := s.pr.lostEntries, lostPending := false, jamTags := [] } }) :
      let s3 := if m = none then s2 else enterCatchUp m s2
      s3.pr.queue = s.pr.lostEntries ∧ s3.pr.lostPending = false ∧ s3.pr.jobs = s.pr.jobs ∧ s3.pr.column = s.pr.column
        ∧ s3.pr.columnKnown = s.pr.columnKnown ∧ s3.mem = s.mem := by
    intro s3
    subst hs2
    cases m with
    | none => exact ⟨rfl, rfl, rfl, rfl, rfl, rfl⟩
    | some n =>
      refine ⟨?_, ?_, ?_, ?_, ?_, by simp [s3]⟩ <;>
        · simp only [s3, reduceCtorEq, if_false]
          rw [enterCatchUp_pr]
  obtain ⟨hq, hl, hj, hc, hk, hm⟩ := hmid s.restartMessage _ rfl
  rw [ht]
  dsimp only
  by_cases hp : s.pr.paper = true
  · rw [if_pos hp, if_pos hp, offComparison_pr]
    exact ⟨rfl, hq, hl, hj, hc, hk, by simpa using hm⟩
  · rw [if_neg hp, if_neg hp, enterPaperOut_pr]
    exact ⟨rfl, hq, hl, hj, hc, hk, by simpa using hm⟩

/-- The tagged characters that a restart empties, those a jam left incomplete first (R116; log 17). -/
def Printer.restartTags (p : Printer) : List Nat := p.jamTags ++ p.queue.filterMap fun e => e.tag.map Tag.number

theorem restartMessage_first {s : State} {pre post : List Nat} {n : Nat} (h : s.pr.restartTags = pre ++ n :: post)
    (hpre : ∀ x ∈ pre, s.store.live? x = none) (hn : s.store.live? n ≠ none) : s.restartMessage = some n := by
  have hfind : (s.pr.restartTags.find? fun n => (s.store.live? n).isSome) = some n := by
    rw [List.find?_eq_some_iff_append]
    exact ⟨Option.isSome_iff_ne_none.mpr hn, pre, post, h, fun x hx => by simp [hpre x hx]⟩
  unfold State.restartMessage
  rw [show s.pr.jamTags ++ _ = s.pr.restartTags from rfl, hfind]

theorem restartMessage_none {s : State} (h : ∀ x ∈ s.pr.restartTags, s.store.live? x = none) :
    s.restartMessage = s.pr.tracked.filter fun n => s.store.unprinted n := by
  have hfind : (s.pr.restartTags.find? fun n => (s.store.live? n).isSome) = none := by
    rw [List.find?_eq_none]
    exact fun x hx => by simp [h x hx]
  unfold State.restartMessage
  rw [show s.pr.jamTags ++ _ = s.pr.restartTags from rfl, hfind]

/-! ### The comparison of cursors (R110) -/

theorem nameOf_eq_toList (o : Option Nat) : nameOf o = o.toList := by cases o <;> rfl

theorem filter_unprinted_some {st : Store} {o : Option Nat} {n : Nat} (ho : o = some n)
    (h : st.printOf n < st.lengthOf n) : o.filter (fun n => st.unprinted n) = some n := by
  rw [ho, Option.filter_some, if_pos ((st.unprinted_iff n).mpr h)]

theorem filter_unprinted_none {st : Store} {o : Option Nat} (h : ∀ n, o = some n → ¬st.printOf n < st.lengthOf n) :
    o.filter (fun n => st.unprinted n) = none := by
  cases o with
  | none => rfl
  | some n => rw [Option.filter_some, if_neg fun hu => h n rfl ((st.unprinted_iff n).mp hu)]

section Comparison

variable {s : State} {n : Nat}

theorem compareCursors_catchUp (reading : Bool) (hn : s.pr.catchUp = some n) (hl : s.store.printOf n < s.store.lengthOf n) :
    compareCursors reading s = if reading then printerAsk n (s.store.printOf n) s else s := by
  unfold compareCursors
  rw [filter_unprinted_some hn hl]

theorem compareCursors_tracked (reading : Bool) (hc : ∀ n, s.pr.catchUp = some n → ¬s.store.printOf n < s.store.lengthOf n)
    (hn : s.pr.tracked = some n) (hl : s.store.printOf n < s.store.lengthOf n) :
    let s1 := givenUp s.pr.catchUp.toList { s with pr := { s.pr with catchUp := some n } }
    compareCursors reading s = if reading then printerAsk n (s1.store.printOf n) s1 else s1 := by
  unfold compareCursors
  rw [filter_unprinted_none hc, filter_unprinted_some hn hl, nameOf_eq_toList]

theorem compareCursors_direct (reading : Bool) (hc : ∀ n, s.pr.catchUp = some n → ¬s.store.printOf n < s.store.lengthOf n)
    (ht : ∀ n, s.pr.tracked = some n → ¬s.store.printOf n < s.store.lengthOf n) :
    compareCursors reading s =
      givenUp s.pr.catchUp.toList { s with pr := { s.pr with mode := .direct, catchUp := none } } := by
  unfold compareCursors
  rw [filter_unprinted_none hc, filter_unprinted_none ht, nameOf_eq_toList]

end Comparison

theorem printerAsk_staged {n pos : Nat} {e : Entry} {s : State} (he : s.store.entry? n = some e)
    (h : s.store.staged (bodyCell e.header pos) = true) :
    printerAsk n pos s = { s with pr := { s.pr with buf := s.store.cellChars s.mem e pos e.length, bufPos := pos } } := by
  simp only [printerAsk, Store.ask, he, h, if_true]

theorem printerAsk_outstanding {n pos : Nat} {e : Entry} {s : State} (he : s.store.entry? n = some e)
    (h : s.store.staged (bodyCell e.header pos) = false) :
    printerAsk n pos s = { s with
      store := { s.store with printRead := some ⟨n, pos⟩ }, pr := { s.pr with buf := [], bufPos := pos } } := by
  simp only [printerAsk, Store.ask, he, h, Bool.false_eq_true, if_false]
  rfl

/-! ### Print jobs (R111) -/

section PrintJobs

variable {body : List Byte} {s : State} {e : Entry}

theorem actPrintMessage_zero (h : field2 body 0 = 0) : actPrintMessage body s = (s, badValue 0) := if_pos h

theorem actPrintMessage_dead (h : field2 body 0 ≠ 0) (he : s.store.live? (field2 body 0) = none) :
    actPrintMessage body s = (s, plainAnswer .noSuchMessage) := by
  simp only [actPrintMessage, h, he, if_false]

theorem actPrintMessage_live (h : field2 body 0 ≠ 0) (he : s.store.live? (field2 body 0) = some e) :
    actPrintMessage body s =
      if e.state = .open then (s, plainAnswer .wrongState)
      else if Config.printJobCapacity ≤ s.pr.jobs.length then (s, plainAnswer .full)
      else ({ s with pr := { s.pr.stopOff with
        jobs := s.pr.jobs ++ [⟨field2 body 0, min e.length (field3 body 2), min e.length (field3 body 2)⟩] } },
        ok (put3 (min e.length (field3 body 2)))) := by
  simp only [actPrintMessage, h, he, if_false]

end PrintJobs

/-- Settles O41: paper by the printer's state, the restart by the message it calls for, the comparison by the cursors. -/
theorem paperRestartAndPrintJobs : Obligations.PaperRestartAndPrintJobs := by
  unfold Obligations.PaperRestartAndPrintJobs
  refine ⟨?out, ?back, ?restart, ?message, fun m s => ⟨enterCatchUp_stands m, enterCatchUp_direct m⟩, ?comparisons, ?cursors,
    fun n pos e s he => ⟨printerAsk_staged he, printerAsk_outstanding he⟩, ?jobs⟩
  case out =>
    intro s hp hst s1
    refine ⟨fun h => ?_, fun h1 h2 h3 => ?_⟩ <;> refine (exec_paperOut hp hst).trans ?_
    · rcases h with h | h | h <;> rw [h] <;> rfl
    · cases h : s.pr.state with
      | ready => exact absurd h h1
      | starting => exact absurd h h2
      | off => exact absurd h h3
      | _ => rfl
  case back =>
    intro s hp hst s1
    refine ⟨fun h => ?_, fun h => ?_, fun h1 h2 => ?_⟩ <;> refine (exec_paperBack hp hst).trans ?_
    · rw [h]
    · rw [h]
    · cases h : s.pr.state with
      | paperOut => exact absurd h h1
      | jammed => exact absurd h h2
      | _ => rfl
  case restart =>
    intro s s0 h s1
    refine ⟨fun hst => next_accept h rfl (if_neg hst), fun hst => ⟨restartPrinter s1, next_accept h rfl (if_pos hst), ?_⟩⟩
    obtain ⟨hs, hq, hl, hj, hc, hk, hm⟩ := restartPrinter_keeps s1
    exact ⟨hs, hq, hl, hj, hc, hk, hm, restartPrinter_eq s1⟩
  case message =>
    intro s tags
    refine ⟨fun pre n post h hpre hn => restartMessage_first h hpre hn, fun h => ⟨fun n hn hl => ?_, fun hl => ?_⟩⟩
    · exact (restartMessage_none h).trans (filter_unprinted_some hn hl)
    · exact (restartMessage_none h).trans (filter_unprinted_none fun n hn => Nat.not_lt.mpr (hl n hn))
  case comparisons => exact fun s => ⟨fun h => if_pos h, fun h => if_neg h, fun h => if_pos h, fun h => if_neg h⟩
  case cursors =>
    intro s left
    refine ⟨fun n hn hl => ⟨compareCursors_catchUp true hn hl, compareCursors_catchUp false hn hl⟩, fun hc => ⟨fun n hn hl => ?_,
      fun ht reading => compareCursors_direct reading hc ht⟩⟩
    exact ⟨compareCursors_tracked true hc hn hl, compareCursors_tracked false hc hn hl⟩
  case jobs =>
    intro s s0 body h hlen s1 n
    have hfit : decide (body.length = 5) = true := decide_eq_true hlen
    refine ⟨fun hz => next_accept h hfit (actPrintMessage_zero hz), fun hn hd => next_accept h hfit (actPrintMessage_dead hn hd),
      fun e hn he => ?_⟩
    have hact := actPrintMessage_live (s := s1) hn he
    refine ⟨fun ho => ?_, fun ho hf => ?_, fun ho hf => ?_⟩
    · exact next_accept h hfit (hact.trans (if_pos ho))
    · exact next_accept h hfit (hact.trans ((if_neg ho).trans (if_pos hf)))
    · exact next_accept h hfit (hact.trans ((if_neg ho).trans (if_neg (Nat.not_le.mpr hf))))

end Sys2Proof.Machine
end


section
/-! SUPPORT. The cycles of the punch, and statement O42. -/

namespace Sys2Proof.Machine

/-! ### Codes punched (R121, R123) -/

theorem Punch.punchCodes_one (p : Punch) (tag : Option Tag) (r : RawCode) : p.punchCodes tag [r] = { p with
    state := .punching, onTime := p.onTimeReq, held := none, cycle := some ⟨r, some tag, false, 0⟩ } := rfl

theorem Punch.punchCodes_more (p : Punch) (tag : Option Tag) (r : RawCode) {rest : List RawCode} (h : rest ≠ []) :
    p.punchCodes tag (r :: rest) = { p with
      state := .punching, onTime := p.onTimeReq, held := some ⟨rest, tag⟩, cycle := some ⟨r, none, false, 0⟩ } := by
  cases rest with
  | nil => exact absurd rfl h
  | cons x rest => rfl

theorem Punch.punchCodes_cons (p : Punch) (tag : Option Tag) (r : RawCode) (rest : List RawCode) :
    p.punchCodes tag (r :: rest) = { p with
      state := .punching, onTime := p.onTimeReq, held := if rest = [] then none else some ⟨rest, tag⟩
      cycle := some ⟨r, if rest = [] then some tag else none, false, 0⟩ } := by
  by_cases h : rest = []
  · rw [if_pos h, if_pos h, h, Punch.punchCodes_one]
  · rw [if_neg h, if_neg h, p.punchCodes_more tag r h]

/-! ### Entries taken (R120, R122) -/

section Take

variable {s : State}

theorem exec_punchTakeEntry (hc : s.pu.cycle = none) (ht : s.pu.state ≠ .tapeLowHold) (hst : s.call.state ≠ .standby) :
    exec .punchTakeEntry s = match s.pu.held with
      | some h => .next { s with pu := s.pu.punchCodes h.tag h.codes }
      | none => .next (punchSettle (takeHead s)) := by
  refine if_neg ?_
  rintro (h | h | h)
  · rw [hc] at h; exact Bool.noConfusion h
  · exact ht h
  · exact hst h

theorem exec_punchTakeEntry_head (hc : s.pu.cycle = none) (ht : s.pu.state ≠ .tapeLowHold) (hst : s.call.state ≠ .standby)
    (hh : s.pu.held = none) : exec .punchTakeEntry s = .next (punchSettle (takeHead s)) := by
  rw [exec_punchTakeEntry hc ht hst, hh]

theorem takeHead_empty (h : s.pu.queue = []) : takeHead s = s := by
  simp only [takeHead, h]

theorem takeHead_blank {n : Nat} {rest : List PunchEntry} (h : s.pu.queue = .blank n :: rest) :
    takeHead s = { s with pu := { s.pu with
      state := .leader, onTime := s.pu.onTimeReq, cycle := some ⟨0, none, false, 0⟩
      queue := if n ≤ 1 then rest else .blank (n - 1) :: rest } } := by
  simp only [takeHead, h, Punch.startCycle]

theorem takeHead_ltrs {rest : List PunchEntry} {r : RawCode} (h : s.pu.queue = .ltrs :: rest) (hl : s.conv.ltrsShift = some r) :
    takeHead s = { s with pu := { s.pu with
      state := .punching, onTime := s.pu.onTimeReq, cycle := some ⟨r, none, false, 0⟩, queue := rest, shift := .letters } } := by
  simp only [takeHead, h, hl, Punch.startCycle]

theorem takeHead_ltrs_none {rest : List PunchEntry} (h : s.pu.queue = .ltrs :: rest) (hl : s.conv.ltrsShift = none) :
    takeHead s = { s with pu := { s.pu with queue := rest, shift := .letters } } := by
  simp only [takeHead, h, hl]

theorem takeHead_text {c : StationCode} {tag : Option Tag} {rest : List PunchEntry} (h : s.pu.queue = .text c tag :: rest) :
    takeHead s = takeText c tag { s with pu := { s.pu with queue := rest } } := by
  simp only [takeHead, h]

end Take

/-! ### TEXT (R123) -/

section Text

variable {c : StationCode} {s : State} (tag : Option Tag)

theorem Punch.plane_known {p : Punch} (h : p.shift ≠ .unknown) : p.plane = p.shift := if_neg h

theorem Punch.plane_unknown {p : Punch} (h : p.shift = .unknown) : p.plane = .letters := if_pos h

theorem Punch.opening_known {p : Punch} (cv : Converter) (h : p.shift ≠ .unknown) : p.opening cv = [] := if_neg h

theorem Punch.opening_unknown {p : Punch} (cv : Converter) (h : p.shift = .unknown) : p.opening cv = cv.ltrsShift.toList :=
  if_pos h

theorem takeText_encoded {e : Encoded} (he : s.conv.encode s.pu.plane c = some e) : takeText c tag s =
    { s with pu := { s.pu with shift := e.plane }.punchCodes tag (s.pu.opening s.conv ++ e.shift.toList ++ [e.code]) } := by
  simp only [takeText, he]

theorem takeText_unsendable (he : s.conv.encode s.pu.plane c = none) (hp : s.pu.opening s.conv = []) : takeText c tag s =
    punchComplete false tag (raise (.unsendable c) { s with pu := { s.pu with shift := s.pu.plane } }) := by
  simp only [takeText, he, hp]

theorem takeText_unsendable_opening {l : RawCode} {pre : List RawCode} (he : s.conv.encode s.pu.plane c = none)
    (hp : s.pu.opening s.conv = l :: pre) :
    let s1 := punchComplete false tag (raise (.unsendable c) { s with pu := { s.pu with shift := s.pu.plane } })
    takeText c tag s = { s1 with pu := s1.pu.startCycle .punching l none } := by
  simp only [takeText, he, hp]

/-- Without a designated LTRS-SHIFT code the state UNKNOWN is as LETTERS (R123). -/
theorem takeText_undesignated (h : s.pu.shift = .unknown) (hl : s.conv.ltrsShift = none) :
    takeText c tag s = takeText c tag { s with pu := { s.pu with shift := .letters } } := by
  have hop : s.pu.opening s.conv = [] := by rw [Punch.opening_unknown _ h, hl]; rfl
  have hpl : s.pu.plane = .letters := Punch.plane_unknown h
  cases he : s.conv.encode .letters c with
  | some e =>
    rw [takeText_encoded tag (e := e) (by rw [hpl]; exact he), hop]
    exact (takeText_encoded (s := { s with pu := { s.pu with shift := .letters } }) tag he).symm
  | none =>
    rw [takeText_unsendable tag (by rw [hpl]; exact he) hop, hpl]
    exact (takeText_unsendable (s := { s with pu := { s.pu with shift := .letters } }) tag he rfl).symm

end Text

/-! ### Completion and the end of a cycle (R123, R127, R132, R134) -/

section Complete

variable {s : State} {cancelled : Bool} {t : Tag}

theorem punchComplete_job {j : PunchJob} {rest : List PunchJob} (hb : cancelled = false) (hs : s.pu.stage = .body)
    (hc : s.pu.chain = j :: rest) (hn : j.number = t.number) (hp : j.cursor = t.pos) :
    punchComplete cancelled (some t) s = setPunch t.number (t.pos + 1)
      { s with pu := { s.pu with chain := { j with cursor := t.pos + 1 } :: rest } } := by
  simp only [punchComplete, hb, hs, hc, hn, hp, and_self, if_true]

theorem punchComplete_other (h : cancelled = true ∨ s.pu.stage ≠ .body ∨ s.pu.chain = []
    ∨ (∀ j ∈ s.pu.chain.head?, j.number ≠ t.number ∨ j.cursor ≠ t.pos)) :
    punchComplete cancelled (some t) s = setPunch t.number (t.pos + 1) s := by
  cases hc : s.pu.chain with
  | nil => simp only [punchComplete, hc]
  | cons j rest =>
    simp only [punchComplete, hc]
    rw [if_neg]
    rintro ⟨hb, hs, hn, hp⟩
    rcases h with h | h | h | h
    · exact Bool.noConfusion (hb.symm.trans h)
    · exact h hs
    · rw [hc] at h; exact List.cons_ne_nil _ _ h
    · exact (h j (by rw [hc]; rfl)).elim (fun h => h hn) (fun h => h hp)

end Complete

/-- A completion moves cursors and leaves the hold, the stage and the codes held. -/
theorem punchComplete_pu (cancelled : Bool) (tag : Option Tag) (s : State) :
    (punchComplete cancelled tag s).pu = { s.pu with chain := (punchComplete cancelled tag s).pu.chain } := by
  unfold punchComplete
  cases tag with
  | none => rfl
  | some t =>
    dsimp only
    rw [(setPunch_frame t.number (t.pos + 1) _).2.2.2.2.2.2.2.2.1]
    split
    · split <;> rfl
    · rfl

/-! ### The magnets (R121) -/

theorem msCycles_eq (n : Nat) : msCycles n = 36864 * n := Nat.mul_comm _ _

section Magnets

variable {p : Punch} {c : PunchCycle}

theorem Punch.codeMagnets_idle (h : p.cycle = none) : p.codeMagnets = 0 := by simp only [Punch.codeMagnets, h]

theorem Punch.codeMagnets_bits (h : p.cycle = some c) (k : Nat) :
    p.codeMagnets.getLsbD k = true ↔ c.code.getLsbD k = true ∧ 10 * c.cycles < 36864 * p.onTime := by
  have hon : p.pulseOn 0 c = decide (10 * c.cycles < 36864 * p.onTime) := by
    simp only [Punch.pulseOn, msCycles_eq, Nat.mul_zero, Nat.zero_le, decide_true, Bool.true_and, Nat.zero_add]
  simp only [Punch.codeMagnets, h, hon, decide_eq_true_eq]
  by_cases ht : 10 * c.cycles < 36864 * p.onTime
  · simp only [ht, if_true, and_true]
  · simp [ht]

theorem Punch.feedMagnet_iff (h : p.cycle = some c) :
    p.feedMagnet = true ↔ 36864 ≤ c.cycles ∧ 10 * c.cycles < 36864 * (10 + p.onTime) := by
  simp only [Punch.feedMagnet, h, Option.any_some, Punch.pulseOn, msCycles_eq, Bool.and_eq_true, decide_eq_true_eq]
  omega

theorem Punch.changes_eq (p : Punch) :
    p.changes = [(36864 * p.onTime + 9) / 10, 36864, (36864 * (10 + p.onTime) + 9) / 10, 73728] := by
  simp only [Punch.changes, Punch.pulseEnd, msCycles_eq, Nat.zero_add]

theorem Punch.advance_idle (h : p.cycle = none) : p.advance = p := by
  have hp : { p with cycle := none } = p := by rw [← h]
  simp only [Punch.advance, h, Option.map_none]
  exact hp

theorem Punch.advance_of_cycle (h : p.cycle = some c) : p.advance = { p with cycle := some { c with
    cycles := min ((p.changes.find? fun n => decide (c.cycles < n)).getD 73728) (c.cycles + 57600) } } := by
  simp only [Punch.advance, h, Option.map_some]
  rw [Nat.min_comm]
  rfl

end Magnets

/-- Settles O42: the entry by its kind, the character by its encoding, the cycle by its end. -/
theorem punchCycles : Obligations.PunchCycles := by
  unfold Obligations.PunchCycles
  refine ⟨?take, ?known, ?unknown, ?unknownUnsendable, fun c tag s => takeText_undesignated tag, ?cycleEnd, ?start, ?complete,
    fun n v s => rfl, ?magnets⟩
  case take =>
    intro s hc ht hst
    have hexec := exec_punchTakeEntry hc ht hst
    refine ⟨fun h r rest hh hr => ?_, fun hh => ?_⟩
    · rw [hexec, hh]
      dsimp only
      rw [hr, Punch.punchCodes_cons]
    · rw [exec_punchTakeEntry_head hc ht hst hh]
      exact ⟨fun h => by rw [takeHead_empty h], fun n rest h => by rw [takeHead_blank h],
        fun rest r h hl => by rw [takeHead_ltrs h hl], fun rest h hl => by rw [takeHead_ltrs_none h hl],
        fun c tag rest h => by rw [takeHead_text h]⟩
  case known =>
    intro c tag s h
    have hpl : s.pu.plane = s.pu.shift := Punch.plane_known h
    have hop : s.pu.opening s.conv = [] := Punch.opening_known s.conv h
    refine ⟨fun e he hs => ?_, fun e sh he hs => ?_, fun he => ?_⟩
    · rw [takeText_encoded tag (by rw [hpl]; exact he), hop, hs]; rfl
    · rw [takeText_encoded tag (by rw [hpl]; exact he), hop, hs]; rfl
    · rw [takeText_unsendable tag (by rw [hpl]; exact he) hop, hpl]
  case unknown =>
    intro c tag s l e h hl he
    have hop : s.pu.opening s.conv = [l] := by rw [Punch.opening_unknown _ h, hl]; rfl
    rw [takeText_encoded tag (by rw [Punch.plane_unknown h]; exact he), hop, List.append_assoc, List.singleton_append,
      Punch.punchCodes_more _ _ _ (List.append_ne_nil_of_right_ne_nil _ (List.cons_ne_nil _ _))]
  case unknownUnsendable =>
    intro c tag s l h hl he s1
    have hop : s.pu.opening s.conv = [l] := by rw [Punch.opening_unknown _ h, hl]; rfl
    have hpl : s.pu.plane = .letters := Punch.plane_unknown h
    rw [takeText_unsendable_opening tag (by rw [hpl]; exact he) hop, hpl]
    rfl
  case cycleEnd =>
    intro s c hc
    refine ⟨fun hst => ?_, fun hst => ?_⟩
    · simp only [exec, execPunchCycleEnd, hc, hst, if_true]
    intro s1 s2
    have hs2 : s2.pu = { s1.pu with chain := s2.pu.chain } := by
      simp only [s2]
      cases c.completes with
      | none => rfl
      | some tag => exact punchComplete_pu c.cancelled tag s1
    have hhold : s2.pu.holdPending = s.pu.holdPending := by rw [hs2]
    have hstage : s2.pu.stage = s.pu.stage := by rw [hs2]
    have hheld : s2.pu.held = s.pu.held := by rw [hs2]
    have hexec : exec .punchCycleEnd s =
        if s2.pu.holdPending = true ∧ s2.pu.stage = .none ∧ s2.pu.held = none then .next (enterTapeHold s2)
        else .next (punchSettle s2) := by
      simp only [exec, execPunchCycleEnd, hc, hst, if_false]
      rfl
    rw [hhold, hstage, hheld] at hexec
    refine ⟨fun hp hn hh => ?_, fun h => ?_⟩
    · exact hexec.trans (if_pos ⟨hp, hn, hh⟩)
    · refine hexec.trans (if_neg ?_)
      rintro ⟨hp, hn, hh⟩
      rcases h with h | h | h
      · exact Bool.noConfusion (hp.symm.trans h)
      · exact h hn
      · exact h hh
  case start =>
    intro s j rest hc hs hq hh ht hp hst
    simp only [exec, execPunchJobStart, hc]
    rw [if_pos ⟨hs, hq, hh, ht, hp, hst⟩]
    by_cases hl : j.leader = 0
    · rw [if_pos hl, if_pos hl]; rfl
    · rw [if_neg hl, if_neg hl]; rfl
  case complete =>
    exact fun cancelled s => ⟨rfl, fun t => ⟨fun j rest => punchComplete_job, punchComplete_other⟩⟩
  case magnets =>
    intro p
    refine ⟨fun h => ⟨Punch.codeMagnets_idle h, by simp only [Punch.feedMagnet, h, Option.any_none], Punch.advance_idle h⟩,
      fun c h => ?_⟩
    intro changes next
    refine ⟨fun k _ => Punch.codeMagnets_bits h k, Punch.feedMagnet_iff h, ?_⟩
    rw [Punch.advance_of_cycle h, p.changes_eq]

end Sys2Proof.Machine
end


section
/-! SUPPORT. The tape, PUNCH-CONTROL and the running job, and statement O43. -/

namespace Sys2Proof.Machine

/-! ### Low tape (R132) -/

theorem Punch.jobRuns_iff (p : Punch) : p.jobRuns = true ↔ p.stage ≠ .none := by simp [Punch.jobRuns]

section Tape

variable {s : State}

theorem exec_tapeLowAsserted (ht : s.pu.tapeLow = false) (hst : s.call.state ≠ .standby) :
    let s1 : State := { s with pu := { s.pu with tapeLow := true }, pins := { s.pins with tapeLow := true } }
    exec .tapeLowAsserted s =
      if s.pu.state = .tapeLowHold ∨ s.pu.holdPending = true then .next s1
      else if s.pu.jobRuns = true ∨ s.pu.cycle.isSome = true then .next { s1 with pu := { s1.pu with holdPending := true } }
      else .next (enterTapeHold s1) := by
  refine if_neg ?_
  rintro (h | h)
  · exact Bool.noConfusion (ht.symm.trans h)
  · exact hst h

end Tape

/-! ### PUNCH-CONTROL (R133 to R135) -/

section Control

variable {s s0 : State} {body : List Byte}

/-- The row of an action hands the request to its act (R133). -/
theorem acceptControl_own {action : Nat} {act : State → State × Answer} {t : State} {a : Answer} (h : s.asked 0x43#8 body s0)
    (hlen : body.length = 2) (hle : action ≤ 2) (hown : field1 body 0 = action) (hact : act (touchStandby s0) = (t, a)) :
    (.next (acceptControl action body act s) : Host.Outcome State Fault Refusal) = .next (reply 0x43#8 a t) := by
  unfold acceptControl
  rw [if_neg fun hc => hc.2.1 hown]
  refine next_accept h (decide_eq_true hlen) ?_
  rw [if_neg (by omega)]
  exact hact

/-- Every row refuses an action above 2 (R133; log 32). -/
theorem acceptControl_refused (action : Nat) (act : State → State × Answer) (h : s.asked 0x43#8 body s0)
    (hlen : body.length = 2) (hbad : 2 < field1 body 0) :
    (.next (acceptControl action body act s) : Host.Outcome State Fault Refusal)
      = .next (reply 0x43#8 (badValue 0) (touchStandby s0)) := by
  unfold acceptControl
  rw [if_neg fun hc => absurd hc.2.2 (by omega)]
  exact next_accept h (decide_eq_true hlen) (if_pos hbad)

/-- A row leaves the actions of the other rows alone (R133; log 32). -/
theorem acceptControl_other {action : Nat} (act : State → State × Answer) (s : State) (hlen : body.length = 2)
    (hother : field1 body 0 ≠ action) (hle : field1 body 0 ≤ 2) : acceptControl action body act s = s :=
  if_pos ⟨hlen, hother, hle⟩

end Control

theorem reclaim_punchRead (n : Nat) (st : Store) : (Store.reclaim n st).punchRead = st.punchRead := by
  induction n generalizing st with
  | zero => rfl
  | succ n ih =>
    unfold Store.reclaim
    split
    · rfl
    · split
      · exact ih _
      · rfl

theorem autoReleaseTest_punchRead (n : Nat) (s : State) : (autoReleaseTest n s).store.punchRead = s.store.punchRead := by
  unfold autoReleaseTest
  split
  · rfl
  · split
    · exact reclaim_punchRead _ _
    · rfl

theorem givenUp_punchRead (ns : List Nat) (s : State) : (givenUp ns s).store.punchRead = s.store.punchRead := by
  induction ns generalizing s with
  | nil => rfl
  | cons n rest ih => exact (ih _).trans (autoReleaseTest_punchRead n s)

/-- The punch with its work cancelled: the cycle in progress goes on (R134). -/
def Punch.cancelled (p : Punch) : Punch :=
  { p with
    queue := [], held := none, chain := [], stage := .none, shift := .unknown
    cycle := p.cycle.map fun c => { c with cancelled := true } }

/-- CANCEL, by what the punch is at (R134). -/
theorem cancelPunch_eq (s : State) : ∃ s1 : State, s1.pu = s.pu.cancelled ∧ s1.pr = s.pr ∧ s1.call = s.call ∧ s1.mem = s.mem
    ∧ s1.store.punchRead = none ∧ cancelPunch s =
      if s.pu.cycle ≠ none ∨ s.pu.state = .tapeLowHold then s1
      else if s.pu.holdPending then enterTapeHold s1
      else { s1 with pu := { s1.pu with state := .off } } := by
  let s1 := givenUp (s.pu.chain.map PunchJob.number) { s with pu := s.pu.cancelled, store := s.store.abandon .punch }
  have hpu : s1.pu = s.pu.cancelled := by simp [s1]
  refine ⟨s1, hpu, by simp [s1], by simp [s1], by simp [s1], givenUp_punchRead _ _, ?_⟩
  have hcycle : s1.pu.cycle.isSome = true ↔ s.pu.cycle ≠ none := by
    rw [hpu, Punch.cancelled, Option.isSome_map, Option.isSome_iff_ne_none]
  have hcancel : cancelPunch s =
      if s1.pu.cycle.isSome = true ∨ s1.pu.state = .tapeLowHold then s1
      else if s1.pu.holdPending then enterTapeHold s1
      else { s1 with pu := { s1.pu with state := .off } } := rfl
  rw [hcancel]
  simp only [hcycle]
  rw [hpu]
  rfl

/-- What CANCEL leaves of the punch (R134). -/
theorem cancelPunch_leaves (s : State) : let t := cancelPunch s
    t.pu.queue = [] ∧ t.pu.chain = [] ∧ t.pu.held = none ∧ t.pu.shift = .unknown ∧ t.pu.stage = .none
      ∧ t.pu.cycle = s.pu.cycle.map (fun c => { c with cancelled := true }) ∧ t.store.punchRead = none
      ∧ (s.pu.state = .tapeLowHold → t.pu.state = .tapeLowHold)
      ∧ (s.pu.state ≠ .tapeLowHold → s.pu.cycle = none → t.pu.state = if s.pu.holdPending then .tapeLowHold else .off)
      ∧ (s.pu.cycle ≠ none → t.pu.state = s.pu.state) ∧ t.pr = s.pr ∧ t.call = s.call ∧ t.mem = s.mem := by
  intro t
  obtain ⟨s1, hpu, hpr, hcall, hmem, hread, ht⟩ := cancelPunch_eq s
  have hst : s1.pu.state = s.pu.state := by rw [hpu]; rfl
  have ht : t = _ := ht
  by_cases hgo : s.pu.cycle ≠ none ∨ s.pu.state = .tapeLowHold
  · rw [if_pos hgo] at ht
    rw [ht, hst, hpu]
    exact ⟨rfl, rfl, rfl, rfl, rfl, rfl, hread, id, fun h1 h2 => absurd hgo (by simp [h1, h2]), fun _ => rfl, hpr, hcall, hmem⟩
  · rw [if_neg hgo] at ht
    obtain ⟨hc, hs⟩ := not_or.mp hgo
    have hc : s.pu.cycle = none := Classical.not_not.mp hc
    cases hp : s.pu.holdPending with
    | true =>
      rw [hp, if_pos rfl] at ht
      have hput : t.pu = { s1.pu with state := .tapeLowHold, holdPending := false } := by rw [ht]; simp [enterTapeHold]
      rw [hput, hpu]
      refine ⟨rfl, rfl, rfl, rfl, rfl, rfl, ?_, fun h => absurd h hs, fun _ _ => rfl, fun h => absurd hc h, ?_, ?_, ?_⟩ <;>
        rw [ht] <;> simpa
    | false =>
      rw [hp, if_neg Bool.false_ne_true] at ht
      rw [ht, hpu]
      exact ⟨rfl, rfl, rfl, rfl, rfl, rfl, hread, fun h => absurd h hs, fun _ _ => rfl, fun h => absurd hc h, hpr, hcall, hmem⟩

theorem field1_le (body : List Byte) (i : Nat) : field1 body i ≤ 255 := by
  have h := (body.getD i 0).isLt
  unfold field1
  omega

section Feed

variable {s : State} {n : Nat}

theorem actFeed_refused (h : s.pu.chain ≠ [] ∨ s.pu.state = .tapeLowHold ∨ s.pu.holdPending = true) :
    actFeed n s = (s, plainAnswer .wrongState) := if_pos h

theorem actFeed_idle (hc : s.pu.chain = []) (hs : s.pu.state ≠ .tapeLowHold) (hp : s.pu.holdPending = false) : actFeed n s =
    if n = 0 then (s, ok [])
    else if Config.punchQueueCapacity ≤ s.pu.queue.length then (s, plainAnswer .full)
    else (punchSettle { s with pu := { s.pu with queue := s.pu.queue ++ [.blank n] } }, ok []) := by
  refine if_neg ?_
  rintro (h | h | h)
  · exact h hc
  · exact hs h
  · exact Bool.noConfusion (hp.symm.trans h)

end Feed

/-! ### PUNCH-MESSAGE (R125) -/

section PunchMessage

variable {body : List Byte} {s : State} {l t : Nat}

theorem countField?_number (d : Nat) {i : Nat} (h : field1 body i = 0) : countField? d body i = some (field1 body (i + 1)) := by
  simp only [countField?, h]

theorem countField?_fault (d : Nat) {i : Nat} (h : 1 < field1 body i) : countField? d body i = none := by
  unfold countField?
  split
  next h0 => omega
  next h1 => omega
  next => rfl

theorem actPunchMessage_fault (h : 1 < field1 body 5 ∨ 1 < field1 body 7) :
    ∃ p, actPunchMessage body s = (s, badValue p) := by
  by_cases hz : field2 body 0 = 0
  · exact ⟨0, if_pos hz⟩
  cases hl : countField? s.pu.defLeader body 5 with
  | none => exact ⟨5, by simp only [actPunchMessage, hz, if_false, hl]⟩
  | some l =>
    have h7 : 1 < field1 body 7 := h.resolve_left fun h5 => by rw [countField?_fault _ h5] at hl; exact absurd hl (by simp)
    exact ⟨7, by simp only [actPunchMessage, hz, if_false, hl, countField?_fault _ h7]⟩

theorem actPunchMessage_dead (hl : countField? s.pu.defLeader body 5 = some l) (ht : countField? s.pu.defTrailer body 7 = some t)
    (hz : field2 body 0 ≠ 0) (he : s.store.live? (field2 body 0) = none) :
    actPunchMessage body s = (s, plainAnswer .noSuchMessage) := by
  simp only [actPunchMessage, hz, if_false, hl, ht, he]

theorem actPunchMessage_live {e : Entry} (hl : countField? s.pu.defLeader body 5 = some l)
    (ht : countField? s.pu.defTrailer body 7 = some t) (hz : field2 body 0 ≠ 0)
    (he : s.store.live? (field2 body 0) = some e) : actPunchMessage body s =
      if e.state = .open then (s, plainAnswer .wrongState)
      else if Config.punchChainCapacity ≤ s.pu.chain.length then (s, plainAnswer .full)
      else (joinChain ⟨field2 body 0, min e.length (field3 body 2), l, t, false, min e.length (field3 body 2),
        min e.length (field3 body 2)⟩ s, ok (put3 (min e.length (field3 body 2)) ++ put1 l ++ put1 t)) := by
  simp only [actPunchMessage, hz, if_false, hl, ht, he]

end PunchMessage

/-! ### The running job (R120, R127, R128, R130) -/

theorem taggedEntries_length (n p : Nat) (cs : List StationCode) : (taggedEntries n p cs).length = cs.length := by
  induction cs generalizing p with
  | nil => rfl
  | cons c rest ih => simp only [taggedEntries, List.length_cons, ih]

theorem taggedEntries_getElem? (n p : Nat) (cs : List StationCode) (i : Nat) :
    (taggedEntries n p cs)[i]? = cs[i]?.map fun c => PunchEntry.text c (some ⟨n, p + i⟩) := by
  induction cs generalizing p i with
  | nil => rfl
  | cons c rest ih =>
    cases i with
    | zero => rfl
    | succ i =>
      simp only [taggedEntries, List.getElem?_cons_succ, ih]
      rw [Nat.add_assoc, Nat.add_comm 1 i]

theorem State.punchWants_iff (s : State) : s.punchWants = true ↔ ∃ j rest, s.pu.chain = j :: rest ∧ s.pu.stage = .body
    ∧ s.store.punchRead = none ∧ j.readPos < s.store.lengthOf j.number ∧ s.pu.queue.length ≤ 24 := by
  unfold State.punchWants
  cases s.pu.chain with
  | nil => simp
  | cons j rest => simp [and_assoc]

theorem State.punchHolds_iff (s : State) : s.punchHolds = true ↔ ∃ j rest e, s.pu.chain = j :: rest ∧ s.pu.stage = .body
    ∧ j.follow = true ∧ s.pu.queue = [] ∧ s.pu.held = none ∧ s.store.punchRead = none ∧ s.store.entry? j.number = some e
    ∧ e.state = .open ∧ e.length ≤ j.readPos := by
  unfold State.punchHolds
  cases s.pu.chain with
  | nil => simp
  | cons j rest => simp [and_assoc, Option.any_eq_true]

section Reads

variable {s : State}

theorem punchReads_stands (n : Nat) (h : s.punchWants = false) : punchReads n s = s := by
  cases n with
  | zero => rfl
  | succ n =>
    unfold punchReads
    cases hc : s.pu.chain with
    | nil => rfl
    | cons j rest => exact if_neg (by simp [h])

variable {j : PunchJob} {rest : List PunchJob} {e : Entry}

theorem punchReads_asks (n : Nat) (h : s.punchWants = true) (hc : s.pu.chain = j :: rest) : punchReads (n + 1) s =
    punchReads n { s with
      store := (s.store.ask s.mem .punch j.number j.readPos).1
      pu := s.pu.served (s.store.ask s.mem .punch j.number j.readPos).2 } := by
  simp only [punchReads, hc, h, if_true]

theorem punchReads_staged (n : Nat) (h : s.punchWants = true) (hc : s.pu.chain = j :: rest)
    (he : s.store.entry? j.number = some e) (hs : s.store.staged (bodyCell e.header j.readPos) = true) :
    punchReads (n + 1) s = punchReads n { s with pu := { s.pu with
      queue := s.pu.queue ++ taggedEntries j.number j.readPos (s.store.cellChars s.mem e j.readPos e.length)
      chain := { j with readPos := j.readPos + (s.store.cellChars s.mem e j.readPos e.length).length } :: rest } } := by
  rw [punchReads_asks n h hc]
  simp only [Store.ask, he, hs, if_true, Punch.served, hc]

theorem punchReads_outstanding (n : Nat) (h : s.punchWants = true) (hc : s.pu.chain = j :: rest)
    (he : s.store.entry? j.number = some e) (hs : s.store.staged (bodyCell e.header j.readPos) = false) :
    punchReads (n + 1) s = { s with store := { s.store with punchRead := some ⟨j.number, j.readPos⟩ } } := by
  have hserved : s.pu.served [] = s.pu := by
    have hpu : { s.pu with chain := j :: rest } = s.pu := by rw [← hc]
    simp only [Punch.served, hc, taggedEntries, List.append_nil, List.length_nil, Nat.add_zero]
    exact hpu
  rw [punchReads_asks n h hc]
  simp only [Store.ask, he, hs, Bool.false_eq_true, if_false, hserved]
  refine punchReads_stands n ?_
  rw [← Bool.not_eq_true, State.punchWants_iff]
  rintro ⟨j', rest', -, -, hread, -⟩
  exact absurd hread (Option.some_ne_none _)

end Reads

/-- Nothing of the running job is left to punch, and no read of it is outstanding (R128; log 31). -/
def State.punchDrained (s : State) : Prop :=
  s.pu.queue = [] ∧ s.pu.held = none ∧ s.pu.cycle = none ∧ s.store.punchRead = none

theorem punchDrained_iff (s : State) :
    (s.pu.drained = true ∧ s.store.punchRead.isNone = true) ↔ s.punchDrained := by
  simp [Punch.drained, State.punchDrained, and_assoc]

section Finish

variable {s : State} {j : PunchJob} {rest : List PunchJob}

theorem finishJob_idle (h : s.pu.chain = [] ∨ s.pu.stage = .none) : finishJob s = s := by
  rcases h with h | h
  · simp only [finishJob, h]
  · cases hc : s.pu.chain <;> simp only [finishJob, hc, h]

theorem finishJob_body (hc : s.pu.chain = j :: rest) (hs : s.pu.stage = .body) : finishJob s =
    if s.pu.drained = true ∧ s.store.punchRead.isNone = true
        ∧ (s.store.entry? j.number).any (fun e => decide (e.state ≠ .open) && decide (j.cursor = e.length)) = true then
      if j.trailer = 0 then endPunchJob s
      else { s with pu := { s.pu with queue := [.blank j.trailer], stage := .trailer } }
    else s := by
  simp only [finishJob, hc, hs]

theorem finishJob_trailer (hc : s.pu.chain = j :: rest) (hs : s.pu.stage = .trailer) : finishJob s =
    if s.pu.drained = true ∧ s.store.punchRead.isNone = true then endPunchJob s else s := by
  simp only [finishJob, hc, hs]

theorem endPunchJob_head (hc : s.pu.chain = j :: rest) :
    let ended := autoReleaseTest j.number (raise (.punchJobDone j.number j.follow j.cursor)
      { s with pu := { s.pu with chain := rest, stage := .none, shift := .unknown } })
    endPunchJob s = if s.pu.holdPending then enterTapeHold ended else ended := by
  intro ended
  have hp : ended.pu.holdPending = s.pu.holdPending := by simp [ended]
  rw [← hp]
  simp only [endPunchJob, hc]
  rfl

end Finish

theorem Punch.works_iff (p : Punch) : p.works = true ↔ p.queue ≠ [] ∨ p.chain ≠ [] ∨ p.held ≠ none := by
  simp [Punch.works, or_assoc, Option.isSome_iff_ne_none]

theorem State.punchRest_eq (s : State) : s.punchRest =
    if s.punchHolds = true then .held
    else if s.pu.queue ≠ [] ∨ s.pu.chain ≠ [] ∨ s.pu.held ≠ none then .ready else .off := by
  unfold State.punchRest
  simp only [Punch.works_iff]

/-- Settles O43: the tape's events and PUNCH-CONTROL by the punch's state, the running job by what is left of it. -/
theorem tapeAndPunchJobs : Obligations.TapeAndPunchJobs := by
  unfold Obligations.TapeAndPunchJobs
  refine ⟨⟨?low, fun s ht hst => if_pos ⟨ht, hst⟩, ?goOn, ?cancel, ?fault, ?count, ?message⟩, ?control, ?feed, ?settle, ?reads,
    fun n p cs => ⟨taggedEntries_length n p cs, taggedEntries_getElem? n p cs⟩, ?finish⟩
  case low =>
    intro s ht hst s1
    have hexec := exec_tapeLowAsserted ht hst
    have hheld (h1 : s.pu.state ≠ .tapeLowHold) (h2 : s.pu.holdPending = false) :
        ¬(s.pu.state = .tapeLowHold ∨ s.pu.holdPending = true) := by simp [h1, h2]
    refine ⟨fun h => hexec.trans (if_pos h), fun h1 h2 h => ?_, fun h1 h2 h3 h4 => ?_⟩
    · refine hexec.trans ((if_neg (hheld h1 h2)).trans (if_pos ?_))
      rwa [s.pu.jobRuns_iff, Option.isSome_iff_ne_none]
    · refine hexec.trans ((if_neg (hheld h1 h2)).trans (if_neg ?_))
      rw [s.pu.jobRuns_iff, Option.isSome_iff_ne_none]
      exact fun h => h.elim (fun h => h h3) (fun h => h h4)
  case goOn =>
    intro s s0 body h hlen hf s1
    refine ⟨fun hs ht => acceptControl_own h hlen (by omega) hf (if_pos ⟨hs, ht⟩), fun hor => ?_⟩
    refine acceptControl_own h hlen (by omega) hf (if_neg ?_)
    rintro ⟨hs, ht⟩
    exact hor.elim (fun h => h hs) (fun h => Bool.noConfusion (ht.symm.trans h))
  case cancel =>
    intro s s0 body h hlen hf s1
    exact ⟨cancelPunch s1, acceptControl_own h hlen (by omega) hf rfl, cancelPunch_leaves s1⟩
  case fault =>
    intro s s0 body h hlen hf
    obtain ⟨p, hp⟩ := actPunchMessage_fault (s := touchStandby s0) hf
    exact ⟨p, next_accept h (decide_eq_true hlen) hp⟩
  case count => exact fun d body i => ⟨countField?_number d, countField?_default d, countField?_fault d⟩
  case message =>
    intro s s0 body l t h hlen s1 n hl ht
    have hfit : decide (body.length = 9) = true := decide_eq_true hlen
    refine ⟨fun hz => next_accept h hfit (if_pos hz), fun hz he => next_accept h hfit (actPunchMessage_dead hl ht hz he),
      fun e hz he => ?_⟩
    have hact := actPunchMessage_live hl ht hz he
    refine ⟨fun ho => ?_, fun ho hf => ?_, fun ho hf => ?_⟩
    · exact next_accept h hfit (hact.trans (if_pos ho))
    · exact next_accept h hfit (hact.trans ((if_neg ho).trans (if_pos hf)))
    · exact next_accept h hfit (hact.trans ((if_neg ho).trans (if_neg (Nat.not_le.mpr hf))))
  case control =>
    intro s s0 body h hlen refused action
    refine ⟨fun hbad => ⟨?_, ?_, ?_⟩, fun ha => ?_, fun ha => ?_, fun ha => ?_⟩
    · exact acceptControl_refused 0 _ h hlen hbad
    · exact acceptControl_refused 1 _ h hlen hbad
    · exact acceptControl_refused 2 _ h hlen hbad
    · exact congrArg _ (acceptControl_other _ s hlen (by omega) (by omega))
    · exact congrArg _ (acceptControl_other _ s hlen (by omega) (by omega))
    · exact congrArg _ (acceptControl_other _ s hlen (by omega) (by omega))
  case feed =>
    intro s s0 body h hlen hf s1 n
    refine ⟨field1_le body 1, fun hr => acceptControl_own h hlen (by omega) hf (actFeed_refused hr), fun hc hs hp => ?_⟩
    have hact := actFeed_idle (n := n) hc hs hp
    refine ⟨fun hz => ?_, fun hz hq => ?_, fun hz hq => ?_⟩
    · exact acceptControl_own h hlen (by omega) hf (hact.trans (if_pos hz))
    · exact acceptControl_own h hlen (by omega) hf (hact.trans ((if_neg hz).trans (if_pos hq)))
    · exact acceptControl_own h hlen (by omega) hf (hact.trans ((if_neg hz).trans (if_neg (Nat.not_le.mpr hq))))
  case settle =>
    intro s s1
    refine ⟨fun h => if_pos h, fun h hor => ?_, fun h hc hs => ?_, s.punchHolds_iff, s.punchWants_iff⟩
    · refine (if_neg h).trans (if_pos ?_)
      rwa [Option.isSome_iff_ne_none]
    · refine (if_neg h).trans ((if_neg ?_).trans ?_)
      · rw [Option.isSome_iff_ne_none]
        exact fun hor => hor.elim (fun h => h hc) hs
      · rw [State.punchRest_eq]
  case reads =>
    intro s n
    exact ⟨rfl, punchReads_stands (n + 1), fun j rest e h hc he => ⟨punchReads_staged n h hc he, punchReads_outstanding n h hc he⟩⟩
  case finish =>
    intro s
    refine ⟨finishJob_idle, fun j rest hc => ?_⟩
    intro empty done ended
    have hdone : (s.pu.drained = true ∧ s.store.punchRead.isNone = true ∧ (s.store.entry? j.number).any
        (fun e => decide (e.state ≠ .open) && decide (j.cursor = e.length)) = true) ↔ done := by
      rw [← and_assoc, punchDrained_iff]
      refine and_congr Iff.rfl ?_
      rw [Option.any_eq_true]
      simp only [Bool.and_eq_true, decide_eq_true_eq]
    refine ⟨fun hs hd ht => ?_, fun hs hd ht => ?_, fun hs hd => ?_, fun hs he => ?_, fun hs he => ?_, fun hp => ?_, fun hp => ?_⟩
    · rw [finishJob_body hc hs, if_pos (hdone.mpr hd), if_neg ht]
    · rw [finishJob_body hc hs, if_pos (hdone.mpr hd), if_pos ht]
    · rw [finishJob_body hc hs, if_neg fun h => hd (hdone.mp h)]
    · rw [finishJob_trailer hc hs, if_pos ((punchDrained_iff s).mpr he)]
    · rw [finishJob_trailer hc hs, if_neg fun h => he ((punchDrained_iff s).mp h)]
    · exact (endPunchJob_head hc).trans (if_neg (by simp [hp]))
    · exact (endPunchJob_head hc).trans (if_pos hp)

end Sys2Proof.Machine
end


section
/-! SUPPORT. The numbers of openings, outgoing messages and closes, and statement O44. -/

namespace Sys2Proof.Machine

/-- Both directions of a message in turn (R170). -/
theorem Dir.eachWay {motive : Dir → Prop} (incoming : motive .in) (outgoing : motive .out) (d : Dir) : motive d := by
  cases d
  · exact incoming
  · exact outgoing

/-! ### The directory (R170, R172) -/

theorem entry?_none_iff (st : Store) (n : Nat) : st.entry? n = none ↔ ∀ e ∈ st.dir, e.number ≠ n := by
  simp [Store.entry?, List.find?_eq_none]

theorem entry?_isSome_iff (st : Store) (n : Nat) : (st.entry? n).isSome = true ↔ ∃ e ∈ st.dir, e.number = n := by
  simp [Store.entry?, List.find?_isSome]

theorem entry?_some {st : Store} {n : Nat} {e : Entry} (h : st.entry? n = some e) : e ∈ st.dir ∧ e.number = n :=
  ⟨List.mem_of_find?_eq_some h, by simpa using List.find?_some h⟩

theorem open?_some {d : Dir} {st : Store} {e : Entry} (h : st.open? d = some e) :
    e ∈ st.dir ∧ e.dir = d ∧ e.state = .open := by
  have hp := List.find?_some h
  simp only [Bool.and_eq_true, decide_eq_true_eq] at hp
  exact ⟨List.mem_of_find?_eq_some h, hp.1, hp.2⟩

theorem open?_isSome_iff (d : Dir) (st : Store) : (st.open? d).isSome = true ↔ ∃ e ∈ st.dir, e.dir = d ∧ e.state = .open := by
  simp [Store.open?, List.find?_isSome]

/-- An OPEN entry is of one direction or the other (R172). -/
theorem anyOpen_iff (st : Store) : ((st.open? .out).isSome = true ∨ (st.open? .in).isSome = true) ↔
    ∃ e ∈ st.dir, e.state = .open := by
  rw [open?_isSome_iff, open?_isSome_iff]
  constructor
  · rintro (⟨e, he, -, ho⟩ | ⟨e, he, -, ho⟩) <;> exact ⟨e, he, ho⟩
  · rintro ⟨e, he, ho⟩
    cases hd : e.dir using Dir.eachWay with
    | incoming => exact Or.inr ⟨e, he, hd, ho⟩
    | outgoing => exact Or.inl ⟨e, he, hd, ho⟩

/-! ### The number of an opening (R170) -/

theorem numberAfter_inj {n i j : Nat} (hi : i < 65535) (hj : j < 65535) (h : numberAfter n i = numberAfter n j) : i = j := by
  unfold numberAfter at h
  omega

/-- So many different numbers are not all held by a smaller directory. -/
theorem exists_unheld {st : Store} {n k : Nat} (hk : k ≤ 65535) (hlen : st.dir.length < k) :
    ∃ j, j < k ∧ st.entry? (numberAfter n j) = none := by
  refine Classical.byContradiction fun hall => ?_
  have hsub : (List.range k).map (numberAfter n) ⊆ st.dir.map Entry.number := by
    intro x hx
    obtain ⟨j, hj, rfl⟩ := List.mem_map.mp hx
    have hheld : st.entry? (numberAfter n j) ≠ none := fun hnone => hall ⟨j, List.mem_range.mp hj, hnone⟩
    obtain ⟨e, he, hn⟩ := (entry?_isSome_iff st _).mp (Option.isSome_iff_ne_none.mpr hheld)
    exact List.mem_map.mpr ⟨e, he, hn⟩
  have hnodup : ((List.range k).map (numberAfter n)).Nodup := by
    refine List.pairwise_map.mpr (List.nodup_range.imp_of_mem fun {i j} hi hj hne heq => hne ?_)
    rw [List.mem_range] at hi hj
    exact numberAfter_inj (by omega) (by omega) heq
  have hle := hnodup.length_le_of_subset hsub
  rw [List.length_map, List.length_range, List.length_map] at hle
  omega

/-- With a try for each entry and one more, an opening takes a number that no entry holds (R170). -/
theorem freshNumber_unheld {st : Store} {n fuel : Nat} (h : 1 ≤ n) (h1 : n ≤ 65535) (hf : fuel ≤ 65535)
    (hlen : st.dir.length < fuel) : ∃ k, k < fuel ∧ st.freshNumber fuel n = numberAfter n k
      ∧ st.entry? (st.freshNumber fuel n) = none ∧ ∀ j, j < k → ∃ e ∈ st.dir, e.number = numberAfter n j := by
  obtain ⟨k, hk, hn, hheld, hfree⟩ := freshNumber_spec fuel (st := st) h h1
  obtain ⟨j, hj, hnone⟩ := exists_unheld (n := n) hf hlen
  have hkf : k < fuel := by
    refine Nat.lt_of_not_le fun hle => ?_
    have hs := hheld j (by omega)
    rw [hnone] at hs
    exact Bool.noConfusion hs
  refine ⟨k, hkf, hn, hn ▸ hfree hkf, fun j hj => ?_⟩
  exact (entry?_isSome_iff st _).mp (hheld j hj)

theorem openEntry_number_free {st : Store} (hlen : st.dir.length < 64) :
    ∀ e ∈ st.dir, e.number ≠ st.freshNumber 65 st.nextNumber := by
  rw [← entry?_none_iff]
  by_cases hr : 1 ≤ st.nextNumber ∧ st.nextNumber ≤ 65535
  · obtain ⟨k, -, -, hfree, -⟩ := freshNumber_unheld (st := st) (fuel := 65) hr.1 hr.2 (by decide) (by omega)
    exact hfree
  · unfold Store.freshNumber
    split
    next hs =>
      have hsucc : 1 ≤ succNumber st.nextNumber ∧ succNumber st.nextNumber ≤ 65535 := by
        unfold succNumber
        split <;> omega
      obtain ⟨k, -, -, hfree, -⟩ := freshNumber_unheld (st := st) (fuel := 64) hsucc.1 hsucc.2 (by decide) hlen
      exact hfree
    next hs => exact Option.not_isSome_iff_eq_none.mp hs

/-- An opening takes the next number or the first after it that no entry holds (R170). -/
theorem openEntry_number_first {st : Store} (hlen : st.dir.length < 64) (h : 1 ≤ st.nextNumber) (h1 : st.nextNumber ≤ 65535) :
    st.firstFree (st.freshNumber 65 st.nextNumber) := by
  obtain ⟨k, hk, hn, -, hheld⟩ := freshNumber_unheld (st := st) (fuel := 65) h h1 (by decide) (by omega)
  exact ⟨k, by omega, hn, openEntry_number_free hlen, hheld⟩

/-- An opening, written out (R170, R172). -/
theorem openEntry_eq (d : Dir) (rate : Option Rate) (q : Nat) (st : Store) :
    let n := st.freshNumber 65 st.nextNumber
    st.openEntry d rate q = ({ st with
      tail := (st.tail + 1) % 524288, free := st.free - 1, nextNumber := if 65535 ≤ n then 1 else n + 1
      dir := st.dir ++ [
        { number := n, dir := d, state := .open, header := st.tail, length := 0
          flags := ⟨false, false, false, false, false, false⟩, errors := 0, rate := rate, peakQ := q, print := 0, punch := 0
          sent := 0, delivered := 0, trackedMark := false, punchNamed := false, headerDue := true }] }, n) := rfl

/-! ### Requests outside MEMORY-INIT (R164) -/

section Init

variable {act : State → State × Answer} {s : State}

theorem outsideInit_busy (act : State → State × Answer) (h : s.store.memInit = true) :
    outsideInit act s = (s, plainAnswer .busy) := if_pos h

theorem outsideInit_out (act : State → State × Answer) (h : s.store.memInit = false) : outsideInit act s = act s :=
  if_neg (ne_true_of_eq_false h)

end Init

/-! ### STORE-OPEN, STORE-APPEND and STORE-CLOSE (R175) -/

theorem Store.canOpen_out_iff (st : Store) : st.canOpen .out = true ↔ st.dir.length < 64 ∧ 1 ≤ st.free := by
  simp only [Store.canOpen, Bool.and_eq_true, decide_eq_true_eq]
  exact Iff.rfl

section Outgoing

variable {s : State}

theorem storeOpen_open (h : ∃ e ∈ s.store.dir, e.state = .open) : storeOpen s = (s, plainAnswer .wrongState) :=
  if_pos ((anyOpen_iff s.store).mpr h)

theorem storeOpen_closed (h : ∀ e ∈ s.store.dir, e.state ≠ .open) : storeOpen s =
    if s.store.canOpen .out then
      ({ s with store := (s.store.openEntry .out none 0).1 }, ok (put2 (s.store.openEntry .out none 0).2))
    else (s, plainAnswer .full) := by
  refine if_neg fun ho => ?_
  obtain ⟨e, he, ho⟩ := (anyOpen_iff s.store).mp ho
  exact h e he ho

theorem storeAppend_bad {body : List Byte} (h : ∃ b ∈ body, 128 ≤ b.toNat) :
    storeAppend body s = (s, badValue (badCodeAt 0 body)) := by
  simp only [storeAppend, stationCodes?_bad h]

theorem storeAppend_good {body : List Byte} (h : ∀ b ∈ body, b.toNat < 128) :
    let r := appendCodes (body.map (BitVec.setWidth 7)) 0 s
    storeAppend body s =
      if (s.store.open? .out).isNone then (s, plainAnswer .wrongState) else (r.1, appendAnswer r.2.1 r.2.2) := by
  simp only [storeAppend, stationCodes?_good h]

/-- Codes short of all were taken (R175). -/
theorem appendAnswer_part {n : Nat} {a : AppendEnd} (ha : a ≠ .all) (hn : n ≠ 0) : appendAnswer n a = ⟨.part n, put1 n⟩ := by
  cases a with
  | all => exact absurd rfl ha
  | queueFull => exact if_neg hn
  | ringOut => exact if_neg hn

variable {e : Entry} {c : StationCode} {rest : List StationCode}

theorem appendCodes_queueFull (n : Nat) (h : s.store.open? .out = some e) (hq : 2 < s.store.queue.length) :
    appendCodes (c :: rest) n s = (s, n, .queueFull) := by
  simp only [appendCodes, h, hq, if_true]

theorem appendCodes_at (n : Nat) {s1 : State} {p : Nat} (h : s.store.open? .out = some e) (hq : s.store.queue.length ≤ 2)
    (hp : storeInto e c s = (s1, .at p)) : appendCodes (c :: rest) n s = appendCodes rest (n + 1) s1 := by
  simp only [appendCodes, h, Nat.not_lt.mpr hq, if_false, hp]

theorem appendCodes_blocked (n : Nat) {s1 : State} (h : s.store.open? .out = some e) (hq : s.store.queue.length ≤ 2)
    (hp : storeInto e c s = (s1, .blocked)) : appendCodes (c :: rest) n s = (s1, n, .queueFull) := by
  simp only [appendCodes, h, Nat.not_lt.mpr hq, if_false, hp]

theorem appendCodes_ringOut (n : Nat) {s1 : State} (h : s.store.open? .out = some e) (hq : s.store.queue.length ≤ 2)
    (hp : storeInto e c s = (s1, .ringOut)) : appendCodes (c :: rest) n s = (s1, n, .ringOut) := by
  simp only [appendCodes, h, Nat.not_lt.mpr hq, if_false, hp]

theorem storeClose_none (h : s.store.open? .out = none) : storeClose s = (s, plainAnswer .wrongState) := by
  simp only [storeClose, h]

theorem storeClose_open (h : s.store.open? .out = some e) :
    storeClose s = (closeMessage e MsgFlags.justComplete s, ok (put2 e.number ++ put3 e.length)) := by
  simp only [storeClose, h]

end Outgoing

/-! ### Closes (R108, R117, R150, R168, R174) -/

theorem closeFlags_eq (e : Entry) (f : MsgFlags) (s : State) : s.closeFlags e f =
    { complete := e.flags.complete || f.complete, endedByClear := e.flags.endedByClear || f.endedByClear
      truncated := e.flags.truncated || f.truncated, poorLine := e.flags.poorLine || f.poorLine
      printIncomplete := e.flags.printIncomplete || f.printIncomplete
        || (decide (s.pr.tracked = some e.number) && s.pr.cannotPrint && decide (e.print < e.length))
      punchSkipped := e.flags.punchSkipped || f.punchSkipped } := by
  simp only [State.closeFlags, MsgFlags.or, MsgFlags.none, Bool.or_false]

theorem Printer.untrack_eq (n : Nat) (p : Printer) :
    p.untrack n = { p with tracked := if p.tracked = some n then none else p.tracked } := by
  unfold Printer.untrack
  split <;> rfl

theorem Store.placeFree_in_iff (st : Store) : st.placeFree .in = true ↔ st.queue.length < 4 := by
  simp only [Store.placeFree, decide_eq_true_eq]
  exact Iff.rfl

theorem Store.placeFree_out_iff (st : Store) : st.placeFree .out = true ↔
    st.queue.length + (if st.inCell.state = .waiting then 1 else 0) < 4 := by
  simp only [Store.placeFree, decide_eq_true_eq, bit]
  exact Iff.rfl

section CloseAsm

variable {d : Dir} {st : Store}

theorem leave_joins (h : st.placeFree d = true) : st.leave d =
    ({ st with queue := st.queue ++ [⟨(st.asm d).target, (st.asm d).chars.map codeByte⟩] } : Store).setAsm d Asm.empty :=
  if_pos h

theorem leave_waits (h : st.placeFree d = false) : st.leave d = st.setAsm d { st.asm d with state := .waiting } :=
  if_neg (ne_true_of_eq_false h)

theorem closeAsm_written (hs : (st.asm d).state = .filling) (hc : (st.asm d).changed = false) :
    st.closeAsm d = st.setAsm d Asm.empty := by
  simp only [Store.closeAsm, hs, hc, Bool.false_eq_true, if_false]

theorem closeAsm_changed (hs : (st.asm d).state = .filling) (hc : (st.asm d).changed = true) :
    st.closeAsm d = st.leave d := by
  simp only [Store.closeAsm, hs, hc, if_true]

theorem closeAsm_stands (hs : (st.asm d).state ≠ .filling) : st.closeAsm d = st := by
  unfold Store.closeAsm
  cases h : (st.asm d).state with
  | filling => exact absurd h hs
  | _ => rfl

end CloseAsm

theorem placeFree_claimed (d : Dir) (st : Store) :
    let claimed : Nat := match d with
      | .in => 0
      | .out => if st.inCell.state = .waiting then 1 else 0
    st.placeFree d = decide (st.queue.length + claimed < 4) := by
  cases d using Dir.eachWay with
  | incoming => rfl
  | outgoing => exact Bool.eq_iff_iff.mpr ((st.placeFree_out_iff).trans decide_eq_true_iff.symm)

theorem closeOpen_none {d : Dir} {s : State} (f : MsgFlags) (h : s.store.open? d = none) : closeOpen d f s = s := by
  simp only [closeOpen, h]

theorem closeOpen_some {d : Dir} {s : State} {e : Entry} (f : MsgFlags) (h : s.store.open? d = some e) :
    closeOpen d f s = closeMessage e f s := by
  simp only [closeOpen, h]

/-- Settles O44: the requests by the tests of their acts, the close by its steps. -/
theorem outgoingMessage : Obligations.OutgoingMessage := by
  unfold Obligations.OutgoingMessage
  refine ⟨?opening, ?append, ?codes, fun s n => ⟨rfl, fun c rest h => by simp only [appendCodes, h]⟩, ?into, ?close, ?closing,
    fun d f s => ⟨closeOpen_none f, fun e => closeOpen_some f⟩, ?asm⟩
  case opening =>
    intro s s0 h s1
    refine ⟨fun hm => next_accept h rfl (outsideInit_busy _ hm), fun hm ho => next_accept h rfl ?_, fun hm ho => ?_⟩
    · exact (outsideInit_out _ hm).trans (storeOpen_open ho)
    have hact : outsideInit storeOpen s1 = _ := (outsideInit_out _ hm).trans (storeOpen_closed ho)
    refine ⟨fun hf => next_accept h rfl (hact.trans (if_neg ?_)), fun hlen hfree => ?_⟩
    · rw [s1.store.canOpen_out_iff]; omega
    · refine ⟨s1.store.freshNumber 65 s1.store.nextNumber, openEntry_number_free hlen, openEntry_number_first hlen, ?_⟩
      exact next_accept h rfl (hact.trans (if_pos ((s1.store.canOpen_out_iff).mpr ⟨hlen, hfree⟩)))
  case append =>
    intro s s0 body h hlen s1 r
    have hfit : decide (body.length ≤ 240) = true := decide_eq_true hlen
    refine ⟨fun hm => next_accept h hfit (outsideInit_busy _ hm), fun hm hb => ?_, fun hm hb => ?_⟩
    · exact ⟨_, next_accept h hfit ((outsideInit_out _ hm).trans (storeAppend_bad hb))⟩
    have hact : outsideInit (storeAppend body) s1 = _ := (outsideInit_out _ hm).trans (storeAppend_good hb)
    have hopen (ho : s1.store.open? .out ≠ none) : outsideInit (storeAppend body) s1 = (r.1, appendAnswer r.2.1 r.2.2) :=
      hact.trans (if_neg (by simpa [Option.isNone_iff_eq_none] using ho))
    refine ⟨fun ho => ?_, fun ho ha => ?_, fun ho ha hn => ?_, fun ho ha hn => ?_, fun ho ha hn => ?_⟩
    · exact next_accept h hfit (hact.trans (if_pos (Option.isNone_iff_eq_none.mpr ho)))
    · exact next_accept h hfit ((hopen ho).trans (by rw [ha]; rfl))
    · exact next_accept h hfit ((hopen ho).trans (by rw [appendAnswer_part ha hn]))
    · exact next_accept h hfit ((hopen ho).trans (by rw [ha, hn]; rfl))
    · exact next_accept h hfit ((hopen ho).trans (by rw [ha, hn]; rfl))
  case codes =>
    intro s e c rest n h
    exact ⟨appendCodes_queueFull n h, fun hq s1 =>
      ⟨fun p => appendCodes_at n h hq, appendCodes_blocked n h hq, appendCodes_ringOut n h hq⟩⟩
  case into =>
    intro e c s r
    refine ⟨fun p => storeInto_at, storeInto_blocked_out, fun hb hd => ?_, storeInto_ringOut⟩
    rw [storeInto_blocked_in hb hd, setFlags_truncated]
  case close =>
    intro s s0 h s1
    refine ⟨fun hm => next_accept h rfl (outsideInit_busy _ hm), fun hm ho => next_accept h rfl ?_,
      fun e hm ho => next_accept h rfl ?_⟩
    · exact (outsideInit_out _ hm).trans (storeClose_none ho)
    · exact (outsideInit_out _ hm).trans (storeClose_open ho)
  case closing =>
    intro e f s cannot rest flags st
    have hcannot : s.pr.cannotPrint = cannot := rfl
    have hflags : s.closeFlags e f = flags := by rw [closeFlags_eq, hcannot]
    unfold closeMessage
    rw [hflags, Printer.untrack_eq]
    rfl
  case asm =>
    intro d st a claimed
    have hfree : st.placeFree d = decide (st.queue.length + claimed < 4) := placeFree_claimed d st
    refine ⟨closeAsm_written, fun hs hc hq => ?_, fun hs hc hq => ?_, closeAsm_stands⟩
    · rw [closeAsm_changed hs hc, leave_joins (hfree.trans (decide_eq_true hq))]
      rfl
    · exact (closeAsm_changed hs hc).trans (leave_waits (hfree.trans (decide_eq_false (Nat.not_lt.mpr hq))))

end Sys2Proof.Machine
end


section
/-! SUPPORT. Characters stored and incoming messages opened, and statement O45. -/

namespace Sys2Proof.Machine

/-! ### Closes leave no more entries than there were -/

theorem release_dir_length (n : Nat) (st : Store) : (st.release n).dir.length ≤ st.dir.length := by
  have hsub := (reclaim_frame (st.modify n fun e => { e with state := .released, headerDue := true }).dir.length
    (st.modify n fun e => { e with state := .released, headerDue := true })).1.length_le
  exact Nat.le_trans hsub (Nat.le_of_eq (by rw [Store.modify_dir, List.length_map]))

theorem autoReleaseTest_dir_length (n : Nat) (s : State) : (autoReleaseTest n s).store.dir.length ≤ s.store.dir.length := by
  unfold autoReleaseTest
  split
  · exact Nat.le_refl _
  · split
    · exact release_dir_length n s.store
    · exact Nat.le_refl _

theorem endPunchJob_dir_length (s : State) : (endPunchJob s).store.dir.length ≤ s.store.dir.length := by
  cases hc : s.pu.chain with
  | nil => simp only [endPunchJob, hc, Nat.le_refl]
  | cons j rest =>
    have hended := autoReleaseTest_dir_length j.number (raise (.punchJobDone j.number j.follow j.cursor)
      { s with pu := { s.pu with chain := rest, stage := .none, shift := .unknown } })
    rw [endPunchJob_head hc]
    split <;> simpa using hended

theorem finishJob_dir_length (s : State) : (finishJob s).store.dir.length ≤ s.store.dir.length := by
  unfold finishJob
  split
  · split
    · split
      · exact endPunchJob_dir_length s
      · exact Nat.le_refl _
    · exact Nat.le_refl _
  · split
    · exact endPunchJob_dir_length s
    · exact Nat.le_refl _
  · exact Nat.le_refl _

theorem punchSettle_dir_length (s : State) : (punchSettle s).store.dir.length ≤ s.store.dir.length := by
  have hle : (finishJob (punchReads 32 s)).store.dir.length ≤ s.store.dir.length := by
    have h := finishJob_dir_length (punchReads 32 s)
    rwa [punchReads_dir] at h
  unfold punchSettle
  split
  · exact Nat.le_refl _
  · dsimp only
    split <;> exact hle

theorem raise_store (r : Report) (s : State) : (raise r s).store = s.store := rfl

theorem closeMessage_dir_length (e : Entry) (f : MsgFlags) (s : State) :
    (closeMessage e f s).store.dir.length ≤ s.store.dir.length := by
  unfold closeMessage
  refine Nat.le_trans (autoReleaseTest_dir_length e.number _) ?_
  rw [raise_store]
  refine Nat.le_trans (punchSettle_dir_length _) ?_
  simp [closeAsm_dir]

theorem closeOpen_dir_length (d : Dir) (f : MsgFlags) (s : State) :
    (closeOpen d f s).store.dir.length ≤ s.store.dir.length := by
  cases h : s.store.open? d with
  | none => exact Nat.le_of_eq (by rw [closeOpen_none f h])
  | some e => rw [closeOpen_some f h]; exact closeMessage_dir_length e f s

/-! ### Tracking and following (R108, R109, R129) -/

theorem trackMessage_eq (n : Nat) (s : State) : trackMessage n s = noteLiveWork { s with
    pr := { s.pr with
      tracked := some n
      catchUp := if s.pr.mode = .catchUp ∧ s.pr.catchUp = none then some n else s.pr.catchUp }
    store := { s.store with
      dir := s.store.dir.map fun e => if e.number = n then { e with trackedMark := true } else e } } := by
  unfold trackMessage
  dsimp only
  split <;> rfl

theorem followMessage_joins {n : Nat} {s : State} (h : s.pu.chain.length < 8) : followMessage n s = { s with
    pu := { s.pu with chain := s.pu.chain ++ [⟨n, 0, s.pu.defLeader, s.pu.defTrailer, true, 0, 0⟩] }
    store := { s.store with
      dir := s.store.dir.map fun e => if e.number = n then { e with punchNamed := true } else e } } := if_pos h

theorem followMessage_skipped {n : Nat} {s : State} (h : 8 ≤ s.pu.chain.length) : followMessage n s = { s with
    store := { s.store with dir := s.store.dir.map fun e =>
      if e.number = n then { e with flags := { e.flags with punchSkipped := true }, headerDue := true } else e } } := by
  refine (if_neg (Nat.not_lt.mpr h)).trans ?_
  simp [Store.setFlags, Store.modify, MsgFlags.or, MsgFlags.justPunchSkipped, MsgFlags.none]

/-! ### The character stored (R168, R173) -/

section StoreChar

variable {d : Dir} {e : Entry} {c : StationCode} {st : Store}

theorem asm_setAsm (d : Dir) (a : Asm) (st : Store) : (st.setAsm d a).asm d = a := by cases d <;> rfl

theorem asm_modify (d : Dir) (n : Nat) (f : Entry → Entry) (st : Store) : (st.modify n f).asm d = st.asm d := by
  cases d <;> rfl

theorem setAsm_frame (d : Dir) (a : Asm) (st : Store) : (st.setAsm d a).queue = st.queue ∧ (st.setAsm d a).tail = st.tail
    ∧ (st.setAsm d a).free = st.free ∧ (st.setAsm d a).dir = st.dir := by
  cases d <;> exact ⟨rfl, rfl, rfl, rfl⟩

theorem storeChar_blocked (h : (st.asm d).state = .waiting) : st.storeChar d e c = (st, .blocked) := by
  simp only [Store.storeChar, h]

theorem storeChar_ringOut (h : (st.asm d).state = .empty) (hf : st.free = 0) : st.storeChar d e c = (st, .ringOut) := by
  simp only [Store.storeChar, h, hf, if_true]

theorem storeChar_begins (h : (st.asm d).state = .empty) (hf : 0 < st.free) : st.storeChar d e c =
    (st.allocate.place d ⟨.filling, e.number, st.tail, [], false⟩ e c, .at e.length) := by
  simp only [Store.storeChar, h, Nat.ne_of_gt hf, if_false]

theorem storeChar_goesOn (h : (st.asm d).state = .filling) (hl : (st.asm d).chars.length < 8) : st.storeChar d e c =
    (st.place d (st.asm d) e c, .at e.length) := by
  simp only [Store.storeChar, h, hl, if_true]

/-- The store with a character in the assembly cell and counted in its entry, before a full cell asks for a place. -/
def Store.placed (d : Dir) (a : Asm) (e : Entry) (c : StationCode) (st : Store) : Store :=
  (st.setAsm d { a with chars := a.chars ++ [c], changed := true }).modify e.number fun x => { x with length := x.length + 1 }

theorem place_short {a : Asm} (h : a.chars.length < 7) : st.place d a e c = st.placed d a e c :=
  if_neg (by rw [List.length_append, List.length_singleton]; omega)

theorem place_last {a : Asm} (h : a.chars.length = 7) : st.place d a e c = (st.placed d a e c).leave d :=
  if_pos (by rw [List.length_append, List.length_singleton, h])

theorem placed_asm (d : Dir) (a : Asm) (e : Entry) (c : StationCode) (st : Store) :
    (st.placed d a e c).asm d = { a with chars := a.chars ++ [c], changed := true } := by
  rw [Store.placed, asm_modify, asm_setAsm]

theorem placed_frame (d : Dir) (a : Asm) (e : Entry) (c : StationCode) (st : Store) :
    (st.placed d a e c).queue = st.queue ∧ (st.placed d a e c).tail = st.tail ∧ (st.placed d a e c).free = st.free := by
  cases d <;> exact ⟨rfl, rfl, rfl⟩

theorem placeFree_placed {d : Dir} {a : Asm} (e : Entry) (c : StationCode) {st : Store} (h : (st.asm d).state = a.state) :
    (st.placed d a e c).placeFree d = st.placeFree d := by
  cases d <;> rfl

/-- A stored character counts in the length of its message (R173). -/
theorem storeChar_at_dir {x : Nat} (h : (st.storeChar d e c).2 = .at x) : (st.storeChar d e c).1.dir =
    st.dir.map fun y => if y.number = e.number then { y with length := y.length + 1 } else y := by
  cases hs : (st.asm d).state with
  | waiting => rw [storeChar_blocked hs] at h; exact Stored.noConfusion h
  | filling =>
    by_cases hl : (st.asm d).chars.length < 8
    · rw [storeChar_goesOn hs hl]; exact place_dir ..
    · simp only [Store.storeChar, hs, hl, if_false] at h
      exact Stored.noConfusion h
  | empty =>
    rcases Nat.eq_zero_or_pos st.free with hf | hf
    · rw [storeChar_ringOut hs hf] at h; exact Stored.noConfusion h
    · rw [storeChar_begins hs hf]; exact place_dir ..

end StoreChar

/-- Settles O45: the opening by its steps, the character by the state of its assembly cell. -/
theorem storedCharacter : Obligations.StoredCharacter := by
  unfold Obligations.StoredCharacter
  refine ⟨?opening, fun n s => ⟨trackMessage_eq n s, followMessage_joins, followMessage_skipped⟩, ?places, ?character⟩
  case opening =>
    intro row s hlen s0
    have hlen0 : s0.store.dir.length < 64 := Nat.lt_of_le_of_lt (closeOpen_dir_length .out MsgFlags.justTruncated s) hlen
    refine ⟨s0.store.freshNumber 65 s0.store.nextNumber, openEntry_number_free hlen0, openEntry_number_first hlen0, ?_⟩
    intro s1 s2 s3
    have hcall0 : s0.call = s.call := by simp [s0]
    have hrate : s0.call.rate = s.call.rate := by rw [hcall0]
    have hq : s0.rx.q = s.rx.q := by simp [s0]
    have hs1 : ({ s0 with store := (s0.store.openEntry .in s0.call.rate s0.rx.q).1 } : State) = s1 := by
      rw [hrate, hq]
      rfl
    have hcall2 : s2.call = s1.call := by
      simp only [s2]
      split <;> simp
    have hcall3 : s3.call = s.call := by
      have h3 : s3.call = s2.call := by
        simp only [s3]
        split <;> simp
      rw [h3, hcall2]
      exact hcall0
    have hopen : openIncoming row s = raise (.messageOpened (s0.store.freshNumber 65 s0.store.nextNumber) s3.call.rate) s3 := by
      unfold openIncoming
      dsimp only
      rw [show closeOpen .out MsgFlags.justTruncated s = s0 from rfl, hs1]
      rfl
    rw [hopen, hcall3]
  case places =>
    intro st
    refine ⟨st.placeFree_in_iff, (st.placeFree_out_iff).trans ?_⟩
    by_cases hw : st.inCell.state = .waiting
    · simp only [hw, if_true, true_implies]; omega
    · simp only [hw, if_false, false_implies, and_true, Nat.add_zero]
  case character =>
    intro d e c st
    refine ⟨storeChar_blocked, storeChar_ringOut, fun h hf => ?_, fun h hl => ?_, fun h hl => ?_, fun x => storeChar_at_dir⟩
    · rw [storeChar_begins h hf, place_short (by exact Nat.zero_lt_succ 6)]
      obtain ⟨hq, ht, hfree⟩ := placed_frame d ⟨.filling, e.number, st.tail, [], false⟩ e c st.allocate
      exact ⟨rfl, placed_asm .., ht, hfree, hq⟩
    · rw [storeChar_goesOn h (by omega), place_short hl]
      obtain ⟨hq, ht, hfree⟩ := placed_frame d (st.asm d) e c st
      exact ⟨rfl, placed_asm .., ht, hfree, hq⟩
    · rw [storeChar_goesOn h (by omega), place_last hl]
      obtain ⟨hq, -, -⟩ := placed_frame d (st.asm d) e c st
      have hplace : (st.placed d (st.asm d) e c).placeFree d = st.placeFree d := placeFree_placed e c rfl
      refine ⟨rfl, fun hp => ?_, fun hp => ?_⟩
      · dsimp only
        rw [leave_joins (hplace.trans hp), asm_setAsm, (setAsm_frame ..).1, placed_asm, hq]
        exact ⟨rfl, rfl⟩
      · dsimp only
        rw [leave_waits (hplace.trans hp), asm_setAsm, (setAsm_frame ..).1, hq]
        exact ⟨rfl, rfl⟩

end Sys2Proof.Machine
end


section
/-! SUPPORT. READ-MESSAGE, releases and the reclaim, and statement O46. -/

namespace Sys2Proof.Machine

/-! ### READ-MESSAGE (R166, R176, R177) -/

section ReadMessage

variable {body : List Byte} {s : State}

theorem readTest_bad (h : field2 body 0 = 0 ∨ field1 body 5 = 0 ∨ 200 < field1 body 5) :
    ∃ p, readTest body s = .inl (badValue p) := by
  by_cases hz : field2 body 0 = 0
  · exact ⟨0, if_pos hz⟩
  · have hc : field1 body 5 < 1 ∨ 200 < field1 body 5 := by omega
    exact ⟨5, (if_neg hz).trans (if_pos hc)⟩

theorem readTest_good (hz : field2 body 0 ≠ 0) (h1 : 1 ≤ field1 body 5) (h2 : field1 body 5 ≤ 200) : readTest body s =
    if s.store.memInit then .inl (plainAnswer .busy)
    else match s.store.live? (field2 body 0) with
      | none => .inl (plainAnswer .noSuchMessage)
      | some e => .inr ⟨field2 body 0, min e.length (field3 body 2), min (field1 body 5) (e.length - min e.length (field3 body 2)), []⟩ :=
  (if_neg hz).trans (if_neg (by omega))

theorem exec_readMessage_answer {s0 : State} {a : Answer} (h : s.asked 0x33#8 body s0) (hlen : body.length = 6)
    (hr : readTest body (touchStandby s0) = .inl a) :
    exec (.readMessage body) s = .next (reply 0x33#8 a (touchStandby s0)) := by
  show Host.Outcome.next (acceptRead body s) = _
  rw [acceptRead_asked h, if_pos hlen, hr]

theorem exec_readMessage_reads {s0 : State} {r : HostRead} (h : s.asked 0x33#8 body s0) (hlen : body.length = 6)
    (hr : readTest body (touchStandby s0) = .inr r) :
    exec (.readMessage body) s = .next (hostContinue r (touchStandby s0)) := by
  show Host.Outcome.next (acceptRead body s) = _
  rw [acceptRead_asked h, if_pos hlen, hr]

end ReadMessage

/-- The characters of a cell that are read: to its end, up to the limit (R176). -/
theorem cellChars_length (m : List Host.Cell) (st : Store) (e : Entry) (pos limit : Nat) :
    (st.cellChars m e pos limit).length = min ((pos / 8 + 1) * 8) limit - pos := by
  simp [Store.cellChars]

section ServeHost

variable {m : List Host.Cell} {e : Entry} {st : Store}

theorem serveHost_done (n : Nat) {h : HostRead}
    (hd : h.count ≤ h.got.length ∨ st.staged (bodyCell e.header (h.offset + h.got.length)) = false) :
    st.serveHost m e n h = h := by
  cases n with
  | zero => rfl
  | succ n =>
    unfold Store.serveHost
    rcases hd with hd | hd
    · exact if_pos hd
    · dsimp only
      rw [hd]
      split <;> rfl

theorem serveHost_goesOn (n : Nat) {h : HostRead} (hl : h.got.length < h.count)
    (hs : st.staged (bodyCell e.header (h.offset + h.got.length)) = true) : st.serveHost m e (n + 1) h =
      st.serveHost m e n { h with got := h.got ++ st.cellChars m e (h.offset + h.got.length) (h.offset + h.count) } :=
  (if_neg (Nat.not_le.mpr hl)).trans (if_pos hs)

theorem serveHost_keeps (n : Nat) (h : HostRead) :
    st.serveHost m e n h = { h with got := (st.serveHost m e n h).got } := by
  induction n generalizing h with
  | zero => rfl
  | succ n ih =>
    by_cases hd : h.count ≤ h.got.length ∨ st.staged (bodyCell e.header (h.offset + h.got.length)) = false
    · rw [serveHost_done (n + 1) hd]
    · obtain ⟨hl, hs⟩ := not_or.mp hd
      rw [serveHost_goesOn n (Nat.not_le.mp hl) ((Bool.not_eq_false _).mp hs)]
      exact (ih _).trans rfl

/-- With fuel for every cell that the characters left lie in, the read stops at a cell that is not staged, if short (R166). -/
theorem serveHost_stops (n : Nat) (h : HostRead) 
    (hf : h.count ≤ h.got.length ∨ (h.offset + h.count - 1) / 8 < (h.offset + h.got.length) / 8 + n) :
    (st.serveHost m e n h).got.length < (st.serveHost m e n h).count →
      st.staged (bodyCell e.header ((st.serveHost m e n h).offset + (st.serveHost m e n h).got.length)) = false := by
  induction n generalizing h with
  | zero =>
    intro hl
    have hl : h.got.length < h.count := hl
    omega
  | succ n ih =>
    intro hl
    by_cases hd : h.count ≤ h.got.length ∨ st.staged (bodyCell e.header (h.offset + h.got.length)) = false
    · rw [serveHost_done (n + 1) hd] at hl ⊢
      exact hd.resolve_left (Nat.not_le.mpr hl)
    · obtain ⟨hlt, hs⟩ := not_or.mp hd
      have hgo := serveHost_goesOn (m := m) n (Nat.not_le.mp hlt) ((Bool.not_eq_false _).mp hs)
      rw [hgo] at hl ⊢
      refine ih _ ?_ hl
      simp only [List.length_append, cellChars_length]
      rcases Nat.le_total (((h.offset + h.got.length) / 8 + 1) * 8) (h.offset + h.count) with hle | hle
      · rw [Nat.min_eq_left hle]; omega
      · rw [Nat.min_eq_right hle]; omega

end ServeHost

theorem hostContinue_waits {s : State} {h : HostRead} {e : Entry} (he : s.store.entry? h.number = some e)
    (hl : (s.store.serveHost s.mem e 26 h).got.length < (s.store.serveHost s.mem e 26 h).count) :
    hostContinue h s = { s with store := { s.store with hostRead := some (s.store.serveHost s.mem e 26 h) } } := by
  simp only [hostContinue, he, hl, if_true]

theorem hostContinue_answers {s : State} {h : HostRead} {e : Entry} (he : s.store.entry? h.number = some e)
    (hl : (s.store.serveHost s.mem e 26 h).count ≤ (s.store.serveHost s.mem e 26 h).got.length) :
    let r := s.store.serveHost s.mem e 26 h
    hostContinue h s = autoReleaseTest r.number (reply 0x33#8 r.answer { s with store := { s.store with
      dir := s.store.dir.map fun x =>
        if x.number = r.number then { x with delivered := min x.length (max x.delivered (r.offset + r.count)) } else x
      hostRead := none } }) := by
  simp only [hostContinue, he, Nat.not_lt.mpr hl, if_false]
  rfl

/-! ### The directory's numbers (R170, R178) -/

theorem live?_some_iff (st : Store) (n : Nat) (e : Entry) :
    st.live? n = some e ↔ st.entry? n = some e ∧ e.state ≠ .released := by
  unfold Store.live?
  rw [Option.filter_eq_some_iff, decide_eq_true_iff]

theorem live?_none_iff (st : Store) (n : Nat) :
    st.live? n = none ↔ ∀ e, st.entry? n = some e → e.state = .released := by
  unfold Store.live?
  rw [Option.filter_eq_none_iff]
  exact forall₂_congr fun e _ => by rw [decide_eq_true_iff, Classical.not_not]

/-! ### Names (R178) -/

theorem named_iff (s : State) (n : Nat) : s.named n = true ↔
    (∃ j ∈ s.pr.jobs, j.number = n) ∨ (∃ j ∈ s.pu.chain, j.number = n) ∨ s.pr.tracked = some n ∨ s.pr.catchUp = some n
    ∨ ((s.call.play.state = .running ∨ s.call.play.state = .paused) ∧ s.call.play.number = n)
    ∨ ∃ h, s.store.hostRead = some h ∧ h.number = n := by
  simp [State.named, or_assoc, Option.map_eq_some_iff]

/-! ### The reclaim (R169, R180) -/

/-- An entry that the reclaim takes from the directory's old end. -/
def Entry.isReleased (e : Entry) : Bool := decide (e.state = .released)

/-- The entries that a reclaim takes. -/
def Store.gone (st : Store) : List Entry := st.dir.takeWhile Entry.isReleased

/-- The ring cells of some entries. -/
def cellsOf (es : List Entry) : Nat := (es.map Entry.cells).sum

/-- A write to a cell of some entries. -/
def CellWrite.into (es : List Entry) (w : CellWrite) : Bool := es.any fun e => e.holdsCell w.target

/-- `t` is `st` after its reclaim (R180). -/
structure Store.Reclaimed (st t : Store) : Prop where
  rest : t = { st with head := t.head, free := t.free, dir := t.dir, queue := t.queue }
  dir : t.dir = st.dir.dropWhile Entry.isReleased
  free : t.free = st.free + cellsOf st.gone
  head : t.head = if st.gone = [] then st.head else (st.head + cellsOf st.gone) % 524288
  idle : st.writing = false → t.queue = st.queue.filter fun w => !w.into st.gone
  writing : st.writing = true → t.queue = st.queue.take 1 ++ (st.queue.drop 1).filter fun w => !w.into st.gone

theorem Store.Reclaimed.refl {st : Store} (h : st.gone = []) : st.Reclaimed st where
  rest := rfl
  dir := by
    have happ := List.takeWhile_append_dropWhile (p := Entry.isReleased) (l := st.dir)
    rw [show st.dir.takeWhile Entry.isReleased = [] from h, List.nil_append] at happ
    exact happ.symm
  free := by rw [h]; rfl
  head := by rw [if_pos h]
  idle _ := by rw [h]; exact (List.filter_eq_self.mpr fun w _ => rfl).symm
  writing _ := by
    rw [h]
    exact (List.take_append_drop 1 st.queue).symm.trans (congrArg _ (List.filter_eq_self.mpr fun w _ => rfl).symm)

section Oldest

variable {st : Store} {e : Entry} {rest : List Entry}

theorem gone_cons (hd : st.dir = e :: rest) (he : e.state = .released) : st.gone = e :: (st.freeOldest e rest).gone := by
  unfold Store.gone
  rw [hd, List.takeWhile_cons_of_pos (by simpa [Entry.isReleased] using he)]
  rfl

theorem gone_stop (hd : st.dir = e :: rest) (he : e.state ≠ .released) : st.gone = [] := by
  unfold Store.gone
  rw [hd, List.takeWhile_cons_of_neg (by simpa [Entry.isReleased] using he)]

theorem withoutFreed_idle (h : st.writing = false) : st.withoutFreed e = st.queue.filter fun w => !e.holdsCell w.target := by
  unfold Store.withoutFreed
  cases st.queue with
  | nil => rfl
  | cons w ws =>
    rw [h]
    cases hw : e.holdsCell w.target <;> simp [hw]

theorem withoutFreed_writing (h : st.writing = true) : st.withoutFreed e =
    st.queue.take 1 ++ (st.queue.drop 1).filter fun w => !e.holdsCell w.target := by
  unfold Store.withoutFreed
  cases st.queue with
  | nil => rfl
  | cons w ws => simp [h]

/-- The oldest entry goes before the others. -/
theorem Store.Reclaimed.step {t : Store} (hd : st.dir = e :: rest) (he : e.state = .released)
    (h : (st.freeOldest e rest).Reclaimed t) : st.Reclaimed t := by
  have hgone := gone_cons hd he
  have hcells : cellsOf st.gone = e.cells + cellsOf (st.freeOldest e rest).gone := by
    rw [hgone]; exact List.sum_cons
  have hinto (w : CellWrite) :
      (!w.into st.gone) = (!e.holdsCell w.target && !w.into (st.freeOldest e rest).gone) := by
    rw [hgone, CellWrite.into, List.any_cons, Bool.not_or]
    rfl
  have hwriting : (st.freeOldest e rest).writing = st.writing := rfl
  refine ⟨h.rest, ?_, ?_, ?_, fun hw => ?_, fun hw => ?_⟩
  · rw [h.dir, hd, List.dropWhile_cons_of_pos (by simpa [Entry.isReleased] using he)]
    rfl
  · rw [h.free, hcells]
    exact Nat.add_assoc ..
  · have hhead : (st.freeOldest e rest).head = (st.head + e.cells) % 524288 := rfl
    have hne : st.gone ≠ [] := by rw [hgone]; exact List.cons_ne_nil _ _
    rw [h.head, hhead, hcells, if_neg hne]
    split
    next hnil => rw [hnil]; rfl
    next => omega
  · have hq : (st.freeOldest e rest).queue = st.queue.filter fun w => !e.holdsCell w.target := withoutFreed_idle hw
    rw [h.idle (hwriting.trans hw), hq, List.filter_filter]
    exact List.filter_congr fun w _ => by rw [hinto w, Bool.and_comm]
  · have hq : (st.freeOldest e rest).queue =
        st.queue.take 1 ++ (st.queue.drop 1).filter fun w => !e.holdsCell w.target := withoutFreed_writing hw
    rw [h.writing (hwriting.trans hw), hq]
    cases hqs : st.queue with
    | nil => rfl
    | cons w ws =>
      simp only [List.take_succ_cons, List.take_zero, List.drop_succ_cons, List.drop_zero, List.singleton_append,
        List.filter_filter]
      exact congrArg _ (List.filter_congr fun w _ => by rw [hinto w, Bool.and_comm])

end Oldest

theorem reclaim_reclaimed {n : Nat} {st : Store} (h : st.dir.length ≤ n) : st.Reclaimed (Store.reclaim n st) := by
  induction n generalizing st with
  | zero =>
    have hnil : st.dir = [] := List.eq_nil_of_length_eq_zero (by omega)
    exact .refl (by rw [Store.gone, hnil]; rfl)
  | succ n ih =>
    cases hd : st.dir with
    | nil =>
      simp only [Store.reclaim, hd]
      exact .refl (by rw [Store.gone, hd]; rfl)
    | cons e rest =>
      simp only [Store.reclaim, hd]
      have hlen : rest.length ≤ n := by rw [hd, List.length_cons] at h; omega
      by_cases he : e.state = .released
      · rw [if_pos he]
        exact .step hd he (ih hlen)
      · rw [if_neg he]
        exact .refl (gone_stop hd he)

theorem writing_iff (st : Store) : st.writing = true ↔ ∃ w x, st.access = some ⟨.write w, x⟩ := by
  unfold Store.writing
  constructor
  · intro h
    split at h
    next w x ha => exact ⟨w, x, ha⟩
    next => exact Bool.noConfusion h
  · rintro ⟨w, x, ha⟩
    rw [ha]

/-! ### Releases (R178 to R180) -/

theorem release_released (n : Nat) (st : Store) : ∀ x ∈ (st.release n).dir, x.number = n → x.state = .released := by
  intro x hx hn
  have hmem := (reclaim_frame _ _).1.subset hx
  rw [Store.modify_dir] at hmem
  obtain ⟨y, -, hy⟩ := List.mem_map.mp hmem
  by_cases hyn : y.number = n
  · rw [if_pos hyn] at hy; rw [← hy]
  · rw [if_neg hyn] at hy; exact absurd (hy ▸ hn) hyn

section Release

variable {body : List Byte} {s : State}

theorem actRelease_zero (hz : field2 body 0 = 0) : actRelease body s = (s, badValue 0) := if_pos hz

theorem actRelease_busy (hz : field2 body 0 ≠ 0) (hm : s.store.memInit = true) :
    actRelease body s = (s, plainAnswer .busy) := (if_neg hz).trans (if_pos hm)

theorem actRelease_dead (hz : field2 body 0 ≠ 0) (hm : s.store.memInit = false) (he : s.store.live? (field2 body 0) = none) :
    actRelease body s = (s, plainAnswer .noSuchMessage) := by
  simp only [actRelease, hz, hm, he, Bool.false_eq_true, if_false]

theorem actRelease_live {e : Entry} (hz : field2 body 0 ≠ 0) (hm : s.store.memInit = false)
    (he : s.store.live? (field2 body 0) = some e) : actRelease body s =
      if e.state = .open then (s, plainAnswer .wrongState)
      else if s.named (field2 body 0) then (s, plainAnswer .inUse)
      else ({ s with store := s.store.release (field2 body 0) }, ok []) := by
  simp only [actRelease, hz, hm, he, Bool.false_eq_true, if_false]

end Release

theorem releasable_iff (s : State) (e : Entry) : s.releasable e = true ↔
    s.call.autoRelease = true ∧ e.dir = .in ∧ e.state = .closed ∧ (e.trackedMark = true → e.print = e.length)
      ∧ (e.punchNamed = true → e.punch = e.length) ∧ s.named e.number = false := by
  have hmark (b : Bool) (p : Prop) [Decidable p] : (decide p || !b) = true ↔ (b = true → p) := by cases b <;> simp
  simp only [State.releasable, Bool.and_eq_true, decide_eq_true_eq, hmark, Bool.not_eq_true', and_assoc]

theorem autoReleaseTest_of_entry {s : State} {n : Nat} {e : Entry} (he : s.store.entry? n = some e) : autoReleaseTest n s =
    if s.releasable e then { s with store := s.store.release n } else s := by
  simp only [autoReleaseTest, he]

/-- Settles O46: READ-MESSAGE by its tests and its cells, releases by the reclaim. -/
theorem readAndRelease : Obligations.ReadAndRelease := by
  unfold Obligations.ReadAndRelease
  refine ⟨?read, ?goesOn, ?serve, ?directory, ?release, ?reclaim, ?cells, ?auto, named_iff⟩
  case read =>
    intro s s0 body h hlen s1 n count
    refine ⟨fun hbad => ?_, fun hz h1 h2 => ?_⟩
    · obtain ⟨p, hp⟩ := readTest_bad (s := s1) hbad
      exact ⟨p, exec_readMessage_answer h hlen hp⟩
    have htest := readTest_good (s := s1) hz h1 h2
    refine ⟨fun hm => exec_readMessage_answer h hlen (htest.trans (if_pos hm)), fun hm he => ?_, fun e hm he => ?_⟩
    · exact exec_readMessage_answer h hlen (htest.trans ((if_neg (ne_true_of_eq_false hm)).trans (by rw [he])))
    · exact exec_readMessage_reads h hlen (htest.trans ((if_neg (ne_true_of_eq_false hm)).trans (by rw [he])))
  case goesOn =>
    intro s h e he h1
    have hkeep : h1 = { h with got := h1.got } := serveHost_keeps 26 h
    have hcount : h1.count = h.count := by rw [hkeep]
    refine ⟨fun hl => hostContinue_waits he (by exact hcount ▸ hl), fun hl => ?_⟩
    have hanswers := hostContinue_answers he (show h1.count ≤ h1.got.length by exact hcount ▸ hl)
    refine hanswers.trans ?_
    rw [show s.store.serveHost s.mem e 26 h = h1 from rfl, hkeep]
    rfl
  case serve =>
    intro m e st h pos
    refine ⟨rfl, fun n => serveHost_done n, fun n => serveHost_goesOn n, fun hc => ?_⟩
    exact serveHost_stops 26 h (by omega)
  case directory =>
    exact fun st n => ⟨entry?_none_iff st n, fun e => entry?_some, live?_none_iff st n, live?_some_iff st n⟩
  case release =>
    intro s s0 body h hlen s1 n
    have hfit : decide (body.length = 2) = true := decide_eq_true hlen
    refine ⟨fun hz => next_accept h hfit (actRelease_zero hz), fun hz hm => next_accept h hfit (actRelease_busy hz hm),
      fun hz hm he => next_accept h hfit (actRelease_dead hz hm he), fun e hz hm he => ?_⟩
    have hact := actRelease_live hz hm he
    refine ⟨fun ho => next_accept h hfit (hact.trans (if_pos ho)), fun ho hn => ?_, fun ho hn => ?_⟩
    · exact next_accept h hfit (hact.trans ((if_neg ho).trans (if_pos hn)))
    · obtain ⟨-, hqueue, hfree, htail, -⟩ := reclaim_frame
        (s1.store.modify n fun e => { e with state := .released, headerDue := true }).dir.length
        (s1.store.modify n fun e => { e with state := .released, headerDue := true })
      refine ⟨s1.store.release n, next_accept h hfit (hact.trans ((if_neg ho).trans (if_neg (ne_true_of_eq_false hn)))),
        release_released n s1.store, hqueue.length_le, hfree, htail, reclaim_head (Nat.le_refl _), rfl⟩
  case reclaim =>
    intro n st marked gone cells freed t
    have hrec : (st.modify n fun e => { e with state := .released, headerDue := true }).Reclaimed t :=
      reclaim_reclaimed (Nat.le_refl _)
    refine ⟨hrec.rest, hrec.dir, hrec.free, hrec.head, fun hw => hrec.idle ?_, fun w x hw => hrec.writing ?_⟩
    · rw [← Bool.not_eq_true, writing_iff]
      rintro ⟨w, x, ha⟩
      exact hw w x ha
    · exact (writing_iff _).mpr ⟨w, x, hw⟩
  case cells =>
    intro e c
    exact decide_eq_true_iff
  case auto =>
    intro n s
    refine ⟨fun h => by simp only [autoReleaseTest, h], fun e he => ?_, rfl, fun ns => rfl⟩
    have htest := autoReleaseTest_of_entry he
    exact ⟨fun hd => htest.trans (if_pos ((releasable_iff s e).mpr hd)),
      fun hd => htest.trans (if_neg fun hr => hd ((releasable_iff s e).mp hr))⟩

end Sys2Proof.Machine
end


section
/-! SUPPORT. LIST-DIRECTORY and the playbacks, and statements O47 and O48. -/

namespace Sys2Proof.Machine

/-! ### LIST-DIRECTORY (R188) -/

section ListDirectory

variable {body : List Byte} {s : State}

theorem listDirectory_late (h : 63 < field1 body 0) : listDirectory body s = (s, badValue 0) := if_pos h

theorem listDirectory_lists (h : field1 body 0 ≤ 63) : listDirectory body s =
    let k := min 9 (s.store.dir.length - field1 body 0)
    (s, ok ([BitVec.ofNat 8 s.store.dir.length, BitVec.ofNat 8 (field1 body 0), BitVec.ofNat 8 k]
      ++ ((s.store.dir.drop (field1 body 0)).take k).flatMap Entry.listing)) := by
  have htake : (s.store.dir.drop (field1 body 0)).take 9 =
      (s.store.dir.drop (field1 body 0)).take (min 9 (s.store.dir.length - field1 body 0)) := by
    rw [List.take_eq_take_iff, List.length_drop]
    omega
  have hlen : ((s.store.dir.drop (field1 body 0)).take 9).length = min 9 (s.store.dir.length - field1 body 0) := by
    rw [List.length_take, List.length_drop]
  refine (if_neg (Nat.not_lt.mpr h)).trans ?_
  dsimp only
  rw [hlen, htake]
  rfl

end ListDirectory

/-- Settles O47: the answer by the tests in turn, a listing by its fields. -/
theorem listDirectoryAnswer : Obligations.ListDirectoryAnswer := by
  unfold Obligations.ListDirectoryAnswer
  refine ⟨fun s s0 body h hlen => ?_, fun e => ⟨listing_length e, rfl, ?_⟩⟩
  · have hfit : decide (body.length = 1) = true := decide_eq_true hlen
    refine ⟨fun hm => next_accept h hfit (outsideInit_busy _ hm), fun hm hi => ⟨0, ?_⟩, fun hm hi => ?_⟩
    · exact next_accept h hfit ((outsideInit_out _ hm).trans (listDirectory_late hi))
    · exact next_accept h hfit ((outsideInit_out _ hm).trans (listDirectory_lists hi))
  · obtain ⟨number, dir, state, header, length, flags, errors, rate⟩ := e
    cases dir <;> cases state <;> cases rate <;> rfl

/-! ### The playback's reading (R50, R166, R176) -/

theorem lengthOf_none {st : Store} {n : Nat} (h : st.entry? n = none) : st.lengthOf n = 0 := by
  rw [Store.lengthOf, h]; rfl

theorem lengthOf_some {st : Store} {n : Nat} {e : Entry} (h : st.entry? n = some e) : st.lengthOf n = e.length := by
  rw [Store.lengthOf, h]; rfl

theorem printOf_none {st : Store} {n : Nat} (h : st.entry? n = none) : st.printOf n = 0 := by
  rw [Store.printOf, h]; rfl

theorem printOf_some {st : Store} {n : Nat} {e : Entry} (h : st.entry? n = some e) : st.printOf n = e.print := by
  rw [Store.printOf, h]; rfl

section PlaybackAsk

variable {s : State} {e : Entry}

/-- A RUNNING playback that reads. -/
def State.playbackWants (s : State) : Prop :=
  s.call.play.state = .running ∧ s.call.play.buf = [] ∧ s.store.playRead = none
    ∧ s.call.play.readPos < s.store.lengthOf s.call.play.number

theorem playbackAsk_stands (h : ¬s.playbackWants) : playbackAsk s = s := if_neg h

theorem playbackAsk_reads (h : s.playbackWants) : playbackAsk s =
    { s with
      store := (s.store.ask s.mem .playback s.call.play.number s.call.play.readPos).1
      call := { s.call with play := { s.call.play with
        buf := (s.store.ask s.mem .playback s.call.play.number s.call.play.readPos).2 } } } := if_pos h

theorem playbackAsk_staged (h : s.playbackWants) (he : s.store.entry? s.call.play.number = some e)
    (hs : s.store.staged (bodyCell e.header s.call.play.readPos) = true) : playbackAsk s = { s with call := { s.call with
      play := { s.call.play with buf := s.store.cellChars s.mem e s.call.play.readPos e.length } } } := by
  rw [playbackAsk_reads h]
  simp only [Store.ask, he, hs, if_true]

theorem playbackAsk_outstanding (h : s.playbackWants) (he : s.store.entry? s.call.play.number = some e)
    (hs : s.store.staged (bodyCell e.header s.call.play.readPos) = false) :
    playbackAsk s = { s with store := { s.store with playRead := some ⟨s.call.play.number, s.call.play.readPos⟩ } } := by
  rw [playbackAsk_reads h]
  simp only [Store.ask, he, hs, Bool.false_eq_true, if_false]
  show ({ s with
    store := { s.store with playRead := some ⟨s.call.play.number, s.call.play.readPos⟩ }
    call := { s.call with play := { s.call.play with buf := [] } } } : State) = _
  rw [← h.2.1]

end PlaybackAsk

/-! ### The requests of the playback (R155, R156) -/

section Requests

variable {body : List Byte} {s : State}

theorem actPlayback_zero (hz : field2 body 0 = 0) : actPlayback body s = (s, badValue 0) := if_pos hz

theorem actPlayback_unconnected (hz : field2 body 0 ≠ 0) (hc : s.call.state ≠ .connected) :
    actPlayback body s = (s, plainAnswer .wrongState) := (if_neg hz).trans (if_pos hc)

theorem actPlayback_busy (hz : field2 body 0 ≠ 0) (hc : s.call.state = .connected)
    (hp : s.call.play.state = .running ∨ s.call.play.state = .paused) : actPlayback body s = (s, plainAnswer .busy) :=
  (if_neg hz).trans ((if_neg (Classical.not_not.mpr hc)).trans (if_pos hp))

theorem actPlayback_free (hz : field2 body 0 ≠ 0) (hc : s.call.state = .connected)
    (hp : ¬(s.call.play.state = .running ∨ s.call.play.state = .paused)) :
    (s.store.live? (field2 body 0) = none → actPlayback body s = (s, plainAnswer .noSuchMessage))
    ∧ ∀ e, s.store.live? (field2 body 0) = some e → actPlayback body s =
      if e.dir = .in ∨ e.state = .open then (s, plainAnswer .wrongState)
      else (startPlayback (field2 body 0) (min e.length (field3 body 2)) s, ok (put3 (min e.length (field3 body 2)))) := by
  exact ⟨fun he => (if_neg hz).trans ((if_neg (Classical.not_not.mpr hc)).trans ((if_neg hp).trans (by rw [he]))),
    fun e he => (if_neg hz).trans ((if_neg (Classical.not_not.mpr hc)).trans ((if_neg hp).trans (by rw [he])))⟩

theorem actPlaybackResume_goesOn (hp : s.call.play.state = .paused) (hc : s.call.state = .connected) :
    actPlaybackResume s = (playbackAsk { s with call := { s.call with play :=
      { s.call.play with state := .running, readPos := s.sentCursor, buf := [], skipped := [] } } }, ok []) :=
  if_pos ⟨hp, hc⟩

theorem actPlaybackResume_refused (h : s.call.play.state ≠ .paused ∨ s.call.state ≠ .connected) :
    actPlaybackResume s = (s, plainAnswer .wrongState) := if_neg fun hp => h.elim (· hp.1) (· hp.2)

/-- The playback's state after PLAYBACK-CANCEL, before the released message is tested (R156). -/
def playbackEnded (s : State) : State :=
  { s with
    call := { s.call with play := { s.call.play with state := .cancelled, buf := [], skipped := [] } }
    store := s.store.abandon .playback }

theorem actPlaybackCancel_ends (h : s.call.play.state = .running ∨ s.call.play.state = .paused) :
    actPlaybackCancel s = (autoReleaseTest s.call.play.number (playbackEnded s), ok (put3 s.sentCursor)) := if_pos h

theorem actPlaybackCancel_refused (h1 : s.call.play.state ≠ .running) (h2 : s.call.play.state ≠ .paused) :
    actPlaybackCancel s = (s, plainAnswer .wrongState) := if_neg fun h => h.elim h1 h2

end Requests

theorem autoReleaseTest_playRead (n : Nat) (s : State) : (autoReleaseTest n s).store.playRead = s.store.playRead := by
  unfold autoReleaseTest
  split
  · rfl
  · split
    · simp only [Store.release, reclaim_frame, Store.modify_playRead]
    · rfl

/-- Settles O48: the requests by their tests, the reading by what is staged. -/
theorem playbacks : Obligations.Playbacks := by
  unfold Obligations.Playbacks
  refine ⟨?start, ?resume, ?ask, ?cursors, ?cancel⟩
  case start =>
    intro s s0 body h hlen s1 n
    have hfit : decide (body.length = 5) = true := decide_eq_true hlen
    refine ⟨fun hz => next_accept h hfit (actPlayback_zero hz), fun hz hc => next_accept h hfit (actPlayback_unconnected hz hc),
      fun hz hc hp => next_accept h hfit (actPlayback_busy hz hc hp), fun hz hc h1 h2 => ?_⟩
    obtain ⟨hnone, hsome⟩ := actPlayback_free hz hc (not_or.mpr ⟨h1, h2⟩)
    refine ⟨fun he => next_accept h hfit (hnone he), fun e he => ?_⟩
    refine ⟨fun hbad => next_accept h hfit ((hsome e he).trans (if_pos hbad)), fun hout hopen => ?_⟩
    have hact := (hsome e he).trans (if_neg (not_or.mpr ⟨by rw [hout]; exact Dir.noConfusion, hopen⟩))
    have hlength : s1.store.lengthOf n = e.length := lengthOf_some ((live?_some_iff _ _ _).mp he).1
    refine (next_accept h hfit hact).trans ?_
    rw [startPlayback, hlength]
  case resume =>
    intro s s0 h
    exact ⟨fun hp hc => next_accept h rfl (actPlaybackResume_goesOn hp hc),
      fun hr => next_accept h rfl (actPlaybackResume_refused hr)⟩
  case ask =>
    exact fun s => ⟨playbackAsk_stands, fun e hw he => ⟨playbackAsk_staged hw he, playbackAsk_outstanding hw he⟩⟩
  case cursors =>
    refine fun s n => ⟨fun he => ⟨lengthOf_none he, printOf_none he⟩, fun e he => ⟨lengthOf_some he, printOf_some he, ?_⟩⟩
    rintro rfl
    rw [State.sentCursor, he]
    rfl
  case cancel =>
    intro s s0 h s1
    refine ⟨fun hp => ⟨_, next_accept h rfl (actPlaybackCancel_ends hp), ?_⟩,
      fun h1 h2 => next_accept h rfl (actPlaybackCancel_refused h1 h2)⟩
    obtain ⟨hconv, -, -, htx, -, -, -, hpr, hpu, hcall, -, hmem, -⟩ :=
      autoReleaseTest_frame s1.call.play.number (playbackEnded s1)
    exact ⟨hcall, autoReleaseTest_playRead _ _, htx, hconv, hpr, hpu, hmem⟩

end Sys2Proof.Machine
end


section
/-! SUPPORT. The arbiter of the DRAM and the claims on the write queue, and statement O49. -/

namespace Sys2Proof.Machine

/-! ### What waits (R166) -/

section Waiting

variable {st : Store}

theorem refreshWork?_due {n : Nat} (h : n ≤ st.debt) : st.refreshWork? n = some .refresh := if_pos h

theorem refreshWork?_none {n : Nat} (h : st.debt < n) : st.refreshWork? n = none := if_neg (Nat.not_le.mpr h)

theorem overdue_due (h : 8 ≤ st.debt) : st.refreshWork? Config.debtLimit = some .refresh := refreshWork?_due h

theorem overdue_none (h : st.debt < 8) : st.refreshWork? Config.debtLimit = none := refreshWork?_none h

theorem writeWork?_due {n : Nat} {w : CellWrite} {ws : List CellWrite} (hq : st.queue = w :: ws) (h : n ≤ st.queue.length) :
    st.writeWork? n = some (.write w) := by
  rw [Store.writeWork?, if_pos h, hq]
  rfl

theorem writeWork?_none {n : Nat} (h : st.queue.length < n) : st.writeWork? n = none := if_neg (Nat.not_le.mpr h)

theorem readWork?_none (r : Reader) : st.readWork? r none = none := rfl

theorem readWork?_some {q : Read} {e : Entry} (r : Reader) (he : st.entry? q.number = some e) :
    st.readWork? r (some q) = some (.read r (bodyCell e.header q.pos) true) := by
  simp only [Store.readWork?, Store.readCell?, Option.bind_some, he, Option.map_some]

theorem hostWork?_none (h : st.hostRead = none) : st.hostWork? = none := by
  rw [Store.hostWork?, h]
  rfl

theorem hostWork?_some {h : HostRead} {e : Entry} (hh : st.hostRead = some h) (he : st.entry? h.number = some e) :
    st.hostWork? = some (.read .host (bodyCell e.header (h.offset + h.got.length)) true) := by
  simp only [Store.hostWork?, Store.readCell?, hh, Option.bind_some, he, Option.map_some]

theorem mayGrant_iff (st : Store) :
    st.mayGrant = true ↔ st.access = none ∧ st.memInit = false ∧ st.selfRefresh = false := by
  simp only [Store.mayGrant, Bool.and_eq_true, Bool.not_eq_true', Option.isNone_iff_eq_none, and_assoc]

theorem exec_dramGrant_grants {s : State} {w : Work} (hg : s.store.mayGrant = true) (hw : s.store.firstWaiting? = some w) :
    exec .dramGrant s = if w.inDevice then .next { s with store := { s.store with access := some ⟨w, s.store.cycles w⟩ } }
      else .fault .noSuchCell :=
  (if_pos hg).trans (by rw [hw])

theorem exec_dramGrant_stands {s : State} (h : s.store.access.isSome = true ∨ s.store.memInit = true
    ∨ s.store.selfRefresh = true ∨ s.store.firstWaiting? = none) : exec .dramGrant s = .next s := by
  show (if s.store.mayGrant then _ else _) = _
  by_cases hg : s.store.mayGrant = true
  · obtain ⟨ha, hm, hr⟩ := (mayGrant_iff _).mp hg
    have hnone : s.store.firstWaiting? = none := by simpa [ha, hm, hr] using h
    rw [if_pos hg, hnone]
  · exact if_neg hg

end Waiting

/-! ### Banks (R161, R162) -/

section Banks

variable {st : Store}

theorem cellRow_eq (c : Nat) : cellRow c = c / 128 := Nat.div_div_eq_div_mul c 32 4

theorem openCycles_closed {c : Nat} (h : st.banks[cellBank c] = .closed) : st.openCycles c = 1 := by
  simp only [Store.openCycles, h]

theorem openCycles_open {c row : Nat} (h : st.banks[cellBank c] = .open row) :
    st.openCycles c = if row = c / 128 then 0 else 2 := by
  simp only [Store.openCycles, h, cellRow_eq]

theorem Bank.isOpen_iff (b : Bank) : b.isOpen = true ↔ ∃ row, b = .open row := by
  cases b <;> simp [Bank.isOpen]

theorem anyBankOpen_iff (st : Store) :
    st.banks.any Bank.isOpen = true ↔ ∃ (i : Fin 4) (row : Nat), st.banks[i] = .open row := by
  rw [Vector.any_eq_true]
  constructor
  · rintro ⟨i, hi, h⟩
    exact ⟨⟨i, hi⟩, (Bank.isOpen_iff _).mp h⟩
  · rintro ⟨i, h⟩
    exact ⟨i.val, i.isLt, (Bank.isOpen_iff _).mpr h⟩

theorem cycles_refresh_open (h : st.banks.any Bank.isOpen = true) : st.cycles .refresh = 4 := by
  rw [Store.cycles, h]
  rfl

theorem cycles_refresh_closed (h : ¬st.banks.any Bank.isOpen = true) : st.cycles .refresh = 3 := by
  rw [Store.cycles, (Bool.not_eq_true _).mp h]
  rfl

end Banks

/-! ### Claims on the write queue (R168, R169, R174) -/

section Claims

variable {st : Store}

theorem claim_in (hq : st.queue.length < 4) (hi : st.inCell.state = .waiting) :
    st.claim = { st.push st.inCell.write with inCell := Asm.empty } := (if_pos hq).trans (if_pos hi)

theorem claim_out (hq : st.queue.length < 4) (hi : st.inCell.state ≠ .waiting) (ho : st.outCell.state = .waiting) :
    st.claim = { st.push st.outCell.write with outCell := Asm.empty } :=
  (if_pos hq).trans ((if_neg hi).trans (if_pos ho))

theorem claim_header {e : Entry} (hq : st.queue.length < 4) (hi : st.inCell.state ≠ .waiting)
    (ho : st.outCell.state ≠ .waiting) (he : st.dueHeader? = some e) : st.claim = st.joinHeader e :=
  (if_pos hq).trans ((if_neg hi).trans ((if_neg ho).trans (by rw [he])))

theorem writeThroughFree_iff (st : Store) : st.writeThroughFree = true ↔ st.queue = [] ∧ (∀ e ∈ st.dir, e.headerDue = false)
    ∧ st.inCell.state ≠ .waiting ∧ st.outCell.state ≠ .waiting := by
  simp only [Store.writeThroughFree, Store.dueHeader?, Bool.and_eq_true, List.isEmpty_iff, Option.isNone_iff_eq_none,
    List.find?_eq_none, Bool.not_eq_true, decide_eq_true_eq, and_assoc]

theorem writable_iff (a : Asm) : a.writable = true ↔ a.state = .filling ∧ a.changed = true := by
  simp only [Asm.writable, Bool.and_eq_true, decide_eq_true_eq]

theorem copyThrough_in (hf : st.writeThroughFree = true) (hi : st.inCell.writable = true) :
    st.copyThrough = { st.push st.inCell.write with inCell := { st.inCell with changed := false } } :=
  (if_pos hf).trans (if_pos hi)

theorem copyThrough_out (hf : st.writeThroughFree = true) (hi : ¬st.inCell.writable = true)
    (ho : st.outCell.writable = true) :
    st.copyThrough = { st.push st.outCell.write with outCell := { st.outCell with changed := false } } :=
  (if_pos hf).trans ((if_neg hi).trans (if_pos ho))

theorem push_empty (w : CellWrite) (h : st.queue = []) : st.push w = { st with queue := [w] } := by
  rw [Store.push, h]
  rfl

end Claims

/-- Settles O49: the timer and the arbiter by what waits, the queue by its claims. -/
theorem dramEvents : Obligations.DramEvents := by
  unfold Obligations.DramEvents
  refine ⟨?timer, ?init, ?grant, fun s => exec_dramGrant_stands, ?order, ?cycles, ?claims⟩
  case timer => exact fun s hm hc => if_neg (not_or.mpr ⟨ne_true_of_eq_false hm, hc⟩)
  case init => exact fun s hm => ⟨if_pos (.inl hm), if_pos hm⟩
  case grant =>
    intro s w ha hm hr hw
    have hexec := exec_dramGrant_grants ((mayGrant_iff _).mpr ⟨ha, hm, hr⟩) hw
    exact ⟨fun hd => hexec.trans (if_pos hd), fun hd => hexec.trans (if_neg (ne_true_of_eq_false hd))⟩
  case order =>
    intro st
    refine ⟨fun h => ?_, fun w ws hd hq h3 => ?_, fun q e hd h3 hp he => ?_, fun q e hd h3 hp hr he => ?_,
      fun q e hd h3 hp hr hu he => ?_, fun h e hd h3 hp hr hu hh he => ?_, fun hd hp hr hu hh => ?_⟩
    · simp only [Store.firstWaiting?, overdue_due h, List.findSome?_cons, id]
    · simp only [Store.firstWaiting?, overdue_none hd, writeWork?_due hq h3, List.findSome?_cons, id]
    · simp only [Store.firstWaiting?, overdue_none hd, writeWork?_none h3, hp, readWork?_some _ he, List.findSome?_cons, id]
    · simp only [Store.firstWaiting?, overdue_none hd, writeWork?_none h3, hp, readWork?_none, hr, readWork?_some _ he,
        List.findSome?_cons, id]
    · simp only [Store.firstWaiting?, overdue_none hd, writeWork?_none h3, hp, readWork?_none, hr, hu, readWork?_some _ he,
        List.findSome?_cons, id]
    · simp only [Store.firstWaiting?, overdue_none hd, writeWork?_none h3, hp, readWork?_none, hr, hu,
        hostWork?_some hh he, List.findSome?_cons, id]
    · have hrest : st.firstWaiting? = [st.writeWork? 3, st.writeWork? 1, st.refreshWork? 1].findSome? id := by
        simp only [Store.firstWaiting?, overdue_none hd, hp, readWork?_none, hr, hu, hostWork?_none hh,
          List.findSome?_cons, id]
      refine ⟨fun w ws hq => ?_, fun hq h1 => ?_, fun hq h0 => ?_⟩
      · have h1 : st.writeWork? 1 = some (.write w) := writeWork?_due hq (by rw [hq]; exact Nat.succ_pos _)
        rw [hrest]
        by_cases h3 : 3 ≤ st.queue.length
        · simp only [writeWork?_due hq h3, List.findSome?_cons, id]
        · simp only [writeWork?_none (Nat.not_le.mp h3), h1, List.findSome?_cons, id]
      · have hlen : st.queue.length = 0 := by rw [hq]; rfl
        simp only [hrest, writeWork?_none (show st.queue.length < 3 by omega),
          writeWork?_none (show st.queue.length < 1 by omega), refreshWork?_due h1, List.findSome?_cons, id]
      · have hlen : st.queue.length = 0 := by rw [hq]; rfl
        simp only [hrest, writeWork?_none (show st.queue.length < 3 by omega),
          writeWork?_none (show st.queue.length < 1 by omega), refreshWork?_none (show st.debt < 1 by omega),
          List.findSome?_cons, List.findSome?_nil, id]
  case cycles =>
    intro st c
    refine ⟨openCycles_closed, fun h => (openCycles_open h).trans (if_pos rfl),
      fun row hrow h => (openCycles_open h).trans (if_neg hrow), rfl, fun r live => rfl, fun bs => rfl, fun h => ?_, fun h => ?_⟩
    · exact cycles_refresh_open ((anyBankOpen_iff st).mpr h)
    · refine cycles_refresh_closed fun hopen => ?_
      obtain ⟨i, row, hrow⟩ := (anyBankOpen_iff st).mp hopen
      exact h i row hrow
  case claims =>
    intro s hq
    have hclaim {st : Store} (h : s.store.claim = st) : exec .writeQueueClaim s = .next { s with store := st } := by
      rw [← h]; rfl
    have hcopy {st : Store} (h : s.store.copyThrough = st) : exec .writeThrough s = .next { s with store := st } := by
      rw [← h]; rfl
    refine ⟨fun hi => hclaim (claim_in hq hi), fun hi ho => hclaim (claim_out hq hi ho), fun e hi ho he => ?_,
      fun hn hf hc ho hd => ?_, fun hn hni hi hf hc hd => ?_, fun hbusy => ?_⟩
    · exact hclaim (claim_header hq hi ho he)
    · have hfree := (writeThroughFree_iff s.store).mpr ⟨hn, hd, by rw [hf]; exact AsmState.noConfusion, ho⟩
      refine hcopy ((copyThrough_in hfree ((writable_iff _).mpr ⟨hf, hc⟩)).trans ?_)
      rw [push_empty _ hn]
      rfl
    · have hfree := (writeThroughFree_iff s.store).mpr ⟨hn, hd, hi, by rw [hf]; exact AsmState.noConfusion⟩
      have hnot : ¬s.store.inCell.writable = true := by
        rw [writable_iff, Classical.not_and_iff_not_or_not, Bool.not_eq_true]
        exact hni
      refine hcopy ((copyThrough_out hfree hnot ((writable_iff _).mpr ⟨hf, hc⟩)).trans ?_)
      rw [push_empty _ hn]
      rfl
    · refine hcopy (if_neg fun hfree => ?_)
      obtain ⟨hn, hd, hi, ho⟩ := (writeThroughFree_iff s.store).mp hfree
      rcases hbusy with h | ⟨e, he, hdue⟩ | h | h
      · exact h hn
      · exact Bool.noConfusion ((hd e he).symm.trans hdue)
      · exact hi h
      · exact ho h

end Sys2Proof.Machine
end


section
/-! SUPPORT. The end of a DRAM access and the text that a reader gets, and statement O50. -/

namespace Sys2Proof.Machine

/-! ### The end of an access (R162) -/

section Complete

variable {s : State} {n c : Nat}

theorem exec_dramAccessComplete_of {a : Access} (ha : s.store.access = some a) (hd : a.work.inDevice = true) :
    exec .dramAccessComplete s = .next (completeAccess a.work s) :=
  (show exec .dramAccessComplete s = execDramAccessComplete s from rfl).trans
    (by simp only [execDramAccessComplete, ha, hd, if_true])

theorem exec_dramAccessComplete_fault {a : Access} (ha : s.store.access = some a) (hd : a.work.inDevice = false) :
    exec .dramAccessComplete s = .fault .noSuchCell :=
  (show exec .dramAccessComplete s = execDramAccessComplete s from rfl).trans
    (by simp only [execDramAccessComplete, ha, hd, Bool.false_eq_true, if_false])

theorem leaveOpen_eq (c : Nat) (st : Store) :
    st.leaveOpen c = { st with banks := st.banks.set (cellBank c) (.open (c / 128)) } := by
  rw [Store.leaveOpen, cellRow_eq]

theorem exec_writeComplete {w : CellWrite} (ha : s.store.access = some ⟨.write w, n⟩) (hw : w.target < 524288) :
    exec .dramAccessComplete s = .next { s with
      store := { s.store with
        access := none, queue := s.store.queue.tail, banks := s.store.banks.set (cellBank w.target) (.open (w.target / 128)) }
      mem := Memory.writeBytes s.mem (w.target * 8) w.bytes } := by
  rw [exec_dramAccessComplete_of ha (decide_eq_true hw), completeAccess, leaveOpen_eq]

theorem exec_readComplete {r : Reader} {live : Bool} (ha : s.store.access = some ⟨.read r c live, n⟩) (hc : c < 524288) :
    let t : State := { s with store := { s.store with
      access := none, banks := s.store.banks.set (cellBank c) (.open (c / 128)) } }
    exec .dramAccessComplete s = .next (if live then serveReader r t else t) := by
  rw [exec_dramAccessComplete_of ha (decide_eq_true hc), completeAccess, leaveOpen_eq]

theorem hostContinue_mem (h : HostRead) (s : State) : (hostContinue h s).mem = s.mem := by
  unfold hostContinue
  dsimp only
  split
  · rfl
  · split
    · rfl
    · simp

theorem serveReader_mem (r : Reader) (s : State) : (serveReader r s).mem = s.mem := by
  unfold serveReader
  cases r with
  | playback => dsimp only; split <;> rfl
  | printer => dsimp only; split <;> rfl
  | punch =>
    dsimp only
    split
    · rfl
    · simp
  | host =>
    dsimp only
    split
    · rfl
    · split
      · rfl
      · exact hostContinue_mem _ _

theorem disown_read (r : Reader) (c n : Nat) (live : Bool) : Access.disown r ⟨.read r c live, n⟩ = ⟨.read r c false, n⟩ :=
  if_pos rfl

theorem disown_other {r : Reader} {w : Work} (n : Nat) (h : ∀ c live, w ≠ .read r c live) :
    Access.disown r ⟨w, n⟩ = ⟨w, n⟩ := by
  cases w with
  | refresh => rfl
  | write x => rfl
  | read r1 c live => exact if_neg fun hr : r1 = r => h c live (by rw [hr])

end Complete

/-! ### The readers (R176) -/

section Readers

variable {s : State}

theorem serveReader_playback {q : Read} (h : s.store.playRead = some q) : serveReader .playback s = { s with
    store := { s.store with playRead := none }
    call := { s.call with play := { s.call.play with buf := s.servedChars q.number q.pos } } } := by
  simp only [serveReader, h, Store.setRead]

theorem serveReader_printer {q : Read} (h : s.store.printRead = some q) : serveReader .printer s = { s with
    store := { s.store with printRead := none }
    pr := { s.pr with buf := s.servedChars q.number q.pos, bufPos := q.pos } } := by
  simp only [serveReader, h, Store.setRead]

theorem serveReader_punch {q : Read} (h : s.store.punchRead = some q) : serveReader .punch s = punchSettle { s with
    store := { s.store with punchRead := none }, pu := s.pu.served (s.servedChars q.number q.pos) } := by
  simp only [serveReader, h, Store.setRead]

theorem Punch.served_nil {p : Punch} (cs : List StationCode) (h : p.chain = []) : p.served cs = p := by
  simp only [Punch.served, h]

theorem Punch.served_cons {p : Punch} {j : PunchJob} {rest : List PunchJob} (cs : List StationCode) (h : p.chain = j :: rest) :
    p.served cs = { p with
      queue := p.queue ++ taggedEntries j.number j.readPos cs, chain := { j with readPos := j.readPos + cs.length } :: rest } := by
  simp only [Punch.served, h]

theorem serveReader_host {h : HostRead} {e : Entry} (hh : s.store.hostRead = some h) (he : s.store.entry? h.number = some e) :
    serveReader .host s = hostContinue
      { h with got := h.got ++ s.store.cellChars s.mem e (h.offset + h.got.length) (h.offset + h.count) } s := by
  simp only [serveReader, hh, he]

theorem serveReader_idle (s : State) : (s.store.playRead = none → serveReader .playback s = s)
    ∧ (s.store.printRead = none → serveReader .printer s = s) ∧ (s.store.punchRead = none → serveReader .punch s = s)
    ∧ (s.store.hostRead = none → serveReader .host s = s) := by
  refine ⟨fun h => ?_, fun h => ?_, fun h => ?_, fun h => ?_⟩
  all_goals simp only [serveReader, h]

end Readers

/-! ### The text of a cell (R168, R176) -/

section Text

variable {m : List Host.Cell} {st : Store} {e : Entry} {pos : Nat}

theorem char?_held {a : Asm} {number cell i : Nat} (h : a.state ≠ .empty ∧ a.number = number ∧ a.target = cell) :
    a.char? number cell i = a.chars[i]? := if_pos h

theorem char?_unheld {a : Asm} {number cell i : Nat} (h : ¬(a.state ≠ .empty ∧ a.number = number ∧ a.target = cell)) :
    a.char? number cell i = none := if_neg h

/-- The newest write of the queue that holds the character. -/
theorem queuedChar?_newest {cell i : Nat} {pre post : List CellWrite} {w : CellWrite} {b : Byte}
    (hq : st.queue = pre ++ w :: post) (hw : w.target = cell) (hb : w.bytes[i]? = some b)
    (hpost : ∀ x ∈ post, x.target = cell → x.bytes[i]? = none) : st.queuedChar? cell i = some (b.setWidth 7) := by
  have hpass : post.reverse.find? (fun w => decide (w.target = cell) && decide (i < w.bytes.length)) = none := by
    rw [List.find?_eq_none]
    intro x hx hp
    obtain ⟨ht, hi⟩ : x.target = cell ∧ i < x.bytes.length := by simpa using hp
    have hnone := List.getElem?_eq_none_iff.mp (hpost x (List.mem_reverse.mp hx) ht)
    omega
  have hi : i < w.bytes.length := (List.getElem?_eq_some_iff.mp hb).1
  have hfind : st.queue.reverse.find? (fun w => decide (w.target = cell) && decide (i < w.bytes.length)) = some w := by
    rw [hq, List.reverse_append, List.reverse_cons, List.append_assoc, List.find?_append, hpass, Option.none_or,
      List.singleton_append, List.find?_cons_of_pos (by simp [hw, hi])]
  rw [Store.queuedChar?, hfind, Option.bind_some, hb]
  rfl

theorem queuedChar?_none {cell i : Nat} (h : ∀ w ∈ st.queue, w.target = cell → w.bytes[i]? = none) :
    st.queuedChar? cell i = none := by
  have hfind : st.queue.reverse.find? (fun w => decide (w.target = cell) && decide (i < w.bytes.length)) = none := by
    rw [List.find?_eq_none]
    intro x hx hp
    obtain ⟨ht, hi⟩ : x.target = cell ∧ i < x.bytes.length := by simpa using hp
    have hnone := List.getElem?_eq_none_iff.mp (h x (List.mem_reverse.mp hx) ht)
    omega
  rw [Store.queuedChar?, hfind, Option.bind_none]

theorem charAt_held {c : StationCode} (h : (st.asm e.dir).char? e.number (bodyCell e.header pos) (pos % 8) = some c) :
    st.charAt m e pos = c := by
  simp only [Store.charAt, h]

theorem charAt_queued {c : StationCode} (h : (st.asm e.dir).char? e.number (bodyCell e.header pos) (pos % 8) = none)
    (hq : st.queuedChar? (bodyCell e.header pos) (pos % 8) = some c) : st.charAt m e pos = c := by
  simp only [Store.charAt, h, hq]

theorem charAt_dram (h : (st.asm e.dir).char? e.number (bodyCell e.header pos) (pos % 8) = none)
    (hq : st.queuedChar? (bodyCell e.header pos) (pos % 8) = none) :
    st.charAt m e pos = (Memory.read m (bodyCell e.header pos * 8 + pos % 8)).setWidth 7 := by
  simp only [Store.charAt, h, hq, byteCode]

theorem stages_iff (a : Asm) (c : Nat) :
    a.stages c = true ↔ a.target = c ∧ (a.state = .waiting ∨ a.state = .filling ∧ a.changed = true) := by
  simp only [Asm.stages, Bool.and_eq_true, Bool.or_eq_true, decide_eq_true_eq]

theorem staged_iff (st : Store) (c : Nat) : st.staged c = true ↔ (∃ w ∈ st.queue, w.target = c)
    ∨ ∃ d, (st.asm d).target = c
      ∧ ((st.asm d).state = .waiting ∨ (st.asm d).state = .filling ∧ (st.asm d).changed = true) := by
  rw [Store.staged, Bool.or_eq_true, Bool.or_eq_true, List.any_eq_true, stages_iff, stages_iff, or_assoc]
  refine or_congr (exists_congr fun w => and_congr_right fun _ => beq_iff_eq) ⟨?_, ?_⟩
  · rintro (h | h)
    · exact ⟨.in, h⟩
    · exact ⟨.out, h⟩
  · rintro ⟨d, h⟩
    cases d using Dir.eachWay with
    | incoming => exact .inl h
    | outgoing => exact .inr h

end Text

/-- Settles O50: an access by its kind, its reader's text by where each character stands. -/
theorem accessCompletes : Obligations.AccessCompletes := by
  unfold Obligations.AccessCompletes
  refine ⟨?write, ?refresh, fun s r c n => exec_readComplete, ?read, fun s q => serveReader_playback,
    fun s q => serveReader_printer, ?punch, ?idle, fun s h e => serveReader_host, ?served, ?cell, ?text, staged_iff, ?disown, ?fault⟩
  case write =>
    intro s w n ha hw
    refine ⟨_, exec_writeComplete ha hw, fun hwf (hfit : w.bytes.length ≤ 8) => ?_⟩
    have hend : w.target * 8 + w.bytes.length ≤ Memory.size := by
      show w.target * 8 + w.bytes.length ≤ 524288 * 8
      omega
    exact ⟨fun i b hb => Memory.read_writeBytes_inside hwf hend hb,
      fun a ha => Memory.read_writeBytes_outside hwf hend ha⟩
  case refresh => exact fun s n ha => exec_dramAccessComplete_of ha rfl
  case read => exact fun s r c n ha hc => ⟨_, exec_readComplete ha hc, serveReader_mem _ _, rfl⟩
  case punch =>
    intro s q j rest hq hc
    rw [serveReader_punch hq, Punch.served_cons _ hc]
  case idle =>
    refine fun s => ⟨fun q hq hc => ?_, serveReader_idle s⟩
    rw [serveReader_punch hq, Punch.served_nil _ hc]
  case served =>
    exact fun s n pos => ⟨fun he => by simp only [State.servedChars, he], fun e he => by simp only [State.servedChars, he]⟩
  case cell =>
    intro m st e pos limit
    refine ⟨by rw [cellChars_length, Nat.mul_comm], fun k hk => ?_⟩
    rw [Nat.mul_comm] at hk
    rw [Store.cellChars, List.getElem?_map, List.getElem?_range hk]
    rfl
  case text =>
    intro m st e pos cell a held
    refine ⟨rfl, fun c hh hc => charAt_held ((char?_held hh).trans hc), fun hno => ?_⟩
    have hnone : a.char? e.number (bodyCell e.header pos) (pos % 8) = none := by
      by_cases hh : held
      · exact (char?_held hh).trans (hno.resolve_left (Classical.not_not.mpr hh))
      · exact char?_unheld hh
    exact ⟨fun pre w post b hq hw hb hpost => charAt_queued hnone (queuedChar?_newest hq hw hb hpost),
      fun hq => charAt_dram hnone (queuedChar?_none hq)⟩
  case disown =>
    refine fun r n w => ⟨disown_other n, ?_⟩
    rintro c live rfl
    exact disown_read r c n live
  case fault =>
    rintro s ⟨w, n⟩ c ha hc (⟨bs, rfl⟩ | ⟨r, l, rfl⟩)
    · exact exec_dramAccessComplete_fault ha (decide_eq_false (Nat.not_lt.mpr hc))
    · exact exec_dramAccessComplete_fault ha (decide_eq_false (Nat.not_lt.mpr hc))

end Sys2Proof.Machine
end


section
/-! SUPPORT. The head report, and statement O51. -/

namespace Sys2Proof.Machine

/-! ### Lists of reports (R186, R187) -/

theorem dropFirst_split {p : Report → Bool} {pre post : List Report} {r : Report} (hpre : ∀ x ∈ pre, p x = false)
    (hr : p r = true) : dropFirst p (pre ++ r :: post) = pre ++ post := by
  induction pre with
  | nil => exact if_pos hr
  | cons x pre ih =>
    have hx : p x = false := hpre x List.mem_cons_self
    exact (if_neg (ne_true_of_eq_false hx)).trans (congrArg _ (ih fun y hy => hpre y (List.mem_cons_of_mem _ hy)))

theorem dropNewest_split {p : Report → Bool} {pre post : List Report} {r : Report} (hpost : ∀ x ∈ post, p x = false)
    (hr : p r = true) : dropNewest p (pre ++ r :: post) = pre ++ post := by
  have hrev : (pre ++ r :: post).reverse = post.reverse ++ r :: pre.reverse := by simp
  rw [dropNewest, hrev, dropFirst_split (fun x hx => hpost x (List.mem_reverse.mp hx)) hr, List.reverse_append,
    List.reverse_reverse, List.reverse_reverse]

theorem cls_mem_ranks (r : Report) : r.cls ∈ [0, 1, 2, 3, 4] := by
  cases r <;> simp [Report.cls]

/-- A class is one of the five, in their order; those below it are searched before it. -/
theorem mem_before_of_lt {before after : List Nat} {c k : Nat} (hl : [0, 1, 2, 3, 4] = before ++ c :: after) (hk : k < c) :
    k ∈ before := by
  have hlen : before.length < 5 := by
    have h := congrArg List.length hl
    simp only [List.length_append, List.length_cons, List.length_nil] at h
    omega
  have hget (i : Nat) (hi : i < 5) : ([0, 1, 2, 3, 4] : List Nat)[i]? = some i :=
    (List.getElem?_range (n := 5) hi : (List.range 5)[i]? = some i)
  have hc : c = before.length := by
    have h := hget before.length hlen
    rw [hl, List.getElem?_append_right (Nat.le_refl _), Nat.sub_self, List.getElem?_cons_zero] at h
    exact Option.some.inj h
  have h := hget k (by omega)
  rw [hl, List.getElem?_append_left (by omega)] at h
  exact List.mem_of_getElem? h

theorem headReport?_none_iff (rs : List Report) : headReport? rs = none ↔ rs = [] := by
  constructor
  · intro h
    refine List.eq_nil_iff_forall_not_mem.mpr fun x hx => ?_
    have hall := List.findSome?_eq_none_iff.mp h x.cls (cls_mem_ranks x)
    exact List.find?_eq_none.mp hall x hx (beq_self_eq_true _)
  · rintro rfl
    rfl

theorem headReport?_some {rs : List Report} {r : Report} (h : headReport? rs = some r) :
    ∃ pre post, rs = pre ++ r :: post ∧ dropHead r rs = pre ++ post ∧ (∀ x ∈ pre, r.cls < x.cls)
      ∧ ∀ x ∈ post, r.cls ≤ x.cls := by
  obtain ⟨before, c, after, hl, hfind, hnone⟩ := List.findSome?_eq_some_iff.mp h
  obtain ⟨hrc, pre, post, hrs, hpre⟩ := List.find?_eq_some_iff_append.mp hfind
  obtain rfl : r.cls = c := beq_iff_eq.mp hrc
  have hle (x : Report) (hx : x ∈ rs) : r.cls ≤ x.cls := by
    refine Nat.le_of_not_lt fun hlt => ?_
    exact List.find?_eq_none.mp (hnone x.cls (mem_before_of_lt hl hlt)) x hx (beq_self_eq_true _)
  have hne (x : Report) (hx : x ∈ pre) : (x.cls == r.cls) = false := Bool.not_eq_true' _ ▸ hpre x hx
  refine ⟨pre, post, hrs, ?_, fun x hx => ?_, fun x hx => hle x (by rw [hrs]; simp [hx])⟩
  · rw [hrs]
    exact dropFirst_split hne (beq_self_eq_true _)
  · have h1 := hle x (by rw [hrs]; simp [hx])
    have h2 : x.cls ≠ r.cls := beq_eq_false_iff_ne.mp (hne x hx)
    omega

theorem actFetchReport_empty {s : State} (h : headReport? s.link.reports = none) : actFetchReport s = (s, ok []) := by
  simp only [actFetchReport, h]

theorem actFetchReport_head {s : State} {r : Report} (h : headReport? s.link.reports = some r) : actFetchReport s =
    ({ s with link := { s.link with reports := dropHead r s.link.reports } }, ok (r.kind :: r.content)) := by
  simp only [actFetchReport, h]

/-- Settles O51: STATUS and FETCH-REPORT by their acts, the record by its fields, the head report by its class. -/
theorem statusAndFetch : Obligations.StatusAndFetch := by
  unfold Obligations.StatusAndFetch
  refine ⟨fun s s0 h => next_accept h rfl rfl,
    fun s => ⟨statusRecord_length s, statusRecord_state s, statusRecord_latches s, ?record⟩, by decide,
    fun s s0 h => ⟨fun hn => next_accept h rfl (actFetchReport_empty hn),
      fun r hr => next_accept h rfl (actFetchReport_head hr)⟩,
    headReport?_none_iff, fun rs r => headReport?_some⟩
  case record =>
    unfold State.statusRecord
    cases s.call.callMode <;> cases s.call.rate <;> cases s.call.outcome <;>
      simp only [put1, put2, put3, List.cons_append, List.nil_append, orNone, Option.map_none,
        Option.map_some, Option.getD_none, Option.getD_some, bit, Latches.byte]

end Sys2Proof.Machine
end


section
/-! SUPPORT. Frames received, rejections, replies and reports that join, and statement O53. -/

namespace Sys2Proof.Machine

/-! ### Bytes and frames (R182) -/

theorem sumBytes_eq (bs : List Byte) : sumBytes bs = bs.foldr (· + ·) 0 := by
  induction bs with
  | nil => rfl
  | cons b rest ih => rw [sumBytes, ih, List.foldr_cons]

section Receive

variable {l : Link} {b len : Byte} {inner : List Byte}

theorem receive_hunt (h : l.rx = .hunt) : l.receive b = if b = 0xA5#8 then { l with rx := .inFrame [] } else l := by
  simp only [Link.receive, h]
  rfl

theorem receive_stopped (h : l.rx = .stopped) : l.receive b = l := by
  simp only [Link.receive, h]

theorem receive_length (h : l.rx = .inFrame []) : l.receive b =
    if b = 0 ∨ 241 < b.toNat then (Link.reject .format 0 1 { l with rx := .hunt }).kick else { l with rx := .inFrame [b] } := by
  simp only [Link.receive, h]

theorem receive_inFrame (h : l.rx = .inFrame (len :: inner)) : l.receive b =
    if inner.length < len.toNat then { l with rx := .inFrame (len :: inner ++ [b]) } else l.judge len inner b := by
  simp only [Link.receive, h]

theorem exec_linkByteReceived {s : State} {l : Link} (h : s.link.receive b = l) :
    exec (.linkByteReceived b) s = .next { s with link := l } := by
  rw [← h]
  rfl

theorem eq_zero_iff_toNat (b : Byte) : b = 0 ↔ b.toNat = 0 :=
  ⟨fun h => by rw [h]; rfl, fun h => BitVec.eq_of_toNat_eq (by rw [h]; rfl)⟩

theorem exec_frameReceived {s : State} (h : s.link.rx = .inFrame (len :: inner)) (hl : inner.length = len.toNat) :
    exec (.frameReceived b) s = .next { s with link := s.link.judge len inner b } :=
  (show exec (.frameReceived b) s = execFrameReceived b s from rfl).trans (by simp only [execFrameReceived, h, hl, if_true])

theorem exec_frameAbandoned {s : State} {bs : List Byte} (h : s.link.rx = .inFrame bs) :
    exec .frameAbandoned s = .next { s with link := { s.link with rx := .hunt } } :=
  if_pos (by rw [h]; rfl)

end Receive

section Judge

variable {l : Link} {len kind check : Byte} {body : List Byte}

theorem frameSum_eq : sumBytes (len :: kind :: body) + check = len + (kind + (body.foldr (· + ·) 0)) + check := by
  rw [sumBytes, sumBytes, sumBytes_eq]

theorem judge_full (h : 2 ≤ l.holding.length) :
    l.judge len (kind :: body) check = Link.markOverrun kind { l with rx := .hunt } := if_pos h

theorem judge_badSum (h : l.holding.length < 2) (hs : sumBytes (len :: kind :: body) + check ≠ 0) :
    l.judge len (kind :: body) check = (Link.reject .check kind 1 { l with rx := .hunt }).kick :=
  (if_neg (Nat.not_le.mpr h)).trans (if_pos hs)

theorem judge_held (h : l.holding.length < 2) (hs : sumBytes (len :: kind :: body) + check = 0)
    (hk : requestKinds.contains kind = true) : l.judge len (kind :: body) check =
      { l with rx := .hunt, holding := l.holding ++ [⟨kind, body⟩] } :=
  (if_neg (Nat.not_le.mpr h)).trans ((if_neg (Classical.not_not.mpr hs)).trans (if_pos hk))

theorem judge_unknown (h : l.holding.length < 2) (hs : sumBytes (len :: kind :: body) + check = 0)
    (hk : requestKinds.contains kind = false) :
    l.judge len (kind :: body) check = (Link.reject .format kind 1 { l with rx := .hunt }).kick :=
  (if_neg (Nat.not_le.mpr h)).trans ((if_neg (Classical.not_not.mpr hs)).trans (if_neg (ne_true_of_eq_false hk)))

theorem markOverrun_first (h : l.overrun = none) :
    l.markOverrun kind = { l with overrun := some ⟨kind, 1, l.holding.length⟩ } := by
  simp only [Link.markOverrun, h]

theorem markOverrun_again {o : Overrun} (h : l.overrun = some o) :
    l.markOverrun kind = { l with overrun := some { o with kind := kind, count := min 255 (o.count + 1) } } := by
  simp only [Link.markOverrun, h]

end Judge

/-! ### Rejections and replies (R183, R184) -/

section Reject

variable {l : Link} {why : RejectReason} {kind : Byte} {n : Nat}

theorem isRejected_iff (f : OutFrame) : f.isRejected why = true ↔ ∃ k c, f = .rejected why k c := by
  cases f <;> simp [OutFrame.isRejected]

theorem reject_joins (h : l.replies.any (OutFrame.isRejected why) = false) :
    l.reject why kind n = { l with replies := l.replies ++ [.rejected why kind (min 255 n)] } :=
  if_neg (ne_true_of_eq_false h)

theorem anyRejected_eq_false (h : ∀ f ∈ l.replies, ∀ k c, f ≠ .rejected why k c) :
    l.replies.any (OutFrame.isRejected why) = false := by
  refine List.any_eq_false.mpr fun f hf hr => ?_
  obtain ⟨k, c, rfl⟩ := (isRejected_iff f).mp hr
  exact h _ hf k c rfl

theorem bump_other {f : OutFrame} (h : ∀ k c, f ≠ .rejected why k c) : f.bump why kind n = f := by
  cases f with
  | rejected r k c => exact if_neg fun hr : r = why => h k c (by rw [hr])
  | reply k a => rfl
  | report r => rfl

theorem bump_same (k : Byte) (c : Nat) :
    (OutFrame.rejected why k c).bump why kind n = .rejected why kind (min 255 (c + n)) := if_pos rfl

theorem map_bump_other {fs : List OutFrame} (h : ∀ f ∈ fs, ∀ k c, f ≠ .rejected why k c) :
    fs.map (OutFrame.bump why kind n) = fs :=
  (List.map_congr_left fun f hf => bump_other (h f hf)).trans (List.map_id' fs)

theorem reject_counts {pre post : List OutFrame} {k : Byte} {c : Nat} (hr : l.replies = pre ++ .rejected why k c :: post)
    (h : ∀ f ∈ pre ++ post, ∀ k c, f ≠ .rejected why k c) :
    l.reject why kind n = { l with replies := pre ++ .rejected why kind (min 255 (c + n)) :: post } := by
  have hany : l.replies.any (OutFrame.isRejected why) = true :=
    List.any_eq_true.mpr ⟨.rejected why k c, by rw [hr]; simp, (isRejected_iff _).mpr ⟨k, c, rfl⟩⟩
  refine (if_pos hany).trans ?_
  rw [hr, List.map_append, List.map_cons, bump_same, map_bump_other fun f hf => h f (List.mem_append_left _ hf),
    map_bump_other fun f hf => h f (List.mem_append_right _ hf)]

theorem overrunStep_none (h : l.overrun = none) : l.overrunStep = l := by
  simp only [Link.overrunStep, h]

theorem overrunStep_waits {o : Overrun} (h : l.overrun = some o) (hb : 2 ≤ o.behind) :
    l.overrunStep = { l with overrun := some { o with behind := o.behind - 1 } } := by
  simp only [Link.overrunStep, h]
  exact if_neg (by omega)

theorem overrunStep_joins {o : Overrun} (h : l.overrun = some o) (hb : o.behind ≤ 1) :
    l.overrunStep = Link.reject .overrun o.kind o.count { l with overrun := none } := by
  simp only [Link.overrunStep, h]
  exact if_pos hb

end Reject

/-! ### Reports that join (R186) -/

theorem isText_iff (r : Report) : r.isText = true ↔ ∃ src codes, r = .text src codes := by
  cases r <;> simp [Report.isText]

theorem isCounted_iff (r : Report) : r.isCounted = true ↔
    (∃ n rate, r = .messageOpened n rate) ∨ (∃ n f, r = .messageClosed n f) ∨ ∃ n follow c, r = .punchJobDone n follow c := by
  cases r <;> simp [Report.isCounted]

theorem isStatus_iff (r : Report) : r.isStatus = true ↔ r.isText = false ∧ r.isCounted = false := by
  rw [Report.isStatus, Bool.and_eq_true, Bool.not_eq_true', Bool.not_eq_true']

section Join

variable {r : Report} {rs : List Report}

/-- A status report of its kind is queued. -/
def Report.replaces (r : Report) (rs : List Report) : Bool := r.isStatus && rs.any fun x => x.kind == r.kind

/-- Twelve event reports are queued before another. -/
def Report.thirteenth (r : Report) (rs : List Report) : Bool := r.isCounted && decide (12 ≤ rs.countP Report.isCounted)

theorem replaces_eq_false (h : r.isStatus = true → ∀ x ∈ rs, x.kind ≠ r.kind) : r.replaces rs = false := by
  rw [Report.replaces, Bool.and_eq_false_imp]
  exact fun hs => List.any_eq_false.mpr fun x hx hk => h hs x hx (beq_iff_eq.mp hk)

theorem thirteenth_eq_false (h : r.isCounted = true → rs.countP Report.isCounted < 12) : r.thirteenth rs = false := by
  rw [Report.thirteenth, Bool.and_eq_false_imp]
  exact fun hc => decide_eq_false (Nat.not_le.mpr (h hc))

theorem joinReports_replaces (h : r.replaces rs = true) :
    joinReports r rs = (rs.map fun x => if x.kind == r.kind then r else x, false, false) := if_pos h

theorem joinReports_thirteenth (h : r.replaces rs = false) (hc : r.thirteenth rs = true) :
    joinReports r rs = (dropFirst Report.isCounted rs ++ [r], false, true) :=
  (if_neg (ne_true_of_eq_false h)).trans (if_pos hc)

theorem joinReports_room (h : r.replaces rs = false) (hc : r.thirteenth rs = false) (hl : rs.length < 24) :
    joinReports r rs = (rs ++ [r], false, false) :=
  (if_neg (ne_true_of_eq_false h)).trans ((if_neg (ne_true_of_eq_false hc)).trans (if_pos hl))

theorem joinReports_full (h : r.replaces rs = false) (hc : r.thirteenth rs = false) (hl : 24 ≤ rs.length) :
    joinReports r rs = if r.isText then (rs, false, false)
      else if rs.any Report.isText then (dropNewest Report.isText rs ++ [r], true, false)
      else if rs.any Report.isCounted then (dropFirst Report.isCounted rs ++ [r], false, true)
      else (rs, false, false) :=
  (if_neg (ne_true_of_eq_false h)).trans ((if_neg (ne_true_of_eq_false hc)).trans (if_neg (Nat.not_lt.mpr hl)))

theorem map_replace_one {pre post : List Report} {x : Report} (hx : x.kind = r.kind)
    (h : ∀ y ∈ pre ++ post, y.kind ≠ r.kind) :
    (pre ++ x :: post).map (fun x => if x.kind == r.kind then r else x) = pre ++ r :: post := by
  have hkeep (ys : List Report) (hys : ∀ y ∈ ys, y.kind ≠ r.kind) :
      ys.map (fun x => if x.kind == r.kind then r else x) = ys :=
    (List.map_congr_left fun y hy => if_neg fun hk => hys y hy (beq_iff_eq.mp hk)).trans (List.map_id' ys)
  rw [List.map_append, List.map_cons, if_pos (beq_iff_eq.mpr hx), hkeep pre fun y hy => h y (List.mem_append_left _ hy),
    hkeep post fun y hy => h y (List.mem_append_right _ hy)]

end Join

/-- Settles O53: the link's bytes by the receiver's state, its queues by the operation that each joining is. -/
theorem linkBytesAndFrames : Obligations.LinkBytesAndFrames := by
  unfold Obligations.LinkBytesAndFrames
  refine ⟨?hunt, ?stopped, ?length, ?inFrame, ?judge, fun l why kind => reject_joins, fun s bs => exec_frameAbandoned,
    fun l why kind n h => reject_joins (anyRejected_eq_false h), fun l why kind n pre post k c => reject_counts,
    ?reply, ?raise, fun r => ⟨isText_iff r, isCounted_iff r, isStatus_iff r⟩, ?join⟩
  case hunt =>
    intro s b h
    rw [exec_linkByteReceived (receive_hunt h)]
    split <;> rfl
  case stopped => exact fun s b h => exec_linkByteReceived (receive_stopped h)
  case length =>
    intro s b h
    refine ⟨fun h1 h2 => exec_linkByteReceived ((receive_length h).trans (if_neg ?_)),
      fun hbad => exec_linkByteReceived ((receive_length h).trans (if_pos ?_))⟩
    · rw [eq_zero_iff_toNat]
      omega
    · rwa [eq_zero_iff_toNat]
  case inFrame =>
    intro s len b inner h
    exact ⟨fun hl => exec_linkByteReceived ((receive_inFrame h).trans (if_pos hl)),
      fun hl => ⟨exec_linkByteReceived ((receive_inFrame h).trans (if_neg (by omega))), exec_frameReceived h hl⟩⟩
  case judge =>
    intro l len kind check body hunted sum
    have hsum : sumBytes (len :: kind :: body) + check = sum := frameSum_eq
    refine ⟨fun hl hs => judge_held hl (hsum.trans hs), fun hl hs => judge_unknown hl (hsum.trans hs),
      fun hl hs => judge_badSum hl (hsum ▸ hs), fun hl ho => (judge_full hl).trans (markOverrun_first ho),
      fun o hl ho => (judge_full hl).trans (markOverrun_again ho)⟩
  case reply =>
    intro kind a s l1
    have hreply {l : Link} (hl : l1.overrunStep = l) : reply kind a s = { s with link := l.kick } := by
      rw [← hl]; rfl
    exact ⟨fun ho => hreply (overrunStep_none ho), fun o ho =>
      ⟨fun hb => hreply (overrunStep_waits ho hb), fun hb => hreply (overrunStep_joins ho hb)⟩⟩
  case raise => exact fun r s => ⟨_, _, _, rfl, rfl⟩
  case join =>
    intro r rs
    refine ⟨fun pre x post hr hrs hx hother => ?_, fun hno => ⟨fun pre x post hc h12 hrs hx hpre => ?_, fun h12 => ?_⟩⟩
    · have hrep : r.replaces rs = true :=
        Bool.and_eq_true_iff.mpr ⟨hr, List.any_eq_true.mpr ⟨x, by rw [hrs]; simp, beq_iff_eq.mpr hx⟩⟩
      rw [joinReports_replaces hrep, hrs, map_replace_one hx hother]
    · have h13 : r.thirteenth rs = true := Bool.and_eq_true_iff.mpr ⟨hc, decide_eq_true h12⟩
      rw [joinReports_thirteenth (replaces_eq_false hno) h13, hrs, dropFirst_split hpre hx]
    · have hrep := replaces_eq_false hno
      have h13 := thirteenth_eq_false h12
      refine ⟨joinReports_room hrep h13, fun h24 => ?_⟩
      have hfull := joinReports_full hrep h13 h24
      refine ⟨fun ht => hfull.trans (if_pos ht), fun ht => ⟨fun pre x post hrs hx hpost => ?_,
        fun pre x post hno hrs hx hpre => ?_⟩⟩
      · have hany : rs.any Report.isText = true := List.any_eq_true.mpr ⟨x, by rw [hrs]; simp, hx⟩
        rw [hfull, if_neg (ne_true_of_eq_false ht), if_pos hany, hrs, dropNewest_split hpost hx]
      · have hnone : rs.any Report.isText = false := List.any_eq_false.mpr fun y hy => ne_true_of_eq_false (hno y hy)
        have hany : rs.any Report.isCounted = true := List.any_eq_true.mpr ⟨x, by rw [hrs]; simp, hx⟩
        rw [hfull, if_neg (ne_true_of_eq_false ht), if_neg (ne_true_of_eq_false hnone), if_pos hany, hrs,
          dropFirst_split hpre hx]

end Sys2Proof.Machine
end


section
/-! SUPPORT. What an operation on the message store keeps: the capacities, the cursors, the order of the ring and the directory,
and the messages that are not RELEASED (R163 to R180). -/

-- One theorem after another: the check elaborates the whole text at once, where too many threads would wait for the kernel.
set_option Elab.async false

namespace Sys2Proof.Machine

/-! ### The relation -/

/-- An entry of the number stands in the directory and is not RELEASED. -/
def Store.Live (st : Store) (n : Nat) : Prop := ∃ e ∈ st.dir, e.number = n ∧ e.state ≠ .released

/-- An IN entry is OPEN. -/
def Store.OpenIn (st : Store) : Prop := ∃ e ∈ st.dir, e.dir = .in ∧ e.state = .open

/-- The READ-MESSAGE being served reads the message. -/
def Store.Hosts (st : Store) (n : Nat) : Prop := ∃ h, st.hostRead = some h ∧ h.number = n

/-- Nothing that is to be written is longer than a cell. -/
def Store.fitsInv (st : Store) : Prop :=
  (∀ w ∈ st.queue, w.fits) ∧ (∀ a ∈ st.access, a.fits) ∧ ∀ d, (st.asm d).chars.length ≤ 8

/-- What every operation on the store keeps. -/
structure Store.Sound (st t : Store) : Prop where
  fits : st.fitsInv → t.fitsInv := by exact id
  cursor : st.cursorInv → t.cursorInv := by exact id
  queue : st.queue.length ≤ 4 → t.queue.length ≤ 4 := by exact id
  dir : st.dir.length ≤ 64 → t.dir.length ≤ 64 := by exact id
  debt : st.debt ≤ 8 → t.debt ≤ 8 := by exact id
  layout : st.layoutInv → t.layoutInv := by exact id
  punch : t.punchRead.isSome = true → st.punchRead.isSome = true := by exact id
  host : ∀ n, t.Hosts n → st.Hosts n := by exact fun _ => id

/-- What every operation on the store keeps but the opening of an incoming message and a release. -/
structure Store.Kept (st t : Store) : Prop extends st.Sound t where
  openIn : t.OpenIn → st.OpenIn := by exact id
  live : ∀ n, st.Live n → t.Live n := by exact fun _ => id

namespace Store.Kept

variable {st t u : Store}

theorem refl (st : Store) : st.Kept st where

theorem trans (h : st.Kept t) (k : t.Kept u) : st.Kept u where
  fits x := k.fits (h.fits x)
  cursor x := k.cursor (h.cursor x)
  queue x := k.queue (h.queue x)
  dir x := k.dir (h.dir x)
  debt x := k.debt (h.debt x)
  layout x := k.layout (h.layout x)
  punch x := h.punch (k.punch x)
  host n x := h.host n (k.host n x)
  openIn x := h.openIn (k.openIn x)
  live n x := k.live n (h.live n x)

end Store.Kept

/-! ### Entries changed in place -/

/-- `x` is `e` with the same number, direction, state, header cell and length. -/
structure Entry.Same (e x : Entry) : Prop where
  number : x.number = e.number := by rfl
  dir : x.dir = e.dir := by rfl
  state : x.state = e.state := by rfl
  header : x.header = e.header := by rfl
  length : x.length = e.length := by rfl

section Map

variable {g : Entry → Entry} {st : Store}

/-- The change that a modification makes to each entry. -/
def entryAt (n : Nat) (f : Entry → Entry) (e : Entry) : Entry := if e.number = n then f e else e

theorem entryAt_same {n : Nat} {f : Entry → Entry} (hf : ∀ e : Entry, e.Same (f e)) (e : Entry) : e.Same (entryAt n f e) := by
  unfold entryAt
  split
  · exact hf e
  · exact {}

theorem open?_map (hg : ∀ e : Entry, e.Same (g e)) (d : Dir) :
    Store.open? d { st with dir := st.dir.map g } = (st.open? d).map g := by
  have hp : ((fun e : Entry => decide (e.dir = d) && decide (e.state = .open)) ∘ g) =
      fun e => decide (e.dir = d) && decide (e.state = .open) := by
    funext e
    simp only [Function.comp_apply, (hg e).dir, (hg e).state]
  show (st.dir.map g).find? _ = _
  rw [List.find?_map, hp]
  rfl

theorem ringInv_map (hg : ∀ e : Entry, e.Same (g e)) (h : st.ringInv) : Store.ringInv { st with dir := st.dir.map g } := by
  obtain ⟨hfree, hhead, hlaid, holdest⟩ := h
  have hcells (e : Entry) : (g e).cells = e.cells := by rw [Entry.cells, Entry.cells, (hg e).length]
  refine ⟨?_, hhead, (laidOut_map fun e _ => ⟨(hg e).header, (hg e).length⟩).mpr hlaid, ?_⟩
  · rw [← hfree, List.map_map]
    exact congrArg (fun l => st.free + List.sum l) (List.map_congr_left fun e _ => hcells e)
  · intro x hx
    rw [List.head?_map, Option.map_eq_some_iff] at hx
    obtain ⟨e, he, rfl⟩ := hx
    rw [(hg e).state]
    exact holdest e he

theorem numberInv_map (hg : ∀ e : Entry, e.Same (g e)) (h : st.numberInv) : Store.numberInv { st with dir := st.dir.map g } := by
  obtain ⟨hnodup, hrange, hnext⟩ := h
  refine ⟨?_, fun x hx => ?_, hnext⟩
  · rwa [List.map_map, List.map_congr_left fun e _ => show (Entry.number ∘ g) e = e.number from (hg e).number]
  · obtain ⟨e, he, rfl⟩ := List.mem_map.mp hx
    rw [(hg e).number]
    exact hrange e he

theorem asmInv_map (hg : ∀ e : Entry, e.Same (g e)) {d : Dir} (h : st.asmInv d) :
    Store.asmInv d { st with dir := st.dir.map g } := by
  obtain ⟨hfilling, hbegun⟩ := h
  have hasm : Store.asm { st with dir := st.dir.map g } d = st.asm d := by cases d <;> rfl
  unfold Store.asmInv
  rw [hasm, open?_map hg]
  refine ⟨fun hf => ?_, fun hf x hx => ?_⟩
  · obtain ⟨e, he, hnumber, htarget, hlen⟩ := hfilling hf
    refine ⟨g e, by rw [he]; rfl, ?_⟩
    rw [(hg e).number, (hg e).header, (hg e).length]
    exact ⟨hnumber, htarget, hlen⟩
  · obtain ⟨e, he, rfl⟩ := Option.map_eq_some_iff.mp hx
    rw [(hg e).length]
    exact hbegun hf e he

theorem layoutInv_map (hg : ∀ e : Entry, e.Same (g e)) (h : st.layoutInv) : Store.layoutInv { st with dir := st.dir.map g } := by
  obtain ⟨hring, hnumbers, hin, hout, hopen⟩ := h
  refine ⟨ringInv_map hg hring, numberInv_map hg hnumbers, asmInv_map hg hin, asmInv_map hg hout, fun x hx => ?_⟩
  rw [← List.map_dropLast] at hx
  obtain ⟨e, he, rfl⟩ := List.mem_map.mp hx
  rw [(hg e).state]
  exact hopen e he

/-- Entries changed in place keep the store when their cursors stay within their lengths. -/
theorem map_kept (hg : ∀ e : Entry, e.Same (g e)) (hc : ∀ e : Entry, e.cursorsOk → (g e).cursorsOk) :
    st.Kept { st with dir := st.dir.map g } where
  cursor h x hx := by
    obtain ⟨e, he, rfl⟩ := List.mem_map.mp hx
    exact hc e (h e he)
  dir h := by rwa [List.length_map]
  layout := layoutInv_map hg
  openIn := by
    rintro ⟨x, hx, hdir, hstate⟩
    obtain ⟨e, he, rfl⟩ := List.mem_map.mp hx
    exact ⟨e, he, (hg e).dir ▸ hdir, (hg e).state ▸ hstate⟩
  live n := by
    rintro ⟨e, he, hn, hs⟩
    exact ⟨g e, List.mem_map_of_mem he, (hg e).number.trans hn, by rwa [(hg e).state]⟩

theorem modify_kept {n : Nat} {f : Entry → Entry} (hf : ∀ e : Entry, e.Same (f e)) (hc : ∀ e : Entry, e.cursorsOk → (f e).cursorsOk) :
    st.Kept (st.modify n f) := by
  refine map_kept (entryAt_same hf) fun e he => ?_
  split
  · exact hc e he
  · exact he

end Map

section Modifications

variable (n v : Nat) (f : MsgFlags) (st : Store)

theorem markHeader_kept : st.Kept (st.markHeader n) := modify_kept (fun _ => {}) fun _ h => h

theorem setFlags_kept : st.Kept (st.setFlags n f) := modify_kept (fun _ => {}) fun _ h => h

theorem trackedMark_kept : st.Kept (st.modify n fun e => { e with trackedMark := true }) :=
  modify_kept (fun _ => {}) fun _ h => h

theorem punchNamed_kept : st.Kept (st.modify n fun e => { e with punchNamed := true }) :=
  modify_kept (fun _ => {}) fun _ h => h

theorem setSent_kept : st.Kept (st.setSent n v) :=
  modify_kept (fun _ => {}) fun _ ⟨hprint, hpunch, _, hdelivered⟩ => ⟨hprint, hpunch, Nat.min_le_left _ _, hdelivered⟩

theorem raisePunch_kept : st.Kept (st.modify n fun e => { e with punch := min e.length (max e.punch v) }) :=
  modify_kept (fun _ => {}) fun _ ⟨hprint, _, hsent, hdelivered⟩ => ⟨hprint, Nat.min_le_left _ _, hsent, hdelivered⟩

theorem raiseDelivered_kept : st.Kept (st.modify n fun e => { e with delivered := min e.length (max e.delivered v) }) :=
  modify_kept (fun _ => {}) fun _ ⟨hprint, hpunch, hsent, _⟩ => ⟨hprint, hpunch, hsent, Nat.min_le_left _ _⟩

theorem raisePrint_same (e : Entry) : e.Same (e.raisePrint v) := by
  unfold Entry.raisePrint
  dsimp only
  split <;> exact {}

theorem raisePrint_kept : st.Kept (st.modify n (Entry.raisePrint v)) :=
  modify_kept (raisePrint_same v) fun _ h => raisePrint_ok v h

theorem countError_kept : st.Kept st.countError := by
  unfold Store.countError
  split
  · exact .refl st
  · exact modify_kept (fun _ => {}) fun _ h => h

theorem handQ_kept : st.Kept (st.handQ n) := by
  unfold Store.handQ
  split
  · exact .refl st
  · exact modify_kept (fun _ => {}) fun _ h => h

theorem flagUnprinted_kept (ns : List Nat) : st.Kept (Store.flagUnprinted ns st) := by
  induction ns generalizing st with
  | nil => exact .refl st
  | cons n rest ih =>
    unfold Store.flagUnprinted
    split
    · exact (setFlags_kept n MsgFlags.justPrintIncomplete st).trans (ih _)
    · exact ih st

end Modifications

/-! ### Reads and accesses (R162 to R166, R176) -/

section Reads

variable (st : Store)

theorem setRead_kept (r : Reader) : st.Kept (st.setRead r none) := by
  cases r with
  | playback => exact {}
  | printer => exact {}
  | punch => exact { punch := nofun }
  | host => exact .refl st

theorem disown_fits (r : Reader) {a : Access} (h : a.fits) : (Access.disown r a).fits := by
  obtain ⟨w, n⟩ := a
  cases w with
  | refresh => exact h
  | write x => exact h
  | read r1 c live =>
    unfold Access.disown
    dsimp only
    split <;> trivial

theorem abandon_kept (r : Reader) : st.Kept (st.abandon r) := by
  refine (setRead_kept st r).trans ?_
  refine { fits := fun ⟨hqueue, haccess, hasm⟩ => ⟨hqueue, fun a ha => ?_, hasm⟩ }
  have haccess0 : (st.setRead r none).access = st.access := by cases r <;> rfl
  obtain ⟨b, hb, rfl⟩ := Option.map_eq_some_iff.mp ha
  exact disown_fits r (haccess b (haccess0.trans hb))

theorem abandonAll_kept : st.Kept st.abandonAll :=
  (((abandon_kept st .playback).trans (abandon_kept _ .printer)).trans (abandon_kept _ .punch)).trans (abandon_kept _ .host)

theorem askPlayback_kept (m : List Host.Cell) (n pos : Nat) : st.Kept (st.ask m .playback n pos).1 := by
  unfold Store.ask
  split
  · exact .refl st
  · split
    · exact .refl st
    · exact {}

theorem askPrinter_kept (m : List Host.Cell) (n pos : Nat) : st.Kept (st.ask m .printer n pos).1 := by
  unfold Store.ask
  split
  · exact .refl st
  · split
    · exact .refl st
    · exact {}

theorem endHost_kept : st.Kept { st with hostRead := none } :=
  { host := fun _ ⟨_, h, _⟩ => nomatch h }

theorem toSelfRefresh_kept : st.Kept st.toSelfRefresh :=
  { fits := fun ⟨hqueue, _, hasm⟩ => ⟨hqueue, nofun, hasm⟩, debt := fun _ => Nat.zero_le 8 }

end Reads

end Sys2Proof.Machine
end


section
/-! SUPPORT. The write queue, the assembly cells, the growth and the close of a message keep the store (R167 to R174). -/

-- One theorem after another: the check elaborates the whole text at once, where too many threads would wait for the kernel.
set_option Elab.async false

namespace Sys2Proof.Machine

/-! ### The newest entry (R172) -/

section Newest

variable {st : Store} {d : Dir} {e : Entry}

theorem open?_mem (h : st.open? d = some e) : e ∈ st.dir ∧ e.dir = d ∧ e.state = .open := by
  have hp := List.find?_some h
  rw [Bool.and_eq_true, decide_eq_true_iff, decide_eq_true_iff] at hp
  exact ⟨List.mem_of_find?_eq_some h, hp⟩

/-- An OPEN entry is the newest (R172). -/
theorem layoutInv_newest (h : st.layoutInv) (he : e ∈ st.dir) (ho : e.state = .open) : ∃ init, st.dir = init ++ [e] := by
  obtain ⟨-, -, -, -, hopen⟩ := h
  have hne : st.dir ≠ [] := List.ne_nil_of_mem he
  have hsplit := List.dropLast_concat_getLast hne
  rw [← hsplit, List.mem_append, List.mem_singleton] at he
  rcases he with he | he
  · exact absurd ho (hopen e he)
  · exact ⟨st.dir.dropLast, by rw [he, hsplit]⟩

theorem layoutInv_only (h : st.layoutInv) (he : e ∈ st.dir) (ho : e.state = .open) {x : Entry} (hx : x ∈ st.dir)
    (hxo : x.state = .open) : x = e := by
  obtain ⟨init, hinit⟩ := layoutInv_newest h he ho
  obtain ⟨rest, hrest⟩ := layoutInv_newest h hx hxo
  exact (List.append_inj_right' (hrest.symm.trans hinit) rfl |> List.cons.inj).1

theorem open?_eq_none_of_other (h : st.layoutInv) (he : st.open? d = some e) {d1 : Dir} (hd : d1 ≠ d) : st.open? d1 = none := by
  obtain ⟨hmem, hdir, ho⟩ := open?_mem he
  rw [Store.open?, List.find?_eq_none]
  intro x hx hp
  rw [Bool.and_eq_true, decide_eq_true_iff, decide_eq_true_iff] at hp
  obtain ⟨hxd, hxo⟩ := hp
  rw [layoutInv_only h hmem ho hx hxo] at hxd
  exact hd (hxd.symm.trans hdir)

theorem open?_eq_none_of_closed (h : ∀ x ∈ st.dir, x.state ≠ .open) (d : Dir) : st.open? d = none := by
  rw [Store.open?, List.find?_eq_none]
  intro x hx hp
  rw [Bool.and_eq_true, decide_eq_true_iff, decide_eq_true_iff] at hp
  exact h x hx hp.2

/-- A change of the newest entry alone (R170). -/
theorem modify_newest {init : List Entry} (f : Entry → Entry) (hn : st.numberInv) (hd : st.dir = init ++ [e]) :
    (st.modify e.number f).dir = init ++ [f e] := by
  obtain ⟨hnodup, -, -⟩ := hn
  rw [hd, List.map_append, List.nodup_append] at hnodup
  obtain ⟨-, -, hdisj⟩ := hnodup
  have hinit : init.map (fun x => if x.number = e.number then f x else x) = init := by
    refine (List.map_congr_left fun x hx => if_neg fun hx' => ?_).trans (List.map_id' init)
    exact hdisj x.number (List.mem_map_of_mem hx) e.number (by simp) hx'
  rw [Store.modify_dir, hd, List.map_append, hinit, List.map_singleton, if_pos rfl]

end Newest

/-! ### Asking for a place (R168) -/

section Leave

variable {d : Dir} {st : Store}

/-- Asking for a place changes the queue and the assembly cells alone. -/
theorem leave_shape (d : Dir) (st : Store) :
    ∃ q a b, st.leave d = { st with queue := q, inCell := a, outCell := b } := by
  unfold Store.leave
  split <;> cases d <;> exact ⟨_, _, _, rfl⟩

theorem leave_asm (d : Dir) (st : Store) : ((st.leave d).asm d).state ≠ .filling := by
  unfold Store.leave
  split
  · rw [asm_setAsm]
    exact AsmState.noConfusion
  · rw [asm_setAsm]
    exact AsmState.noConfusion

theorem setAsm_asm_other (st : Store) {d1 : Dir} (h : d1 ≠ d) (a : Asm) : (st.setAsm d a).asm d1 = st.asm d1 := by
  cases d <;> cases d1
  · exact absurd rfl h
  · exact rfl
  · exact rfl
  · exact absurd rfl h

theorem leave_asm_other (st : Store) {d1 : Dir} (h : d1 ≠ d) : (st.leave d).asm d1 = st.asm d1 := by
  unfold Store.leave
  split
  · rw [setAsm_asm_other _ h]
    cases d1 <;> rfl
  · exact setAsm_asm_other st h _

theorem setAsm_fits {a : Asm} (ha : a.chars.length ≤ 8) (h : st.fitsInv) : (st.setAsm d a).fitsInv := by
  obtain ⟨hqueue, haccess, hasm⟩ := h
  cases d using Dir.eachWay with
  | incoming => exact ⟨hqueue, haccess, fun d => match d with | .in => ha | .out => hasm .out⟩
  | outgoing => exact ⟨hqueue, haccess, fun d => match d with | .in => hasm .in | .out => ha⟩

theorem push_fits {w : CellWrite} (hw : w.fits) (h : st.fitsInv) : (st.push w).fitsInv := by
  obtain ⟨hqueue, haccess, hasm⟩ := h
  refine ⟨fun x hx => ?_, haccess, fun d => match d with | .in => hasm .in | .out => hasm .out⟩
  rcases List.mem_append.mp hx with hx | hx
  · exact hqueue x hx
  · rwa [List.mem_singleton.mp hx]

theorem asmWrite_fits (h : st.fitsInv) (d : Dir) : (st.asm d).write.fits := by
  obtain ⟨-, -, hasm⟩ := h
  show ((st.asm d).chars.map codeByte).length ≤ 8
  rw [List.length_map]
  exact hasm d

theorem leave_fits (h : st.fitsInv) : (st.leave d).fitsInv := by
  unfold Store.leave
  split
  · exact setAsm_fits (Nat.zero_le 8) (push_fits (asmWrite_fits h d) h)
  · exact setAsm_fits (h.2.2 d) h

/-- The assembly cell of a direction is left by a change that leaves the ring and the directory. -/
theorem layoutInv_of_asm {t : Store} (hdir : t.dir = st.dir) (hring : t.ringInv ↔ st.ringInv)
    (hnumber : t.numberInv ↔ st.numberInv) (hother : ∀ d1, d1 ≠ d → t.asm d1 = st.asm d1)
    (hasm : st.layoutInv → t.asmInv d) (h : st.layoutInv) : t.layoutInv := by
  have hd := hasm h
  obtain ⟨hr, hn, hin, hout, hopen⟩ := h
  refine ⟨hring.mpr hr, hnumber.mpr hn, ?_, ?_, hdir ▸ hopen⟩
  · cases d using Dir.eachWay with
    | incoming => exact hd
    | outgoing => exact (asmInv_congr hdir (hother .in Dir.noConfusion)).mpr hin
  · cases d using Dir.eachWay with
    | incoming => exact (asmInv_congr hdir (hother .out Dir.noConfusion)).mpr hout
    | outgoing => exact hd

theorem leave_layout (hlen : ∀ e, st.open? d = some e → e.length % 8 = 0) (hring : st.ringInv) (hnumber : st.numberInv)
    (hother : ∀ d1, d1 ≠ d → st.asmInv d1) (hopen : ∀ e ∈ st.dir.dropLast, e.state ≠ .open) : (st.leave d).layoutInv := by
  have hasm : (st.leave d).asmInv d := by
    obtain ⟨hdir, -⟩ := leave_frame d st
    refine ⟨fun hf => absurd hf (leave_asm d st), fun _ e he => hlen e ?_⟩
    rwa [Store.open?, hdir] at he
  have hkept (d1 : Dir) (h : d1 ≠ d) : (st.leave d).asmInv d1 :=
    (asmInv_congr (leave_frame d st).1 (leave_asm_other st h)).mpr (hother d1 h)
  obtain ⟨q, a, b, hshape⟩ := leave_shape d st
  have hin : (st.leave d).asmInv .in := by
    cases d using Dir.eachWay with
    | incoming => exact hasm
    | outgoing => exact hkept .in Dir.noConfusion
  have hout : (st.leave d).asmInv .out := by
    cases d using Dir.eachWay with
    | incoming => exact hkept .out Dir.noConfusion
    | outgoing => exact hasm
  rw [hshape] at hin hout ⊢
  exact ⟨hring, hnumber, hin, hout, hopen⟩

end Leave

/-! ### Claims on the write queue (R169, R174) -/

section Claim

variable {st : Store}

/-- A cell that waited joins the queue and becomes EMPTY. -/
theorem claimCell_kept (d : Dir) (hq : st.queue.length < 4) (hw : (st.asm d).state = .waiting) :
    st.Kept ((st.push (st.asm d).write).setAsm d Asm.empty) := by
  have hlayout : st.layoutInv → ((st.push (st.asm d).write).setAsm d Asm.empty).layoutInv := by
    refine layoutInv_of_asm (d := d) (by cases d <;> rfl) (by cases d <;> exact Iff.rfl) (by cases d <;> exact Iff.rfl)
      (fun d1 h1 => (setAsm_asm_other _ h1 _).trans (by cases d1 <;> rfl)) fun h => ?_
    have hbegun : ∀ e, st.open? d = some e → e.length % 8 = 0 := by
      obtain ⟨-, -, ⟨-, hin⟩, ⟨-, hout⟩, -⟩ := h
      cases d using Dir.eachWay with
      | incoming => exact hin (by rw [hw]; exact AsmState.noConfusion)
      | outgoing => exact hout (by rw [hw]; exact AsmState.noConfusion)
    refine ⟨fun hf => ?_, fun _ e he => hbegun e (by cases d <;> exact he)⟩
    rw [asm_setAsm] at hf
    exact AsmState.noConfusion hf
  have hfits : st.fitsInv → ((st.push (st.asm d).write).setAsm d Asm.empty).fitsInv := fun h =>
    setAsm_fits (Nat.zero_le 8) (push_fits (asmWrite_fits h d) h)
  have hqueue : ((st.push (st.asm d).write).setAsm d Asm.empty).queue.length ≤ 4 := by
    have hlen : ((st.push (st.asm d).write).setAsm d Asm.empty).queue = st.queue ++ [(st.asm d).write] := by cases d <;> rfl
    rw [hlen, List.length_append, List.length_singleton]
    omega
  cases d <;> exact { fits := hfits, layout := hlayout, queue := fun _ => hqueue }

/-- A copy of a FILLING cell joins the queue; its changed mark is cleared. -/
theorem copyCell_kept (d : Dir) (hq : st.queue = []) :
    st.Kept ((st.push (st.asm d).write).setAsm d { st.asm d with changed := false }) := by
  have hlayout : st.layoutInv → ((st.push (st.asm d).write).setAsm d { st.asm d with changed := false }).layoutInv := by
    refine layoutInv_of_asm (d := d) (by cases d <;> rfl) (by cases d <;> exact Iff.rfl) (by cases d <;> exact Iff.rfl)
      (fun d1 h1 => (setAsm_asm_other _ h1 _).trans (by cases d1 <;> rfl)) fun h => ?_
    obtain ⟨-, -, hin, hout, -⟩ := h
    cases d using Dir.eachWay with
    | incoming => exact hin
    | outgoing => exact hout
  have hfits : st.fitsInv → ((st.push (st.asm d).write).setAsm d { st.asm d with changed := false }).fitsInv := fun h =>
    setAsm_fits (h.2.2 d) (push_fits (asmWrite_fits h d) h)
  have hqueue : ((st.push (st.asm d).write).setAsm d { st.asm d with changed := false }).queue.length ≤ 4 := by
    have hlen : ((st.push (st.asm d).write).setAsm d { st.asm d with changed := false }).queue = [(st.asm d).write] := by
      cases d <;> exact congrArg (· ++ _) hq
    rw [hlen]
    exact Nat.le_of_ble_eq_true rfl
  cases d <;> exact { fits := hfits, layout := hlayout, queue := fun _ => hqueue }

theorem joinHeader_kept (e : Entry) (hq : st.queue.length < 4) : st.Kept (st.joinHeader e) := by
  have hpush : st.Kept (st.push ⟨e.header, e.headerBytes⟩) :=
    { fits := push_fits (Nat.le_of_eq (headerBytes_length e))
      queue := fun _ => by
        rw [show (st.push ⟨e.header, e.headerBytes⟩).queue = st.queue ++ [_] from rfl, List.length_append, List.length_singleton]
        omega }
  exact hpush.trans (modify_kept (fun _ => {}) fun _ h => h)

theorem claim_kept (st : Store) : st.Kept st.claim := by
  by_cases hq : st.queue.length < 4
  · by_cases hin : st.inCell.state = .waiting
    · rw [claim_in hq hin]
      exact claimCell_kept .in hq hin
    · by_cases hout : st.outCell.state = .waiting
      · rw [claim_out hq hin hout]
        exact claimCell_kept .out hq hout
      · cases he : st.dueHeader? with
        | some e =>
          rw [claim_header hq hin hout he]
          exact joinHeader_kept e hq
        | none =>
          have hstands : st.claim = st := (if_pos hq).trans ((if_neg hin).trans ((if_neg hout).trans (by rw [he])))
          rw [hstands]
          exact .refl st
  · rw [show st.claim = st from if_neg hq]
    exact .refl st

theorem copyThrough_kept (st : Store) : st.Kept st.copyThrough := by
  by_cases hf : st.writeThroughFree = true
  · obtain ⟨hq, -⟩ := (writeThroughFree_iff st).mp hf
    by_cases hin : st.inCell.writable = true
    · rw [copyThrough_in hf hin]
      exact copyCell_kept .in hq
    · by_cases hout : st.outCell.writable = true
      · rw [copyThrough_out hf hin hout]
        exact copyCell_kept .out hq
      · rw [show st.copyThrough = st from (if_pos hf).trans ((if_neg hin).trans (if_neg hout))]
        exact .refl st
  · rw [show st.copyThrough = st from if_neg hf]
    exact .refl st

end Claim

/-! ### Accesses granted and completed (R162, R166) -/

theorem firstWaiting?_fits {st : Store} {w : Work} (h : st.firstWaiting? = some w) (hf : st.fitsInv) (n : Nat) :
    Access.fits ⟨w, n⟩ := by
  cases w with
  | refresh => trivial
  | read r c live => trivial
  | write x =>
    obtain ⟨hqueue, -, -⟩ := hf
    have hwrite (k : Nat) (hk : st.writeWork? k = some (.write x)) : x ∈ st.queue := by
      unfold Store.writeWork? at hk
      split at hk
      · obtain ⟨y, hy, hyx⟩ := Option.map_eq_some_iff.mp hk
        rw [← Work.write.inj hyx]
        exact List.mem_of_head? hy
      · cases hk
    have hread (r : Reader) (q : Option Read) : st.readWork? r q ≠ some (.write x) := by
      intro hr
      obtain ⟨c, -, hc⟩ := Option.map_eq_some_iff.mp hr
      cases hc
    have hhost : st.hostWork? ≠ some (.write x) := by
      intro hr
      obtain ⟨c, -, hc⟩ := Option.map_eq_some_iff.mp hr
      cases hc
    have hrefresh (k : Nat) : st.refreshWork? k ≠ some (.write x) := by
      intro hr
      unfold Store.refreshWork? at hr
      split at hr <;> cases hr
    obtain ⟨y, hy, hyw⟩ := List.exists_of_findSome?_eq_some h
    change y = some (Work.write x) at hyw
    subst hyw
    refine hqueue x ?_
    simp only [List.mem_cons, List.not_mem_nil, or_false] at hy
    rcases hy with hy | hy | hy | hy | hy | hy | hy | hy
    · exact absurd hy.symm (hrefresh _)
    · exact hwrite 3 hy.symm
    · exact absurd hy.symm (hread _ _)
    · exact absurd hy.symm (hread _ _)
    · exact absurd hy.symm (hread _ _)
    · exact absurd hy.symm hhost
    · exact hwrite 1 hy.symm
    · exact absurd hy.symm (hrefresh _)

end Sys2Proof.Machine
end


section
/-! SUPPORT. A character stored, an opening, a close and a release keep the store (R168 to R174, R178, R180). -/

-- One theorem after another: the check elaborates the whole text at once, where too many threads would wait for the kernel.
set_option Elab.async false

namespace Sys2Proof.Machine

/-! ### The ring as the newest entry grows (R167, R173) -/

section Grow

variable {st t : Store} {e x : Entry} {init : List Entry}

/-- The newest entry of a ring that is in order. -/
theorem ringInv_newest (hd : st.dir = init ++ [e]) : st.ringInv ↔
    st.free + ((init.map Entry.cells).sum + e.cells) = Config.cells ∧ st.head < Config.cells
      ∧ (∃ m, laidOut m st.head init ∧ e.header = m ∧ (m + e.cells) % Config.cells = st.tail)
      ∧ ∀ y, (init ++ [e]).head? = some y → y.state ≠ .released := by
  unfold Store.ringInv
  rw [hd, laidOut_append, List.map_append, List.sum_append, List.map_singleton, List.sum_singleton]
  rfl

/-- The newest entry keeps its header cell and takes the cells that the ring gives. -/
theorem ringInv_grow (hs : st.dir = init ++ [e]) (ht : t.dir = init ++ [x]) (hhead : t.head = st.head)
    (hx : x.header = e.header ∧ x.state = e.state) (hfree : t.free + x.cells = st.free + e.cells)
    (htail : ∀ m, (m + e.cells) % Config.cells = st.tail → (m + x.cells) % Config.cells = t.tail) (h : st.ringInv) :
    t.ringInv := by
  obtain ⟨hcount, hlt, ⟨m, hlaid, hm, hmt⟩, holdest⟩ := (ringInv_newest hs).mp h
  refine (ringInv_newest ht).mpr ⟨by omega, hhead ▸ hlt, ⟨m, hhead ▸ hlaid, hx.1.trans hm, htail m hmt⟩, ?_⟩
  intro y hy
  cases hi : init with
  | nil =>
    rw [hi] at hy holdest
    obtain rfl : x = y := Option.some.inj hy
    rw [hx.2]
    exact holdest e rfl
  | cons z rest =>
    rw [hi] at hy holdest
    exact holdest y hy

theorem numberInv_newest (hs : st.dir = init ++ [e]) (ht : t.dir = init ++ [x]) (hx : x.number = e.number)
    (hn : t.nextNumber = st.nextNumber) (h : st.numberInv) : t.numberInv := by
  obtain ⟨hnodup, hrange, hnext⟩ := h
  rw [hs] at hnodup hrange
  refine ⟨?_, fun y hy => ?_, by rwa [hn]⟩
  · rw [ht, List.map_append, List.map_singleton, hx]
    rwa [List.map_append, List.map_singleton] at hnodup
  · rw [ht] at hy
    rcases List.mem_append.mp hy with hy | hy
    · exact hrange y (List.mem_append_left _ hy)
    · rw [List.mem_singleton.mp hy, hx]
      exact hrange e (by simp)

theorem open?_newest {d : Dir} (ht : t.dir = init ++ [x]) (hi : ∀ y ∈ init, y.state ≠ .open) (hd : x.dir = d)
    (ho : x.state = .open) : t.open? d = some x := by
  have hinit : init.find? (fun e => decide (e.dir = d) && decide (e.state = .open)) = none := by
    rw [List.find?_eq_none]
    intro y hy hp
    rw [Bool.and_eq_true, decide_eq_true_iff, decide_eq_true_iff] at hp
    exact hi y hy hp.2
  rw [Store.open?, ht, List.find?_append, hinit, Option.none_or, List.find?_cons_of_pos (by simp [hd, ho])]

theorem open?_newest_other {d : Dir} (ht : t.dir = init ++ [x]) (hi : ∀ y ∈ init, y.state ≠ .open) (hd : x.dir ≠ d) :
    t.open? d = none := by
  rw [Store.open?, ht, List.find?_eq_none]
  intro y hy hp
  rw [Bool.and_eq_true, decide_eq_true_iff, decide_eq_true_iff] at hp
  rcases List.mem_append.mp hy with hy | hy
  · exact hi y hy hp.2
  · rw [List.mem_singleton.mp hy] at hp
    exact hd hp.1

end Grow

/-! ### A character is stored (R168, R173) -/

section StoreChar

variable {d : Dir} {e : Entry} {c : StationCode} {st : Store}

/-- An entry with one character more. -/
def Entry.longer (e : Entry) : Entry := { e with length := e.length + 1 }

theorem place_shape (d : Dir) (a : Asm) (e : Entry) (c : StationCode) (st : Store) :
    ∃ q a1 b1, st.place d a e c = { st.modify e.number Entry.longer with queue := q, inCell := a1, outCell := b1 } := by
  unfold Store.place
  dsimp only
  split
  · obtain ⟨q, a1, b1, h⟩ := leave_shape d (st.placed d a e c)
    refine ⟨q, a1, b1, Eq.trans h ?_⟩
    cases d <;> rfl
  · cases d <;> exact ⟨_, _, _, rfl⟩

theorem placed_fits {a : Asm} (hl : a.chars.length < 8) (h : st.fitsInv) : (st.placed d a e c).fitsInv := by
  have hset := setAsm_fits (d := d) (a := { a with chars := a.chars ++ [c], changed := true })
    (by rw [List.length_append, List.length_singleton]; omega) h
  exact ⟨hset.1, hset.2.1, fun d1 => by rw [Store.placed, asm_modify]; exact hset.2.2 d1⟩

theorem place_fits {a : Asm} (hl : a.chars.length < 8) (h : st.fitsInv) : (st.place d a e c).fitsInv := by
  rcases Nat.lt_or_ge a.chars.length 7 with hlt | hge
  · rw [place_short hlt]
    exact placed_fits hl h
  · rw [place_last (by omega)]
    exact leave_fits (placed_fits hl h)

/-- What a placed character leaves of the ring, the numbers and the assembly cells, when the cell it goes into belongs to the
newest entry. -/
theorem place_layout {a : Asm} {s0 : Store} {init : List Entry} (hs : s0.dir = init ++ [e])
    (hi : ∀ y ∈ init, y.state ≠ .open) (he : e.dir = d ∧ e.state = .open) (hnumber : s0.numberInv)
    (hdir : st.dir = s0.dir ∧ st.nextNumber = s0.nextNumber) (hring : (st.modify e.number Entry.longer).ringInv)
    (hother : ∀ d1, d1 ≠ d → st.asm d1 = s0.asm d1 ∧ s0.asmInv d1) (ha : a.state = .filling) (han : a.number = e.number)
    (hat : e.length % 8 < 7 → a.target = bodyCell e.header (e.length + 1)) (hac : a.chars.length = e.length % 8) :
    (st.place d a e c).layoutInv := by
  have hst : st.numberInv := by
    obtain ⟨hnodup, hrange, hnext⟩ := hnumber
    exact ⟨hdir.1 ▸ hnodup, hdir.1 ▸ hrange, by rwa [hdir.2]⟩
  have hgrown : (st.modify e.number Entry.longer).dir = init ++ [e.longer] := modify_newest _ hst (hdir.1.trans hs)
  have hgrownNumber : (st.modify e.number Entry.longer).numberInv :=
    numberInv_newest (hdir.1.trans hs) hgrown rfl rfl hst
  have hlast : ∀ y ∈ (st.modify e.number Entry.longer).dir.dropLast, y.state ≠ .open := by
    rw [hgrown, List.dropLast_concat]
    exact hi
  have hnone {t : Store} (ht : t.dir = init ++ [e.longer]) (d1 : Dir) (h1 : d1 ≠ d) : t.open? d1 = none :=
    open?_newest_other ht hi fun hx => h1 (hx.symm.trans he.1)
  have hsnone (d1 : Dir) (h1 : d1 ≠ d) : s0.open? d1 = none :=
    open?_newest_other hs hi fun hx => h1 (hx.symm.trans he.1)
  have hplacedDir : (st.placed d a e c).dir = init ++ [e.longer] := by
    rw [← hgrown, Store.placed, Store.modify_dir, Store.modify_dir]
    cases d <;> rfl
  have hkept (d1 : Dir) (h1 : d1 ≠ d) : (st.placed d a e c).asmInv d1 := by
    obtain ⟨hasm, hfill, -⟩ := hother d1 h1
    have hsame : (st.placed d a e c).asm d1 = s0.asm d1 := by
      rw [Store.placed, asm_modify, setAsm_asm_other _ h1]
      exact hasm
    refine ⟨fun hf => ?_, fun _ x hx => ?_⟩
    · rw [hsame] at hf
      obtain ⟨x, hx, -⟩ := hfill hf
      rw [hsnone d1 h1] at hx
      cases hx
    · rw [hnone hplacedDir d1 h1] at hx
      cases hx
  have hopen : (st.placed d a e c).open? d = some e.longer := open?_newest hplacedDir hi he.1 he.2
  have hring1 : (st.placed d a e c).ringInv := by cases d <;> exact hring
  have hnumber1 : (st.placed d a e c).numberInv := by cases d <;> exact hgrownNumber
  have hlast1 : ∀ y ∈ (st.placed d a e c).dir.dropLast, y.state ≠ .open := by
    rw [hplacedDir, List.dropLast_concat]
    exact hi
  rcases Nat.lt_or_ge a.chars.length 7 with hlt | hge
  · rw [place_short hlt]
    have hasm : (st.placed d a e c).asmInv d := by
      refine ⟨fun _ => ⟨e.longer, hopen, ?_⟩, fun hf => absurd ?_ hf⟩
      · rw [placed_asm]
        refine ⟨han, hat (by omega), ?_, ?_⟩
        · simp
        · simp only [List.length_append, List.length_singleton, Entry.longer]
          omega
      · rw [placed_asm]
        exact ha
    cases d using Dir.eachWay with
    | incoming => exact ⟨hring1, hnumber1, hasm, hkept .out Dir.noConfusion, hlast1⟩
    | outgoing => exact ⟨hring1, hnumber1, hkept .in Dir.noConfusion, hasm, hlast1⟩
  · have h7 : a.chars.length = 7 := by
      have := Nat.mod_lt e.length (show 8 > 0 by decide)
      omega
    rw [place_last h7]
    refine leave_layout (fun x hx => ?_) hring1 hnumber1 hkept hlast1
    rw [hopen] at hx
    obtain rfl := Option.some.inj hx
    show (e.length + 1) % 8 = 0
    omega

theorem longer_cells_begun (h : e.length % 8 ≠ 0) : e.longer.cells = e.cells := by
  simp only [Entry.cells, Entry.longer, bodyCells]
  omega

theorem longer_cells_full (h : e.length % 8 = 0) : e.longer.cells = e.cells + 1 := by
  simp only [Entry.cells, Entry.longer, bodyCells]
  omega

theorem place_kept_layout (he : st.open? d = some e) (h : st.layoutInv) : (st.storeChar d e c).1.layoutInv := by
  obtain ⟨hmem, hdir, ho⟩ := open?_mem he
  obtain ⟨init, hs⟩ := layoutInv_newest h hmem ho
  have hfull := h
  obtain ⟨hring, hnumber, hin, hout, hopen⟩ := h
  have hi : ∀ y ∈ init, y.state ≠ .open := by rwa [hs, List.dropLast_concat] at hopen
  have hasmOf (d1 : Dir) : st.asmInv d1 := match d1 with | .in => hin | .out => hout
  obtain ⟨hfilling, hbegun⟩ := hasmOf d
  cases hstate : (st.asm d).state with
  | waiting =>
    have hblocked : st.storeChar d e c = (st, .blocked) := by simp only [Store.storeChar, hstate]
    rw [hblocked]
    exact hfull
  | filling =>
    obtain ⟨x, hx, hnum, htarget, h1, hlen⟩ := hfilling hstate
    obtain rfl : e = x := Option.some.inj (he.symm.trans hx)
    have hmod := Nat.mod_lt e.length (show 8 > 0 by decide)
    rw [storeChar_goesOn hstate (by omega)]
    have hcells := longer_cells_begun (e := e) (by omega)
    refine place_layout hs hi ⟨hdir, ho⟩ hnumber ⟨rfl, rfl⟩ ?_ (fun d1 _ => ⟨rfl, hasmOf d1⟩) hstate hnum (fun h7 => ?_) hlen
    · refine ringInv_grow hs (modify_newest _ hnumber hs) rfl ⟨rfl, rfl⟩ (congrArg _ hcells) (fun m hm => ?_) hring
      rw [hcells]
      exact hm
    · rw [htarget, bodyCell, bodyCell]
      congr 2
      omega
  | empty =>
    have hzero : e.length % 8 = 0 := hbegun (by rw [hstate]; exact AsmState.noConfusion) e he
    rcases Nat.eq_zero_or_pos st.free with hf | hf
    · rw [storeChar_ringOut hstate hf]
      exact hfull
    · rw [storeChar_begins hstate hf]
      have hcells := longer_cells_full hzero
      obtain ⟨-, -, ⟨m, -, hm, htail⟩, -⟩ := (ringInv_newest hs).mp hring
      refine place_layout (s0 := st) hs hi ⟨hdir, ho⟩ hnumber ⟨rfl, rfl⟩ ?_
        (fun d1 _ => ⟨by cases d1 <;> rfl, hasmOf d1⟩) rfl rfl (fun _ => ?_) hzero.symm
      · have halloc : st.allocate.dir = init ++ [e] := hs
        refine ringInv_grow hs (modify_newest _ (st := st.allocate) hnumber halloc) rfl ⟨rfl, rfl⟩ ?_ (fun m hm => ?_) hring
        · show st.free - 1 + e.longer.cells = st.free + e.cells
          omega
        · show (m + e.longer.cells) % Config.cells = (st.tail + 1) % Config.cells
          rw [← hm, hcells, Nat.mod_add_mod]
          rfl
      · show st.tail = bodyCell e.header (e.length + 1)
        rw [← htail, hm, bodyCell, Entry.cells, bodyCells]
        congr 1
        omega

theorem storeChar_shape (d : Dir) (e : Entry) (c : StationCode) (st : Store) :
    ∃ tl fr q a b dir, (st.storeChar d e c).1 =
      { st with tail := tl, free := fr, queue := q, inCell := a, outCell := b, dir := dir } := by
  unfold Store.storeChar
  split
  · exact ⟨_, _, _, _, _, _, rfl⟩
  · split
    · obtain ⟨q, a, b, h⟩ := place_shape d (st.asm d) e c st
      exact ⟨_, _, _, _, _, _, h⟩
    · exact ⟨_, _, _, _, _, _, rfl⟩
  · split
    · exact ⟨_, _, _, _, _, _, rfl⟩
    · obtain ⟨q, a, b, h⟩ := place_shape d ⟨.filling, e.number, st.tail, [], false⟩ e c st.allocate
      exact ⟨_, _, _, _, _, _, h⟩

theorem storeChar_fits (h : st.fitsInv) : (st.storeChar d e c).1.fitsInv := by
  unfold Store.storeChar
  split
  · exact h
  · split
    next hl => exact place_fits hl h
    · exact h
  · split
    · exact h
    · exact place_fits (st := st.allocate) (Nat.zero_lt_succ 7)
        ⟨h.1, h.2.1, fun d1 => match d1 with | .in => h.2.2 .in | .out => h.2.2 .out⟩

/-- The directory with the entries of the number one character longer, or as it was. -/
theorem storeChar_lengthens (d : Dir) (e : Entry) (c : StationCode) (st : Store) :
    ∃ g : Entry → Entry, (st.storeChar d e c).1.dir = st.dir.map g
      ∧ ∀ x : Entry, (g x).number = x.number ∧ (g x).dir = x.dir ∧ (g x).state = x.state ∧ (x.cursorsOk → (g x).cursorsOk) := by
  rcases storeChar_dir d e c st with h | h
  · exact ⟨id, h.trans (List.map_id _).symm, fun x => ⟨rfl, rfl, rfl, id⟩⟩
  · refine ⟨_, h, fun x => ?_⟩
    split
    · refine ⟨rfl, rfl, rfl, fun ⟨hprint, hpunch, hsent, hdelivered⟩ => ?_⟩
      exact ⟨Nat.le_succ_of_le hprint, Nat.le_succ_of_le hpunch, Nat.le_succ_of_le hsent, Nat.le_succ_of_le hdelivered⟩
    · exact ⟨rfl, rfl, rfl, id⟩

theorem storeChar_kept (he : st.open? d = some e) : st.Kept (st.storeChar d e c).1 := by
  obtain ⟨g, hdir, hg⟩ := storeChar_lengthens d e c st
  have hfits := storeChar_fits (d := d) (e := e) (c := c) (st := st)
  have hlayout := place_kept_layout (c := c) he
  have hqueue := storeChar_bound (d := d) (e := e) (c := c) (st := st)
  obtain ⟨tl, fr, q, a, b, dir, hshape⟩ := storeChar_shape d e c st
  rw [hshape] at hfits hlayout hqueue hdir ⊢
  replace hdir : dir = st.dir.map g := hdir
  refine { fits := hfits, layout := hlayout, queue := hqueue, cursor := fun h x hx => ?_, dir := fun h => ?_,
           openIn := ?_, live := fun n => ?_ }
  · rw [hdir] at hx
    obtain ⟨y, hy, rfl⟩ := List.mem_map.mp hx
    obtain ⟨-, -, -, hok⟩ := hg y
    exact hok (h y hy)
  · show dir.length ≤ 64
    rwa [hdir, List.length_map]
  · rintro ⟨x, hx, hin, ho⟩
    rw [hdir] at hx
    obtain ⟨y, hy, rfl⟩ := List.mem_map.mp hx
    obtain ⟨-, hyd, hys, -⟩ := hg y
    exact ⟨y, hy, hyd ▸ hin, hys ▸ ho⟩
  · rintro ⟨y, hy, hn, hs⟩
    obtain ⟨hyn, -, hys, -⟩ := hg y
    refine ⟨g y, ?_, hyn.trans hn, hys ▸ hs⟩
    rw [hdir]
    exact List.mem_map_of_mem hy

end StoreChar

end Sys2Proof.Machine
end


section
/-! SUPPORT. A release, an opening and a close keep the store (R172, R174, R178, R180). -/

-- One theorem after another: the check elaborates the whole text at once, where too many threads would wait for the kernel.
set_option Elab.async false

namespace Sys2Proof.Machine

/-! ### A release (R178, R180) -/

section Release

variable {st : Store} {n : Nat}

/-- A released entry. -/
def Entry.freed (e : Entry) : Entry := { e with state := .released, headerDue := true }

theorem reclaim_shape (k : Nat) (st : Store) :
    ∃ hd fr dir q, Store.reclaim k st = { st with head := hd, free := fr, dir := dir, queue := q } := by
  induction k generalizing st with
  | zero => exact ⟨_, _, _, _, rfl⟩
  | succ k ih =>
    unfold Store.reclaim
    split
    · exact ⟨_, _, _, _, rfl⟩
    · split
      next e rest _ _ =>
        obtain ⟨hd, fr, dir, q, h⟩ := ih (st.freeOldest e rest)
        exact ⟨hd, fr, dir, q, h⟩
      · exact ⟨_, _, _, _, rfl⟩

theorem release_shape (n : Nat) (st : Store) :
    ∃ hd fr dir q, st.release n = { st with head := hd, free := fr, dir := dir, queue := q } := by
  obtain ⟨hd, fr, dir, q, h⟩ := reclaim_shape (st.modify n Entry.freed).dir.length (st.modify n Entry.freed)
  exact ⟨hd, fr, dir, q, h⟩

theorem release_dir (n : Nat) (st : Store) :
    (st.release n).dir = (st.dir.map (entryAt n Entry.freed)).dropWhile Entry.isReleased :=
  (reclaim_reclaimed (st := st.modify n Entry.freed) (Nat.le_refl _)).dir

theorem release_queue (n : Nat) (st : Store) : (st.release n).queue.Sublist st.queue :=
  (reclaim_frame (st.modify n Entry.freed).dir.length (st.modify n Entry.freed)).2.1

theorem entryAt_freed_number (x : Entry) : (entryAt n Entry.freed x).number = x.number := by
  unfold entryAt
  split <;> rfl

theorem entryAt_freed_open {x : Entry} (h : (entryAt n Entry.freed x).state = .open) : entryAt n Entry.freed x = x := by
  unfold entryAt at h ⊢
  split
  next hx => rw [if_pos hx] at h; cases h
  next => rfl

theorem find?_dropWhile {α : Type} {p q : α → Bool} (h : ∀ x, q x = true → p x = false) (l : List α) :
    (l.dropWhile q).find? p = l.find? p := by
  induction l with
  | nil => rfl
  | cons x rest ih =>
    cases hq : q x with
    | true => rw [List.dropWhile_cons_of_pos hq, ih, List.find?_cons_of_neg (by rw [h x hq]; exact Bool.false_ne_true)]
    | false => rw [List.dropWhile_cons_of_neg (by rw [hq]; exact Bool.false_ne_true)]

/-- No entry of the number is OPEN. -/
def Store.NotOpen (st : Store) (n : Nat) : Prop := ∀ e ∈ st.dir, e.number = n → e.state ≠ .open

theorem release_open? (hn : st.NotOpen n) (d : Dir) : (st.release n).open? d = st.open? d := by
  rw [Store.open?, Store.open?, release_dir, find?_dropWhile fun x hx => ?_]
  · have hstands (l : List Entry) (hl : ∀ e ∈ l, e.number = n → e.state ≠ .open) :
        (l.map (entryAt n Entry.freed)).find? (fun e => decide (e.dir = d) && decide (e.state = .open)) =
          l.find? fun e => decide (e.dir = d) && decide (e.state = .open) := by
      induction l with
      | nil => rfl
      | cons x rest ih =>
        have hrest := ih fun e he => hl e (List.mem_cons_of_mem _ he)
        by_cases hx : x.number = n
        · have hno := hl x List.mem_cons_self hx
          rw [List.map_cons, List.find?_cons_of_neg (by simp [entryAt, hx, Entry.freed]),
            List.find?_cons_of_neg (by simp [hno]), hrest]
        · have hsame : entryAt n Entry.freed x = x := if_neg hx
          rw [List.map_cons, hsame, List.find?_cons, List.find?_cons, hrest]
    exact hstands st.dir hn
  · have hreleased : x.state = .released := of_decide_eq_true hx
    rw [hreleased]
    simp

theorem release_layout (hn : st.NotOpen n) (h : st.layoutInv) : (st.release n).layoutInv := by
  obtain ⟨hring, hnumber, hin, hout, hopen⟩ := h
  have hring1 := release_ringInv (n := n) hring
  have hopen? := release_open? hn
  have hdir := release_dir n st
  obtain ⟨hd, fr, dir, q, hshape⟩ := release_shape n st
  have hasm (d : Dir) (hd : st.asmInv d) : (st.release n).asmInv d := by
    have hsame : (st.release n).asm d = st.asm d := by rw [hshape]; cases d <;> rfl
    unfold Store.asmInv
    rw [hsame, hopen? d]
    exact hd
  have hsuffix : (st.release n).dir <:+ st.dir.map (entryAt n Entry.freed) := hdir ▸ List.dropWhile_suffix _
  refine ⟨hring1, ?_, hasm .in hin, hasm .out hout, fun x hx ho => ?_⟩
  · obtain ⟨hnodup, hrange, hnext⟩ := hnumber
    have hnumbers : (st.dir.map (entryAt n Entry.freed)).map Entry.number = st.dir.map Entry.number := by
      rw [List.map_map]
      exact List.map_congr_left fun x _ => entryAt_freed_number x
    refine ⟨?_, fun x hx => ?_, by rw [hshape]; exact hnext⟩
    · exact (hsuffix.sublist.map Entry.number).nodup (hnumbers ▸ hnodup)
    · obtain ⟨y, hy, rfl⟩ := List.mem_map.mp (hsuffix.subset hx)
      rw [entryAt_freed_number]
      exact hrange y hy
  · obtain ⟨before, hbefore⟩ := hsuffix
    have hne : (st.release n).dir ≠ [] := List.ne_nil_of_mem (List.dropLast_subset _ hx)
    have hlast : (st.dir.map (entryAt n Entry.freed)).dropLast = before ++ (st.release n).dir.dropLast := by
      rw [← hbefore, List.dropLast_append_of_ne_nil hne]
    have hmem : x ∈ (st.dir.map (entryAt n Entry.freed)).dropLast := by
      rw [hlast]
      exact List.mem_append_right _ hx
    rw [← List.map_dropLast] at hmem
    obtain ⟨y, hy, rfl⟩ := List.mem_map.mp hmem
    rw [entryAt_freed_open ho] at ho
    exact hopen y hy ho

theorem release_sound (hn : st.layoutInv → st.NotOpen n) : st.Sound (st.release n) := by
  have hlayout : st.layoutInv → (st.release n).layoutInv := fun h => release_layout (hn h) h
  have hcursor := release_cursors (n := n) (st := st)
  have hqueue := release_queue n st
  have hdir := release_dir n st
  obtain ⟨hd, fr, dir, q, hshape⟩ := release_shape n st
  rw [hshape] at hlayout hcursor hqueue hdir ⊢
  replace hdir : dir = (st.dir.map (entryAt n Entry.freed)).dropWhile Entry.isReleased := hdir
  refine { layout := hlayout, cursor := hcursor, queue := fun h => Nat.le_trans hqueue.length_le h, dir := fun h => ?_,
           fits := fun ⟨hwrites, haccess, hasm⟩ => ⟨fun w hw => hwrites w (hqueue.subset hw), haccess, fun d => ?_⟩ }
  · cases d
    · exact hasm .in
    · exact hasm .out
  · show dir.length ≤ 64
    rw [hdir]
    exact Nat.le_trans (List.dropWhile_suffix _).length_le (by rwa [List.length_map])

theorem release_openIn : (st.release n).OpenIn → st.OpenIn := by
  rintro ⟨x, hx, hin, ho⟩
  rw [release_dir] at hx
  obtain ⟨y, hy, rfl⟩ := List.mem_map.mp ((List.dropWhile_suffix _).subset hx)
  rw [entryAt_freed_open ho] at hin ho
  exact ⟨y, hy, hin, ho⟩

theorem mem_dropWhile_of_not {α : Type} {p : α → Bool} {l : List α} {x : α} (hx : x ∈ l) (h : p x = false) :
    x ∈ l.dropWhile p := by
  rw [← List.takeWhile_append_dropWhile (p := p) (l := l), List.mem_append] at hx
  rcases hx with hx | hx
  · rw [List.all_eq_true.mp List.all_takeWhile x hx] at h
    cases h
  · exact hx

theorem release_live {k : Nat} (hk : k ≠ n) (h : st.Live k) : (st.release n).Live k := by
  obtain ⟨e, he, hnum, hs⟩ := h
  have hsame : entryAt n Entry.freed e = e := if_neg (hnum ▸ hk)
  refine ⟨e, ?_, hnum, hs⟩
  rw [release_dir]
  exact mem_dropWhile_of_not (hsame ▸ List.mem_map_of_mem he) (decide_eq_false hs)

end Release

/-! ### An opening (R172) -/

section Open

variable {st : Store} {d : Dir} {rate : Option Rate} {q : Nat}

theorem openEntry_layout (hlen : st.dir.length < 64) (hfree : 1 ≤ st.free) (hclosed : ∀ e ∈ st.dir, e.state ≠ .open)
    (h : st.layoutInv) : (st.openEntry d rate q).1.layoutInv := by
  obtain ⟨hring, ⟨hnodup, hrange, hnext1, hnext2⟩, hin, hout, -⟩ := h
  obtain ⟨e, hdir, hnumber, hd, ho, hheader, hlength, -⟩ := openEntry_dir d rate q st
  have hfresh : 1 ≤ e.number ∧ e.number ≤ 65535 := by
    rw [hnumber]
    exact freshNumber_range 65 hnext1 hnext2
  have hasm (d1 : Dir) (h1 : st.asmInv d1) : (st.openEntry d rate q).1.asmInv d1 := by
    have hsame : (st.openEntry d rate q).1.asm d1 = st.asm d1 := by cases d1 <;> rfl
    obtain ⟨hfill, -⟩ := h1
    refine ⟨fun hf => ?_, fun _ x hx => ?_⟩
    · rw [hsame] at hf
      obtain ⟨x, hx, -⟩ := hfill hf
      rw [open?_eq_none_of_closed hclosed d1] at hx
      cases hx
    · by_cases h2 : d = d1
      · rw [open?_newest hdir hclosed (hd.trans h2) ho] at hx
        rw [← Option.some.inj hx, hlength]
      · rw [open?_newest_other hdir hclosed (by rwa [hd])] at hx
        cases hx
  refine ⟨openEntry_ringInv hfree hring, ⟨?_, fun x hx => ?_,
      succNumber_range (Nat.le_trans hfresh.1 (Nat.le_of_eq hnumber))⟩, hasm .in hin, hasm .out hout, fun x hx => ?_⟩
  · rw [hdir, List.map_append, List.map_singleton, List.nodup_append]
    refine ⟨hnodup, List.pairwise_singleton _ _, fun k hk m hm hkm => ?_⟩
    obtain ⟨x, hx, rfl⟩ := List.mem_map.mp hk
    rw [List.mem_singleton] at hm
    exact openEntry_number_free hlen x hx (hkm.trans (hm.trans hnumber))
  · rw [hdir] at hx
    rcases List.mem_append.mp hx with hx | hx
    · exact hrange x hx
    · rwa [List.mem_singleton.mp hx]
  · rw [hdir, List.dropLast_concat] at hx
    exact hclosed x hx

theorem openEntry_cursor (h : st.cursorInv) : (st.openEntry d rate q).1.cursorInv := by
  obtain ⟨e, hdir, -, -, -, -, -, hok⟩ := openEntry_dir d rate q st
  intro x hx
  rw [hdir] at hx
  rcases List.mem_append.mp hx with hx | hx
  · exact h x hx
  · rwa [List.mem_singleton.mp hx]

theorem openEntry_dir_length : (st.openEntry d rate q).1.dir.length = st.dir.length + 1 := by
  obtain ⟨e, hdir, -⟩ := openEntry_dir d rate q st
  rw [hdir, List.length_append, List.length_singleton]

theorem openEntry_fits (h : st.fitsInv) : (st.openEntry d rate q).1.fitsInv := by
  obtain ⟨hqueue, haccess, hasm⟩ := h
  refine ⟨hqueue, haccess, fun d => ?_⟩
  cases d
  · exact hasm .in
  · exact hasm .out

theorem openEntry_live {n : Nat} (h : st.Live n ∨ n = (st.openEntry d rate q).2) : (st.openEntry d rate q).1.Live n := by
  obtain ⟨e, hdir, hnumber, -, ho, -⟩ := openEntry_dir d rate q st
  rcases h with ⟨x, hx, hn, hs⟩ | rfl
  · exact ⟨x, hdir ▸ List.mem_append_left _ hx, hn, hs⟩
  · exact ⟨e, by rw [hdir]; simp, hnumber, by rw [ho]; exact MsgState.noConfusion⟩

theorem openEntry_openIn_out (h : (st.openEntry .out rate q).1.OpenIn) : st.OpenIn := by
  obtain ⟨e, hdir, -, hd, -⟩ := openEntry_dir .out rate q st
  obtain ⟨x, hx, hin, ho⟩ := h
  rw [hdir] at hx
  rcases List.mem_append.mp hx with hx | hx
  · exact ⟨x, hx, hin, ho⟩
  · rw [List.mem_singleton.mp hx, hd] at hin
    cases hin

end Open

/-! ### A close (R174) -/

section Close

variable {st : Store} {e : Entry} {f : MsgFlags}

/-- A closed entry. -/
def Entry.closed (f : MsgFlags) (e : Entry) : Entry := { e with state := .closed, flags := f, headerDue := true }

/-- The store as a close leaves it: the entry CLOSED, its last cell staged. -/
def Store.closedWith (e : Entry) (f : MsgFlags) (st : Store) : Store :=
  (st.modify e.number (Entry.closed f)).closeAsm e.dir

theorem closeAsm_shape (d : Dir) (st : Store) :
    ∃ q a b, st.closeAsm d = { st with queue := q, inCell := a, outCell := b } := by
  unfold Store.closeAsm
  split
  · split
    · exact leave_shape d st
    · cases d <;> exact ⟨_, _, _, rfl⟩
  · exact ⟨_, _, _, rfl⟩

theorem closeAsm_fits (d : Dir) (h : st.fitsInv) : (st.closeAsm d).fitsInv := by
  unfold Store.closeAsm
  split
  · split
    · exact leave_fits h
    · exact setAsm_fits (Nat.zero_le 8) h
  · exact h

theorem closeAsm_bound (d : Dir) (h : st.queue.length ≤ 4) : (st.closeAsm d).queue.length ≤ 4 := by
  unfold Store.closeAsm
  split
  · split
    · exact leave_bound h
    · cases d <;> exact h
  · exact h

theorem closeAsm_asm (d : Dir) (st : Store) : ((st.closeAsm d).asm d).state ≠ .filling := by
  unfold Store.closeAsm
  split
  · split
    · exact leave_asm d st
    · rw [asm_setAsm]
      exact AsmState.noConfusion
  next h => exact h

theorem closeAsm_asm_other {d d1 : Dir} (h : d1 ≠ d) (st : Store) : (st.closeAsm d).asm d1 = st.asm d1 := by
  unfold Store.closeAsm
  split
  · split
    · exact leave_asm_other st h
    · exact setAsm_asm_other st h _
  · rfl

theorem entryAt_closed_number {n : Nat} (x : Entry) : (entryAt n (Entry.closed f) x).number = x.number := by
  unfold entryAt
  split <;> rfl

theorem entryAt_closed_open {n : Nat} {x : Entry} (h : (entryAt n (Entry.closed f) x).state = .open) :
    entryAt n (Entry.closed f) x = x ∧ x.number ≠ n := by
  unfold entryAt at h ⊢
  split
  next hx => rw [if_pos hx] at h; cases h
  next hx => exact ⟨rfl, hx⟩

theorem closedWith_dir (e : Entry) (f : MsgFlags) (st : Store) :
    (st.closedWith e f).dir = st.dir.map (entryAt e.number (Entry.closed f)) := by
  obtain ⟨q, a, b, h⟩ := closeAsm_shape e.dir (st.modify e.number (Entry.closed f))
  rw [Store.closedWith, h]
  rfl

/-- After the close of the OPEN entry none is OPEN (R172). -/
theorem closedWith_none_open (h : st.layoutInv) (he : e ∈ st.dir) (ho : e.state = .open) :
    ∀ x ∈ (st.closedWith e f).dir, x.state ≠ .open := by
  intro x hx hxo
  rw [closedWith_dir] at hx
  obtain ⟨y, hy, rfl⟩ := List.mem_map.mp hx
  obtain ⟨hsame, hne⟩ := entryAt_closed_open hxo
  rw [hsame] at hxo
  exact hne (congrArg Entry.number (layoutInv_only h he ho hy hxo))

theorem closedWith_layout (he : e ∈ st.dir) (ho : e.state = .open) (h : st.layoutInv) : (st.closedWith e f).layoutInv := by
  have hclosed := closedWith_none_open (f := f) h he ho
  have hdir := closedWith_dir e f st
  have hnone (d : Dir) : (st.closedWith e f).open? d = none := open?_eq_none_of_closed hclosed d
  have hother (d : Dir) (hd : d ≠ e.dir) : st.open? d = none := by
    have hopen? : st.open? e.dir = some e := by
      obtain ⟨init, hs⟩ := layoutInv_newest h he ho
      obtain ⟨-, -, -, -, hinit⟩ := h
      rw [hs, List.dropLast_concat] at hinit
      exact open?_newest hs hinit rfl ho
    exact open?_eq_none_of_other h hopen? hd
  obtain ⟨⟨hfree, hhead, hlaid, holdest⟩, ⟨hnodup, hrange, hnext⟩, hin, hout, -⟩ := h
  have hasm (d : Dir) (h1 : st.asmInv d) : (st.closedWith e f).asmInv d := by
    refine ⟨fun hf => ?_, fun _ x hx => ?_⟩
    · by_cases hd : d = e.dir
      · rw [hd] at hf
        exact absurd hf (closeAsm_asm e.dir _)
      · rw [Store.closedWith, closeAsm_asm_other hd, asm_modify] at hf
        obtain ⟨x, hx, -⟩ := h1.1 hf
        rw [hother d hd] at hx
        cases hx
    · rw [hnone d] at hx
      cases hx
  have hring : (st.modify e.number (Entry.closed f)).ringKept :=
    modify_ringKept (f := Entry.closed f) (fun _ => ⟨rfl, rfl⟩) ⟨hfree, hhead, hlaid⟩
  have hinAsm := hasm .in hin
  have houtAsm := hasm .out hout
  obtain ⟨q, a, b, hshape⟩ := closeAsm_shape e.dir (st.modify e.number (Entry.closed f))
  change st.closedWith e f = _ at hshape
  rw [hshape] at hclosed hinAsm houtAsm ⊢
  refine ⟨⟨hring.1, hring.2.1, hring.2.2, fun x hx => ?_⟩, ⟨?_, fun x hx => ?_, hnext⟩, hinAsm, houtAsm,
    fun x hx => hclosed x (List.dropLast_subset _ hx)⟩
  · change (st.dir.map (entryAt e.number (Entry.closed f))).head? = some x at hx
    rw [List.head?_map, Option.map_eq_some_iff] at hx
    obtain ⟨y, hy, rfl⟩ := hx
    unfold entryAt
    split
    · exact MsgState.noConfusion
    · exact holdest y hy
  · show ((st.dir.map (entryAt e.number (Entry.closed f))).map Entry.number).Nodup
    rw [List.map_map]
    rwa [List.map_congr_left fun x _ =>
      show (Entry.number ∘ entryAt e.number (Entry.closed f)) x = x.number from entryAt_closed_number x]
  · obtain ⟨y, hy, rfl⟩ := List.mem_map.mp hx
    exact (entryAt_closed_number (f := f) (n := e.number) y).symm ▸ hrange y hy

theorem closedWith_kept (he : e ∈ st.dir) (ho : e.state = .open) : st.Kept (st.closedWith e f) := by
  have hlayout := closedWith_layout (f := f) he ho
  have hfits : st.fitsInv → (st.closedWith e f).fitsInv := fun h =>
    closeAsm_fits e.dir ⟨h.1, h.2.1, fun d => by rw [asm_modify]; exact h.2.2 d⟩
  have hqueue : st.queue.length ≤ 4 → (st.closedWith e f).queue.length ≤ 4 := fun h => closeAsm_bound e.dir h
  obtain ⟨q, a, b, hshape⟩ := closeAsm_shape e.dir (st.modify e.number (Entry.closed f))
  change st.closedWith e f = _ at hshape
  rw [hshape] at hlayout hfits hqueue ⊢
  refine { layout := hlayout, fits := hfits, queue := hqueue, cursor := fun h x hx => ?_, dir := fun h => ?_,
           openIn := ?_, live := fun n => ?_ }
  · exact modify_cursors (n := e.number) (f := Entry.closed f) h (fun _ hy => hy) x hx
  · show (st.dir.map _).length ≤ 64
    rwa [List.length_map]
  · rintro ⟨x, hx, hin, hxo⟩
    obtain ⟨y, hy, rfl⟩ := List.mem_map.mp hx
    obtain ⟨hsame, -⟩ := entryAt_closed_open (n := e.number) (f := f) hxo
    change entryAt e.number (Entry.closed f) y = y at hsame
    change (entryAt e.number (Entry.closed f) y).dir = .in at hin
    change (entryAt e.number (Entry.closed f) y).state = .open at hxo
    rw [hsame] at hin hxo
    exact ⟨y, hy, hin, hxo⟩
  · rintro ⟨y, hy, hn, hs⟩
    refine ⟨_, List.mem_map_of_mem hy, (entryAt_closed_number (f := f) (n := e.number) y).trans hn, ?_⟩
    show (entryAt e.number (Entry.closed f) y).state ≠ .released
    unfold entryAt
    split
    · exact MsgState.noConfusion
    · exact hs

end Close

end Sys2Proof.Machine
end


section
/-! SUPPORT. What a change of the state keeps: every invariant of the part in one relation, and the change of one block. -/

-- One theorem after another: the check elaborates the whole text at once, where too many threads would wait for the kernel.
set_option Elab.async false

namespace Sys2Proof.Machine

/-! ### The invariants, block by block -/

/-- The keyboard's lists and counts are within their capacities (R81, R82, R89, R91). -/
def Keyboard.cap (k : Keyboard) : Prop :=
  k.list.length ≤ 4 ∧ k.buffer.length ≤ 32 ∧ k.count ≤ 72 ∧ (∀ n ∈ k.agree.toList, n ≤ 2) ∧ k.pos < 64

/-- The printer's queue, jobs and motor-off timer are within their capacities (R98, R107, R111). -/
def Printer.cap (p : Printer) : Prop := p.queue.length ≤ 64 ∧ p.jobs.length ≤ 4 ∧ p.offTicks < 640

/-- The punch's queue and chain are within their capacities, with room for the read that is outstanding (R122, R125, R127). -/
def Punch.cap (st : Store) (p : Punch) : Prop :=
  p.chain.length ≤ 8 ∧ p.queue.length ≤ 32 ∧ (st.punchRead.isSome = true → p.queue.length ≤ 24 ∧ p.chain ≠ [])

/-- The strings are within their capacities (R11, R13). -/
def Converter.cap (cv : Converter) : Prop := cv.answerback.length ≤ 20 ∧ cv.eom.length ≤ 8

/-- The messages that the printer names (R178). -/
def Printer.Names (p : Printer) (n : Nat) : Prop :=
  (∃ j ∈ p.jobs, j.number = n) ∨ p.tracked = some n ∨ p.catchUp = some n

/-- The messages that the punch names (R178). -/
def Punch.Names (p : Punch) (n : Nat) : Prop := ∃ j ∈ p.chain, j.number = n

/-- The message that a RUNNING or PAUSED playback names (R178). -/
def Play.Names (p : Play) (n : Nat) : Prop := (p.state = .running ∨ p.state = .paused) ∧ p.number = n

/-- The names of R178, block by block. -/
theorem named_blocks (s : State) (n : Nat) :
    s.named n = true ↔ s.pr.Names n ∨ s.pu.Names n ∨ s.call.play.Names n ∨ s.store.Hosts n := by
  rw [named_iff]
  constructor
  · rintro (h | h | h | h | h | h)
    · exact .inl (.inl h)
    · exact .inr (.inl h)
    · exact .inl (.inr (.inl h))
    · exact .inl (.inr (.inr h))
    · exact .inr (.inr (.inl h))
    · exact .inr (.inr (.inr h))
  · rintro ((h | h | h) | h | h | h)
    · exact .inl h
    · exact .inr (.inr (.inl h))
    · exact .inr (.inr (.inr (.inl h)))
    · exact .inr (.inl h)
    · exact .inr (.inr (.inr (.inr (.inl h))))
    · exact .inr (.inr (.inr (.inr (.inr h))))

/-- An IN entry is OPEN only in CONNECTED (R172). -/
def State.openInv (s : State) : Prop := s.store.OpenIn → s.call.state = .connected

theorem storeInv_iff (s : State) : s.storeInv ↔ s.store.layoutInv ∧ s.openInv :=
  and_congr_right fun _ => ⟨fun h ⟨e, he, hin, ho⟩ => h e he hin ho, fun h e he hin ho => h ⟨e, he, hin, ho⟩⟩

/-! ### The relation -/

/-- What a step and each of its parts keep. -/
structure Holds (s t : State) : Prop where
  call : s.callInv → t.callInv := by exact id
  rx : s.rx.inv → t.rx.inv := by exact id
  reports : s.link.reportsInv → t.link.reportsInv := by exact id
  holding : s.link.holding.length ≤ 2 → t.link.holding.length ≤ 2 := by exact id
  mem : Memory.wf s.mem = true ∧ s.store.fitsInv → Memory.wf t.mem = true ∧ t.store.fitsInv := by exact id
  cursor : s.store.cursorInv → t.store.cursorInv := by exact id
  queue : s.store.queue.length ≤ 4 → t.store.queue.length ≤ 4 := by exact id
  dir : s.store.dir.length ≤ 64 → t.store.dir.length ≤ 64 := by exact id
  debt : s.store.debt ≤ 8 → t.store.debt ≤ 8 := by exact id
  layout : s.store.layoutInv → t.store.layoutInv := by exact id
  text : s.router.linkText.length ≤ 64 → t.router.linkText.length ≤ 64 := by exact id
  kb : s.kb.cap → t.kb.cap := by exact id
  pr : s.pr.cap → t.pr.cap := by exact id
  pu : s.pu.cap s.store → t.pu.cap t.store := by exact id
  conv : s.conv.cap → t.conv.cap := by exact id
  ring : s.call.ringCount ≤ 16 → t.call.ringCount ≤ 16 := by exact id
  named : s.callInv → s.store.layoutInv → s.namedInv → t.namedInv := by exact fun _ _ => id

/-- What a step keeps. -/
structure Keeps (s t : State) : Prop extends Holds s t where
  openIn : s.callInv → s.store.layoutInv → s.openInv → t.openInv := by exact fun _ _ => id

theorem Holds.trans {s t u : State} (h : Holds s t) (k : Holds t u) : Holds s u where
  call x := k.call (h.call x)
  rx x := k.rx (h.rx x)
  reports x := k.reports (h.reports x)
  holding x := k.holding (h.holding x)
  mem x := k.mem (h.mem x)
  cursor x := k.cursor (h.cursor x)
  queue x := k.queue (h.queue x)
  dir x := k.dir (h.dir x)
  debt x := k.debt (h.debt x)
  layout x := k.layout (h.layout x)
  text x := k.text (h.text x)
  kb x := k.kb (h.kb x)
  pr x := k.pr (h.pr x)
  pu x := k.pu (h.pu x)
  conv x := k.conv (h.conv x)
  ring x := k.ring (h.ring x)
  named c l x := k.named (h.call c) (h.layout l) (h.named c l x)

namespace Keeps

variable {s t u : State}

theorem refl (s : State) : Keeps s s where

theorem trans (h : Keeps s t) (k : Keeps t u) : Keeps s u where
  toHolds := h.toHolds.trans k.toHolds
  openIn c l x := k.openIn (h.call c) (h.layout l) (h.openIn c l x)

/-! ### The change of one block -/

variable (s)

theorem ofStore {st : Store} (h : s.store.Kept st) : Keeps s { s with store := st } where
  mem x := ⟨x.1, h.fits x.2⟩
  cursor := h.cursor
  queue := h.queue
  dir := h.dir
  debt := h.debt
  layout := h.layout
  pu x := ⟨x.1, x.2.1, fun hp => x.2.2 (h.punch hp)⟩
  named _ _ x n hn := by
    refine h.live n (x n ?_)
    rw [named_blocks] at hn ⊢
    exact hn.imp_right (Or.imp_right (Or.imp_right (h.host n)))
  openIn _ _ x ho := x (h.openIn ho)

theorem ofPr {p : Printer} (hcap : s.pr.cap → p.cap := by exact id)
    (hn : s.namedInv → ∀ n, p.Names n → s.pr.Names n ∨ s.store.Live n := by exact fun _ _ => Or.inl) :
    Keeps s { s with pr := p } where
  pr := hcap
  named _ _ x n hx := by
    rw [named_blocks] at hx
    rcases hx with hx | hx
    · rcases hn x n hx with h | h
      · exact x n ((named_blocks s n).mpr (.inl h))
      · exact h
    · exact x n ((named_blocks s n).mpr (.inr hx))

theorem ofPu {p : Punch} (hcap : s.pu.cap s.store → p.cap s.store := by exact id)
    (hn : ∀ n, p.Names n → s.pu.Names n ∨ s.store.Live n := by exact fun _ => Or.inl) :
    Keeps s { s with pu := p } where
  pu := hcap
  named _ _ x n hx := by
    rw [named_blocks] at hx
    rcases hx with hx | hx | hx
    · exact x n ((named_blocks s n).mpr (.inl hx))
    · rcases hn n hx with h | h
      · exact x n ((named_blocks s n).mpr (.inr (.inl h)))
      · exact h
    · exact x n ((named_blocks s n).mpr (.inr (.inr hx)))

theorem ofPlay {p : Play} (hn : s.namedInv → ∀ n, p.Names n → s.call.play.Names n ∨ s.store.Live n := by exact fun _ _ => Or.inl) :
    Keeps s { s with call := { s.call with play := p } } where
  named _ _ x n hx := by
    rw [named_blocks] at hx
    rcases hx with hx | hx | hx | hx
    · exact x n ((named_blocks s n).mpr (.inl hx))
    · exact x n ((named_blocks s n).mpr (.inr (.inl hx)))
    · rcases hn x n hx with h | h
      · exact x n ((named_blocks s n).mpr (.inr (.inr (.inl h))))
      · exact h
    · exact x n ((named_blocks s n).mpr (.inr (.inr (.inr hx))))

/-- A change of the call controller that names no other message. -/
theorem ofCall {c : CallCtl} (hcall : s.callInv → ({ s with call := c } : State).callInv := by exact id)
    (hring : s.call.ringCount ≤ 16 → c.ringCount ≤ 16 := by exact id)
    (hplay : ∀ n, c.play.Names n → s.call.play.Names n := by exact fun _ => id)
    (hopen : s.callInv → s.openInv → ({ s with call := c } : State).openInv := by exact fun _ => id) :
    Keeps s { s with call := c } where
  call := hcall
  ring := hring
  named _ _ x n hx := by
    rw [named_blocks] at hx
    exact x n ((named_blocks s n).mpr (hx.imp_right (Or.imp_right (Or.imp_left (hplay n)))))
  openIn x _ := hopen x

theorem ofKb {k : Keyboard} (hcap : s.kb.cap → k.cap := by exact id) : Keeps s { s with kb := k } :=
  { kb := hcap }

theorem ofConv {cv : Converter} (hcap : s.conv.cap → cv.cap := by exact id) : Keeps s { s with conv := cv } :=
  { conv := hcap }

theorem ofRx {r : Receiver} (hinv : s.rx.inv → r.inv := by exact id) : Keeps s { s with rx := r } :=
  { rx := hinv }

theorem ofTx {x : Transmitter} (hclear : x.signal.isClear = true → s.tx.signal.isClear = true := by exact id) :
    Keeps s { s with tx := x } where
  call h := by
    obtain ⟨hloop, hactive, hwait, hwake, hsignal⟩ := h
    exact ⟨hloop, hactive, hwait, hwake, fun hx => hsignal (hclear hx)⟩

theorem ofAgr {a : Agreement} (hactive : a.active = true → s.agr.active = true := by exact id) :
    Keeps s { s with agr := a } where
  call h := by
    obtain ⟨hloop, hact, hwait, hwake, hsignal⟩ := h
    exact ⟨hloop, fun hx => hact (hactive hx), hwait, hwake, hsignal⟩

theorem ofRouter {r : Router} (htext : s.router.linkText.length ≤ 64 → r.linkText.length ≤ 64 := by exact id) :
    Keeps s { s with router := r } :=
  { text := htext }

theorem ofLink {l : Link} (hreports : s.link.reportsInv → l.reportsInv := by exact id)
    (hholding : s.link.holding.length ≤ 2 → l.holding.length ≤ 2 := by exact id) : Keeps s { s with link := l } :=
  { reports := hreports, holding := hholding }

theorem ofPins (p : Pins) : Keeps s { s with pins := p } := {}

theorem ofLatches (l : Latches) : Keeps s { s with latches := l } := {}

end Keeps

end Sys2Proof.Machine
end


section
/-! SUPPORT. Reports, replies, timers, releases and cursors keep the invariants. -/

-- One theorem after another: the check elaborates the whole text at once, where too many threads would wait for the kernel.
set_option Elab.async false

namespace Sys2Proof.Machine

/-! ### Reports, replies and the requests' answers (R184, R186) -/

section Link

variable (s : State)

theorem raise_keeps (r : Report) : Keeps s (raise r s) := by
  obtain ⟨-, hholding, -⟩ := raise_link r s
  exact { reports := raise_inv r, holding := fun h => hholding.symm ▸ h }

theorem kick_holding (l : Link) : l.kick.holding = l.holding := by
  rcases kick_cases l with h | ⟨-, f, rest, -, h⟩ | ⟨-, -, -, r, -, h⟩ <;> rw [h]

theorem kick_keeps : Keeps s { s with link := s.link.kick } :=
  Keeps.ofLink s (fun h => kick_inv ((reportsInv_iff _).mp h).1) fun h => (kick_holding _).symm ▸ h

theorem reject_holding (why : RejectReason) (k : Byte) (n : Nat) (l : Link) : (l.reject why k n).holding = l.holding := by
  unfold Link.reject
  split <;> rfl

theorem reject_reports (why : RejectReason) (k : Byte) (n : Nat) (l : Link) : (l.reject why k n).reports = l.reports := by
  unfold Link.reject
  split <;> rfl

theorem overrunStep_holding (l : Link) : l.overrunStep.holding = l.holding := by
  unfold Link.overrunStep
  split
  · rfl
  · split
    · exact reject_holding ..
    · rfl

theorem reply_keeps (k : Byte) (a : Answer) : Keeps s (reply k a s) := by
  refine Keeps.ofLink s (fun h => reply_inv k a ((reportsInv_iff _).mp h).1) fun h => ?_
  rw [Link.answer, kick_holding, overrunStep_holding]
  rw [List.length_tail]
  exact Nat.le_trans (Nat.sub_le _ 1) h

theorem useFree_keeps : Keeps s (useFree s) := {}

theorem readLoop_keeps (present : Bool) : Keeps s (readLoop present s) := {}

theorem touchStandby_keeps : Keeps s (touchStandby s) := by
  unfold touchStandby
  split
  · exact Keeps.ofCall s
  · exact .refl s

theorem touchIdleClear_keeps : Keeps s (touchIdleClear s) := by
  unfold touchIdleClear
  split
  · exact Keeps.ofCall s
  · exact .refl s

theorem ringBell_keeps : Keeps s (ringBell s) := Keeps.ofPr s

theorem takes?_keeps {s s0 : State} {kind : Byte} {body : List Byte} (h : s.takes? kind body = some s0) : Keeps s s0 := by
  unfold State.takes? at h
  split at h
  · split at h
    · obtain rfl := Option.some.inj h
      exact .refl s
    · cases h
  · split at h
    · obtain rfl := Option.some.inj h
      exact Keeps.ofLink s id fun _ => Nat.le_succ 1
    · cases h

end Link

/-- A request is taken: what its act keeps when the body fits, the request keeps. -/
theorem accept_keeps {kind : Byte} {fits : Bool} {body : List Byte} {act : State → State × Answer} (s : State)
    (h : fits = true → ∀ s, Keeps s (act s).1) : Keeps s (accept kind fits body act s) := by
  unfold accept
  split
  · split
    · exact .refl s
    next s0 hs0 =>
      have htouch := (takes?_keeps hs0).trans (touchStandby_keeps s0)
      dsimp only
      split
      next hf => exact (htouch.trans (h hf _)).trans (reply_keeps _ _ _)
      · exact (htouch.trans (useFree_keeps _)).trans (reply_keeps _ _ _)
  · exact .refl s

/-! ### Releases (R178, R179) -/

/-- Where no two members have the same image, a member is told by its image. -/
theorem eq_of_nodup_map {α β : Type} {f : α → β} {l : List α} (hnodup : (l.map f).Nodup) {x y : α} (hx : x ∈ l) (hy : y ∈ l)
    (heq : f x = f y) : x = y := by
  induction l with
  | nil => exact absurd hx List.not_mem_nil
  | cons a l ih =>
    rw [List.map_cons, List.nodup_cons] at hnodup
    obtain ⟨hnew, hnodup⟩ := hnodup
    rcases List.mem_cons.mp hx with hxa | hxl <;> rcases List.mem_cons.mp hy with hya | hyl
    · rw [hxa, hya]
    · exact absurd (hxa ▸ heq ▸ List.mem_map_of_mem hyl) hnew
    · exact absurd (hya ▸ heq ▸ List.mem_map_of_mem hxl) hnew
    · exact ih hnodup hxl hyl

theorem entry?_number {st : Store} {n : Nat} {e : Entry} (he : st.entry? n = some e) : e ∈ st.dir ∧ e.number = n :=
  ⟨List.mem_of_find?_eq_some he, beq_iff_eq.mp (List.find?_some (p := fun e : Entry => e.number == n) he)⟩

theorem entry?_only {st : Store} {n : Nat} {e : Entry} (h : st.layoutInv) (he : st.entry? n = some e) {x : Entry}
    (hx : x ∈ st.dir) (hn : x.number = n) : x = e := by
  obtain ⟨-, ⟨hnodup, -⟩, -⟩ := h
  obtain ⟨hmem, hnum⟩ := entry?_number he
  exact eq_of_nodup_map hnodup hx hmem (hn.trans hnum.symm)

theorem release_keeps {s : State} {n : Nat} (hn : s.store.layoutInv → s.store.NotOpen n) (hnamed : s.named n = false) :
    Keeps s { s with store := s.store.release n } := by
  have hsound := release_sound hn
  refine { cursor := hsound.cursor, queue := hsound.queue, dir := hsound.dir, debt := hsound.debt, layout := hsound.layout,
           mem := fun x => ⟨x.1, hsound.fits x.2⟩, pu := fun x => ⟨x.1, x.2.1, fun hp => x.2.2 (hsound.punch hp)⟩,
           named := fun _ _ x k hk => ?_, openIn := fun _ _ x ho => x (release_openIn ho) }
  have hks : s.named k = true := by
    rw [named_blocks] at hk ⊢
    exact hk.imp_right (Or.imp_right (Or.imp_right (hsound.host k)))
  refine release_live (fun hkn => ?_) (x k hks)
  rw [hkn, hnamed] at hks
  cases hks

theorem releasable_closed {s : State} {e : Entry} (h : s.releasable e = true) : e.state = .closed ∧ s.named e.number = false := by
  obtain ⟨-, -, hclosed, -, -, hnamed⟩ := (releasable_iff s e).mp h
  exact ⟨hclosed, hnamed⟩

theorem autoReleaseTest_keeps (n : Nat) (s : State) : Keeps s (autoReleaseTest n s) := by
  unfold autoReleaseTest
  split
  · exact .refl s
  next e he =>
    split
    next hr =>
      obtain ⟨hclosed, hnamed⟩ := releasable_closed hr
      obtain ⟨-, hnum⟩ := entry?_number he
      refine release_keeps (fun hl x hx hxn => ?_) (hnum ▸ hnamed)
      rw [entry?_only hl he hx hxn, hclosed]
      exact MsgState.noConfusion
    · exact .refl s

theorem givenUp_keeps (ns : List Nat) (s : State) : Keeps s (givenUp ns s) := by
  induction ns generalizing s with
  | nil => exact .refl s
  | cons n rest ih => exact (autoReleaseTest_keeps n s).trans (ih _)

theorem setPrint_keeps (n v : Nat) (s : State) : Keeps s (setPrint n v s) :=
  (Keeps.ofStore s (raisePrint_kept n v s.store)).trans (autoReleaseTest_keeps n _)

theorem setPunch_keeps (n v : Nat) (s : State) : Keeps s (setPunch n v s) :=
  (Keeps.ofStore s (raisePunch_kept n v s.store)).trans (autoReleaseTest_keeps n _)

/-! ### Live entries and names -/

theorem live_of_live? {st : Store} {n : Nat} {e : Entry} (h : st.live? n = some e) : st.Live n := by
  obtain ⟨he, hs⟩ := (live?_some_iff st n e).mp h
  obtain ⟨hmem, hnum⟩ := entry?_number he
  exact ⟨e, hmem, hnum, hs⟩

theorem live_of_named {s : State} {n : Nat} (h : s.namedInv) (hn : s.named n = true) : s.store.Live n := h n hn

theorem tracked_named {s : State} {n : Nat} (h : s.pr.tracked = some n) : s.named n = true :=
  (named_blocks s n).mpr (.inl (.inr (.inl h)))

/-- A READ-MESSAGE goes on: its message is one that the store serves already, or one that is not RELEASED. -/
theorem hostContinue_keeps {h : HostRead} {s : State} (hn : s.namedInv → s.store.Live h.number) :
    Keeps s (hostContinue h s) := by
  unfold hostContinue
  split
  · exact .refl s
  next e he =>
    have hnumber : (s.store.serveHost s.mem e 26 h).number = h.number := by rw [serveHost_keeps]
    dsimp only
    split
    · refine { named := fun _ _ x k hk => ?_ }
      rw [named_blocks] at hk
      rcases hk with hk | hk | hk | ⟨r, hr, hk⟩
      · exact x k ((named_blocks s k).mpr (.inl hk))
      · exact x k ((named_blocks s k).mpr (.inr (.inl hk)))
      · exact x k ((named_blocks s k).mpr (.inr (.inr (.inl hk))))
      · obtain rfl := Option.some.inj hr
        exact (hnumber.symm.trans hk) ▸ hn x
    · exact (((Keeps.ofStore s (raiseDelivered_kept _ _ s.store)).trans (Keeps.ofStore _ (endHost_kept _))).trans
        (reply_keeps _ _ _)).trans (autoReleaseTest_keeps _ _)

end Sys2Proof.Machine
end


section
/-! SUPPORT. The printer unit and its events keep the invariants. -/

-- One theorem after another: the check elaborates the whole text at once, where too many threads would wait for the kernel.
set_option Elab.async false

namespace Sys2Proof.Machine

/-! ### The printer's queue, jobs and names -/

/-- `q` is `p` changed within its capacities, with no name that `p` has not. -/
def Printer.Within (p q : Printer) : Prop := (p.cap → q.cap) ∧ ∀ n, q.Names n → p.Names n

namespace Printer.Within

variable {p q r : Printer}

theorem refl (p : Printer) : p.Within p := ⟨id, fun _ => id⟩

theorem trans (h : p.Within q) (k : q.Within r) : p.Within r := ⟨fun x => k.1 (h.1 x), fun n x => h.2 n (k.2 n x)⟩

end Printer.Within

theorem Keeps.withinPr {s : State} {p : Printer} (h : s.pr.Within p) : Keeps s { s with pr := p } :=
  Keeps.ofPr s h.1 fun _ n hn => .inl (h.2 n hn)

section Within

variable (p : Printer)

theorem stopOff_within : p.Within p.stopOff := ⟨fun x => ⟨x.1, x.2.1, Nat.succ_pos 639⟩, fun _ => id⟩

theorem lostJoin_within : p.Within p.lostJoin := by
  unfold Printer.lostJoin
  split
  next h =>
    have hroom : p.queue.length < 64 := of_decide_eq_true (Bool.and_eq_true_iff.mp h).2
    exact ⟨fun x => ⟨by rw [List.length_append, List.length_singleton]; omega, x.2⟩, fun _ => id⟩
  · exact .refl p

theorem shorterQueue_within {q : List PrEntry} (h : q.length ≤ p.queue.length) : p.Within { p with queue := q } :=
  ⟨fun x => ⟨Nat.le_trans h x.1, x.2⟩, fun _ => id⟩

theorem longerQueue_within {e : PrEntry} (h : p.queue.length < 64) : p.Within { p with queue := p.queue ++ [e] } :=
  ⟨fun x => ⟨by rw [List.length_append, List.length_singleton]; omega, x.2⟩, fun _ => id⟩

theorem jobDone_within (t : Tag) : p.Within (p.jobDone t) := by
  unfold Printer.jobDone
  split
  · exact .refl p
  next j rest hj =>
    refine ⟨fun ⟨hq, hjobs, ht⟩ => ⟨hq, by rw [hj] at hjobs; exact hjobs, ht⟩, fun n hn => hn.imp_left ?_⟩
    rintro ⟨k, hk, hkn⟩
    rw [hj]
    rcases List.mem_cons.mp hk with rfl | hk
    · exact ⟨j, List.mem_cons_self, hkn⟩
    · exact ⟨k, List.mem_cons_of_mem _ hk, hkn⟩

theorem fewerJobs_within {j : PrintJob} {rest : List PrintJob} (h : p.jobs = j :: rest) (r : JobRun) :
    p.Within { p with jobs := rest, jobRun := r } := by
  refine ⟨fun ⟨hq, hjobs, ht⟩ => ⟨hq, ?_, ht⟩, fun n hn => hn.imp_left ?_⟩
  · rw [h] at hjobs
    exact Nat.le_of_succ_le hjobs
  · rintro ⟨k, hk, hkn⟩
    exact ⟨k, h ▸ List.mem_cons_of_mem _ hk, hkn⟩

theorem next?_within {p q : Printer} {c : PrChar} (h : p.next? = some (c, q)) : p.Within q := by
  unfold Printer.next? at h
  split at h
  · split at h
    next e rest hq =>
      obtain ⟨-, rfl⟩ := Prod.mk.inj (Option.some.inj h)
      exact (shorterQueue_within p (by rw [hq]; exact Nat.le_succ _)).trans (lostJoin_within _)
    · split at h
      · split at h
        · obtain ⟨-, rfl⟩ := Prod.mk.inj (Option.some.inj h)
          exact ⟨id, fun _ => id⟩
        · cases h
      · cases h
  · split at h
    · obtain ⟨-, rfl⟩ := Prod.mk.inj (Option.some.inj h)
      exact ⟨id, fun _ => id⟩
    · cases h

theorem newlineIfNeeded_within : p.Within p.newlineIfNeeded := by
  unfold Printer.newlineIfNeeded
  split <;> exact ⟨id, fun _ => id⟩

theorem advance_within : p.Within p.advance := by
  unfold Printer.advance
  split <;> exact ⟨id, fun _ => id⟩

end Within

/-! ### Answering (R97, R144) -/

section Answering

variable (s : State)

theorem enterAnswering_keeps (hs : s.call.state = .starting) : Keeps s (enterAnswering s) where
  call h := by
    obtain ⟨-, hactive, -, hwake, hsignal⟩ := h
    rw [hs] at hactive hwake hsignal
    exact ⟨rfl, fun h => (nomatch hactive h), fun h => (Bool.false_ne_true h).elim, fun h => (nomatch hwake h),
      fun h => (nomatch hsignal h)⟩
  openIn _ _ x ho := nomatch hs.symm.trans (x ho)

theorem answerStart_keeps : Keeps s (answerStart s) := by
  unfold answerStart
  split
  · dsimp only
    split
    next hs => exact (Keeps.withinPr (p := { s.pr with startPending := false }) ⟨id, fun _ => id⟩).trans (enterAnswering_keeps _ hs)
    · exact {}
  · exact .refl s

theorem requestStart_keeps : Keeps s (requestStart s) := by
  have hstop : Keeps s { s with pr := { s.pr.stopOff with startPending := true } } := Keeps.withinPr (stopOff_within s.pr)
  unfold requestStart
  dsimp only
  split
  · exact hstop
  · exact hstop.trans (answerStart_keeps _)

end Answering

/-! ### CATCH-UP and the comparison (R108 to R113) -/

section Comparison

variable (s : State)

theorem motorOffTick_keeps : Keeps s (motorOffTick s) := by
  unfold motorOffTick
  split
  · split
    next h => exact Keeps.withinPr ⟨fun x => ⟨x.1, x.2.1, h⟩, fun _ => id⟩
    · exact Keeps.withinPr (stopOff_within s.pr)
  · exact .refl s

theorem motorOff_keeps : Keeps s (motorOff s) := Keeps.withinPr (stopOff_within s.pr)

theorem suspendJob_keeps : Keeps s (suspendJob s) := by
  unfold suspendJob
  split
  · exact (Keeps.ofStore s (abandon_kept s.store .printer)).trans {}
  · exact .refl s

theorem noteLiveWork_keeps : Keeps s (noteLiveWork s) := by
  unfold noteLiveWork
  split
  · exact .refl s
  · exact (Keeps.withinPr (stopOff_within s.pr)).trans (suspendJob_keeps _)

theorem printerAsk_keeps (n pos : Nat) : Keeps s (printerAsk n pos s) :=
  (Keeps.ofStore s (askPrinter_kept s.store s.mem n pos)).trans {}

/-- The tracked message becomes the catch-up message. -/
theorem catchUpTracked_keeps {t : Nat} (h : s.pr.tracked = some t) :
    Keeps s { s with pr := { s.pr with catchUp := some t } } :=
  Keeps.withinPr ⟨id, fun _ hn => hn.imp_right fun hn => .inl (hn.elim id fun hn => h.trans hn)⟩

theorem compareCursors_keeps (reading : Bool) : Keeps s (compareCursors reading s) := by
  unfold compareCursors
  split
  · split
    · exact printerAsk_keeps s _ _
    · exact .refl s
  next t _ ht =>
    obtain ⟨htracked, -⟩ := Option.filter_eq_some_iff.mp ht
    have hup := (catchUpTracked_keeps s htracked).trans (givenUp_keeps (nameOf s.pr.catchUp) _)
    dsimp only
    split
    · exact hup.trans (printerAsk_keeps _ _ _)
    · exact hup
  · have hdirect : Keeps s { s with pr := { s.pr with mode := .direct, catchUp := none } } :=
      Keeps.withinPr ⟨id, fun _ hn => hn.imp_right fun hn => .inl (hn.elim id nofun)⟩
    exact hdirect.trans (givenUp_keeps _ _)

theorem offComparison_keeps : Keeps s (offComparison s) := by
  unfold offComparison
  split
  · exact compareCursors_keeps s false
  · exact .refl s

theorem readyComparison_keeps : Keeps s (readyComparison s) := by
  unfold readyComparison
  split
  · exact compareCursors_keeps s true
  · exact .refl s

theorem enterCatchUp_keeps {message : Option Nat} (h : s.namedInv → ∀ n, message = some n → s.store.Live n) :
    Keeps s (enterCatchUp message s) := by
  unfold enterCatchUp
  split
  · have hmode : Keeps s { s with pr := { s.pr with mode := .catchUp, catchUp := message } } := by
      refine Keeps.ofPr s id fun x n hn => ?_
      rcases hn with hn | hn | hn
      · exact .inl (.inl hn)
      · exact .inl (.inr (.inl hn))
      · exact .inr (h x n hn)
    exact (hmode.trans (noteLiveWork_keeps _)).trans (offComparison_keeps _)
  · exact .refl s

theorem enterCatchUp_tracked_keeps {message : Option Nat} (h : ∀ n, message = some n → s.pr.tracked = some n) :
    Keeps s (enterCatchUp message s) :=
  enterCatchUp_keeps s fun x n hn => live_of_named x (tracked_named (h n hn))

/-! ### Delivery (R73, R74) -/

theorem deliverTagged_keeps (c : StationCode) {t : Tag} (h : s.pr.tracked = some t.number) : Keeps s (deliverTagged c t s) := by
  unfold deliverTagged
  split
  · exact .refl s
  · split
    next hr => exact (Keeps.withinPr (longerQueue_within s.pr (of_decide_eq_true hr))).trans (noteLiveWork_keeps _)
    · refine enterCatchUp_tracked_keeps s fun n hn => ?_
      rw [h]
      exact hn

theorem deliverUntagged_keeps (c : StationCode) : Keeps s (deliverUntagged c s) := by
  unfold deliverUntagged
  split
  · exact .refl s
  · split
    next hr => exact (Keeps.withinPr (longerQueue_within s.pr (of_decide_eq_true hr))).trans (noteLiveWork_keeps _)
    · exact {}

end Comparison

/-! ### Operations (R98 to R116) -/

section Operations

variable (s : State)

theorem completeChar_keeps (c : PrChar) : Keeps s (completeChar c s) := by
  unfold completeChar
  split
  · exact .refl s
  · exact setPrint_keeps _ _ s
  · exact setPrint_keeps _ _ s
  · exact (Keeps.withinPr (jobDone_within s.pr _)).trans (setPrint_keeps _ _ _)

theorem completeChars_keeps (cs : List PrChar) : Keeps s (completeChars cs s) := by
  induction cs generalizing s with
  | nil => exact .refl s
  | cons c rest ih => exact (completeChar_keeps s c).trans (ih _)

theorem jam_keeps (cause : JamCause) : Keeps s (jam cause s) :=
  (((Keeps.ofStore s (abandon_kept s.store .printer)).trans (Keeps.withinPr (stopOff_within s.pr))).trans {}).trans
    (raise_keeps _ (.jammed cause))

theorem enterPaperOut_keeps : Keeps s (enterPaperOut s) :=
  (((Keeps.withinPr (stopOff_within s.pr)).trans {}).trans (raise_keeps _ .paperOut)).trans (answerStart_keeps _)

theorem endJob_keeps : Keeps s (endJob s) := by
  unfold endJob
  split
  · exact .refl s
  next j rest hj => exact (Keeps.withinPr (fewerJobs_within s.pr hj .notStarted)).trans (autoReleaseTest_keeps _ _)

theorem afterOperation_keeps : Keeps s (afterOperation s) := by
  have hend : Keeps s (if s.pr.jobRun = .closing then endJob s else s) := by
    split
    · exact endJob_keeps s
    · exact .refl s
  unfold afterOperation
  revert hend
  generalize (if s.pr.jobRun = .closing then endJob s else s) = s1
  intro hend
  dsimp only
  split
  · exact hend.trans (jam_keeps _ _)
  · split
    · have hready : Keeps s1 { s1 with pr := { s1.pr with state := .ready } } := {}
      exact (hend.trans hready).trans (readyComparison_keeps _)
    · exact hend.trans (enterPaperOut_keeps _)

theorem takeChar_keeps (c : PrChar) : Keeps s (takeChar c s) := by
  unfold takeChar
  split
  · split <;> exact {}
  · split
    · exact {}
    · split
      · exact {}
      · split
        · exact (ringBell_keeps s).trans (completeChar_keeps _ c)
        · exact completeChar_keeps s c

theorem runJob_keeps : Keeps s (runJob s) := by
  unfold runJob
  split
  · exact .refl s
  · split
    · exact .refl s
    · split
      · split
        · exact printerAsk_keeps s _ _
        · split
          · exact {}
          · exact endJob_keeps s
      · exact (Keeps.withinPr (newlineIfNeeded_within s.pr)).trans {}

theorem readyTake_keeps : Keeps s (readyTake s) := by
  unfold readyTake
  split
  · exact {}
  · split
    · exact {}
    · split
      · exact ((Keeps.withinPr (newlineIfNeeded_within s.pr)).trans {}).trans (readyComparison_keeps _)
      · split
        next h => exact ((Keeps.withinPr (next?_within h)).trans (takeChar_keeps _ _)).trans (readyComparison_keeps _)
        · split
          · exact readyComparison_keeps s
          · exact runJob_keeps s

theorem returningTake_keeps : Keeps s (returningTake s) := by
  unfold returningTake
  split
  · exact .refl s
  · split
    next h =>
      split
      · exact (Keeps.withinPr (next?_within h)).trans {}
      · exact .refl s
    · exact .refl s

theorem homeTick_keeps : Keeps s (homeTick s) := by
  unfold homeTick
  split
  · have hread (asserted : Bool) (s : State) : Keeps s (readHome asserted s) := by
      cases asserted <;> exact {}
    exact (useFree_keeps s).trans (hread _ _)
  · exact .refl s

end Operations

end Sys2Proof.Machine
end


section
/-! SUPPORT. The punch unit and its events keep the invariants. -/

-- One theorem after another: the check elaborates the whole text at once, where too many threads would wait for the kernel.
set_option Elab.async false

namespace Sys2Proof.Machine

/-! ### The punch's queue and chain -/

/-- `q` is `p` changed within its capacities, with no name that `p` has not. -/
def Punch.Within (st : Store) (p q : Punch) : Prop := (p.cap st → q.cap st) ∧ ∀ n, q.Names n → p.Names n

theorem Punch.Within.refl (st : Store) (p : Punch) : p.Within st p := ⟨id, fun _ => id⟩

theorem Keeps.withinPu {s : State} {p : Punch} (h : s.pu.Within s.store p) : Keeps s { s with pu := p } :=
  Keeps.ofPu s h.1 fun n hn => .inl (h.2 n hn)

section Within

variable {st : Store} (p : Punch)

theorem shorterPunchQueue_within {q : List PunchEntry} (h : q.length ≤ p.queue.length) :
    p.Within st { p with queue := q } :=
  ⟨fun ⟨hchain, hq, hread⟩ => ⟨hchain, Nat.le_trans h hq, fun hr => ⟨Nat.le_trans h (hread hr).1, (hread hr).2⟩⟩, fun _ => id⟩

/-- The queue of a punch that has no read outstanding. -/
theorem punchQueue_within {q : List PunchEntry} (hread : st.punchRead = none) (h : q.length ≤ 32) :
    p.Within st { p with queue := q } :=
  ⟨fun ⟨hchain, _, _⟩ => ⟨hchain, h, fun hr => by rw [hread] at hr; exact (Bool.false_ne_true hr).elim⟩, fun _ => id⟩

/-- The head job changed in its cursors alone. -/
theorem headJob_within {j k : PunchJob} {rest : List PunchJob} (hj : p.chain = j :: rest) (hk : k.number = j.number) :
    p.Within st { p with chain := k :: rest } := by
  refine ⟨fun ⟨hchain, hq, hread⟩ => ⟨by rw [hj] at hchain; exact hchain, hq, fun hr => ⟨(hread hr).1, List.cons_ne_nil _ _⟩⟩, ?_⟩
  rintro n ⟨i, hi, hn⟩
  rcases List.mem_cons.mp hi with rfl | hi
  · exact ⟨j, hj ▸ List.mem_cons_self, hk ▸ hn⟩
  · exact ⟨i, hj ▸ List.mem_cons_of_mem _ hi, hn⟩

theorem served_within {cs : List StationCode} (hread : st.punchRead = none) (hq : p.queue.length + cs.length ≤ 32) :
    p.Within st (p.served cs) := by
  cases hc : p.chain with
  | nil =>
    rw [Punch.served_nil cs hc]
    exact .refl st p
  | cons j rest =>
    rw [Punch.served_cons cs hc]
    have hqueue := punchQueue_within (st := st) p (q := p.queue ++ taggedEntries j.number j.readPos cs) hread
      (by rwa [List.length_append, taggedEntries_length])
    have hjob := headJob_within (st := st) { p with queue := p.queue ++ taggedEntries j.number j.readPos cs } (j := j)
      (k := { j with readPos := j.readPos + cs.length }) hc rfl
    exact ⟨fun x => hjob.1 (hqueue.1 x), fun n x => hqueue.2 n (hjob.2 n x)⟩

theorem fewerPunchJobs_within {j : PunchJob} {rest : List PunchJob} (hj : p.chain = j :: rest) (hread : st.punchRead = none) :
    p.Within st { p with chain := rest } := by
  refine ⟨fun ⟨hchain, hq, _⟩ => ⟨?_, hq, fun hr => by rw [hread] at hr; exact (Bool.false_ne_true hr).elim⟩, ?_⟩
  · rw [hj] at hchain
    exact Nat.le_of_succ_le hchain
  · rintro n ⟨i, hi, hn⟩
    exact ⟨i, hj ▸ List.mem_cons_of_mem _ hi, hn⟩

theorem punchCodes_within (tag : Option Tag) (rs : List RawCode) : p.Within st (p.punchCodes tag rs) := by
  unfold Punch.punchCodes
  split <;> exact .refl st p

end Within

theorem cellChars_le (m : List Host.Cell) (st : Store) (e : Entry) (pos limit : Nat) :
    (st.cellChars m e pos limit).length ≤ 8 := by
  rw [cellChars_length]
  omega

theorem servedChars_le (s : State) (n pos : Nat) : (s.servedChars n pos).length ≤ 8 := by
  unfold State.servedChars
  split
  · exact Nat.zero_le 8
  · exact cellChars_le _ _ _ _ _

/-! ### The body of a job (R127, R128) -/

section Jobs

variable (s : State)

theorem enterTapeHold_keeps : Keeps s (enterTapeHold s) :=
  (Keeps.withinPu (p := { s.pu with state := .tapeLowHold, holdPending := false }) ⟨id, fun _ => id⟩).trans
    (raise_keeps _ .tapeLow)

theorem punchWants_room (h : s.punchWants = true) : s.store.punchRead = none ∧ s.pu.queue.length ≤ 24 ∧ s.pu.chain ≠ [] := by
  unfold State.punchWants at h
  split at h
  · cases h
  next j rest hc =>
    simp only [Bool.and_eq_true, decide_eq_true_eq, Option.isNone_iff_eq_none] at h
    obtain ⟨⟨⟨-, hread⟩, -⟩, hq⟩ := h
    exact ⟨hread, hq, hc ▸ List.cons_ne_nil _ _⟩

/-- A read of the punch becomes outstanding. -/
theorem punchRead_keeps (q : Read) (hq : s.pu.queue.length ≤ 24) (hc : s.pu.chain ≠ []) :
    Keeps s { s with store := { s.store with punchRead := some q } } :=
  { pu := fun ⟨hchain, hqueue, _⟩ => ⟨hchain, hqueue, fun _ => ⟨hq, hc⟩⟩ }

theorem punchAsk_keeps (n pos : Nat) (h : s.punchWants = true) : Keeps s { s with
    store := (s.store.ask s.mem .punch n pos).1, pu := s.pu.served (s.store.ask s.mem .punch n pos).2 } := by
  obtain ⟨hread, hq, hc⟩ := punchWants_room s h
  have hserved (cs : List StationCode) (hcs : cs.length ≤ 8) : Keeps s { s with pu := s.pu.served cs } :=
    Keeps.withinPu (served_within s.pu hread (by omega))
  unfold Store.ask
  split
  · exact hserved [] (Nat.zero_le 8)
  · split
    · exact hserved _ (cellChars_le _ _ _ _ _)
    · refine (hserved [] (Nat.zero_le 8)).trans (punchRead_keeps _ ⟨n, pos⟩ ?_ ?_)
      · cases hj : s.pu.chain with
        | nil => exact absurd hj hc
        | cons j rest =>
          show (s.pu.served []).queue.length ≤ 24
          rw [Punch.served_cons [] hj]
          simpa [taggedEntries] using hq
      · cases hj : s.pu.chain with
        | nil => exact absurd hj hc
        | cons j rest =>
          show (s.pu.served []).chain ≠ []
          rw [Punch.served_cons [] hj]
          exact List.cons_ne_nil _ _

theorem punchReads_keeps (n : Nat) : Keeps s (punchReads n s) := by
  induction n generalizing s with
  | zero => exact .refl s
  | succ n ih =>
    unfold punchReads
    split
    · exact .refl s
    · split
      next h => exact (punchAsk_keeps s _ _ h).trans (ih _)
      · exact .refl s

theorem endPunchJob_keeps (hread : s.store.punchRead = none) : Keeps s (endPunchJob s) := by
  unfold endPunchJob
  split
  · exact .refl s
  next j rest hj =>
    have hend : Keeps s { s with pu := { s.pu with chain := rest, stage := .none, shift := .unknown } } :=
      (Keeps.withinPu (fewerPunchJobs_within s.pu hj hread)).trans {}
    have htest := (hend.trans (raise_keeps _ (.punchJobDone j.number j.follow j.cursor))).trans (autoReleaseTest_keeps j.number _)
    dsimp only
    split
    · exact htest.trans (enterTapeHold_keeps _)
    · exact htest

theorem finishJob_keeps : Keeps s (finishJob s) := by
  unfold finishJob
  split
  next j _ _ _ =>
    split
    next h =>
      have hread : s.store.punchRead = none := Option.isNone_iff_eq_none.mp h.2.1
      split
      · exact endPunchJob_keeps s hread
      · exact (Keeps.withinPu (punchQueue_within s.pu (q := [.blank j.trailer]) hread (Nat.le_add_left 1 31))).trans {}
    · exact .refl s
  · split
    next h => exact endPunchJob_keeps s (Option.isNone_iff_eq_none.mp h.2)
    · exact .refl s
  · exact .refl s

theorem punchSettle_keeps : Keeps s (punchSettle s) := by
  have hjob := (punchReads_keeps s 32).trans (finishJob_keeps _)
  unfold punchSettle
  split
  · exact .refl s
  · dsimp only
    split
    · exact hjob
    · exact hjob.trans {}

theorem punchComplete_keeps (cancelled : Bool) (tag : Option Tag) : Keeps s (punchComplete cancelled tag s) := by
  unfold punchComplete
  split
  · exact .refl s
  next t =>
    dsimp only
    split
    next j rest hj =>
      split
      · exact (Keeps.withinPu (headJob_within s.pu (k := { j with cursor := t.pos + 1 }) hj rfl)).trans (setPunch_keeps _ _ _)
      · exact setPunch_keeps _ _ s
    · exact setPunch_keeps _ _ s

/-! ### Entries taken (R122, R123) -/

theorem takeText_keeps (c : StationCode) (tag : Option Tag) : Keeps s (takeText c tag s) := by
  have hplane : Keeps s { s with pu := { s.pu with shift := s.pu.plane } } := {}
  have hskip := (hplane.trans (raise_keeps _ (.unsendable c))).trans (punchComplete_keeps _ false tag)
  unfold takeText
  dsimp only
  split
  next e _ =>
    have hshift : Keeps s { s with pu := { s.pu with shift := e.plane } } := {}
    exact hshift.trans (Keeps.withinPu (punchCodes_within _ _ _))
  · split
    · exact hskip
    · exact hskip.trans {}

theorem takeHead_keeps : Keeps s (takeHead s) := by
  unfold takeHead
  split
  · exact .refl s
  next n rest hq =>
    have hshort : (if n ≤ 1 then rest else .blank (n - 1) :: rest).length ≤ s.pu.queue.length := by
      rw [hq]
      split
      · exact Nat.le_succ _
      · exact Nat.le_refl _
    exact (Keeps.withinPu (shorterPunchQueue_within s.pu hshort)).trans {}
  next rest hq =>
    have hshort : Keeps s { s with pu := { s.pu with queue := rest, shift := .letters } } :=
      (Keeps.withinPu (shorterPunchQueue_within s.pu (q := rest) (by rw [hq]; exact Nat.le_succ _))).trans {}
    dsimp only
    split
    · exact hshort.trans {}
    · exact hshort
  next c tag rest hq =>
    exact (Keeps.withinPu (shorterPunchQueue_within s.pu (q := rest) (by rw [hq]; exact Nat.le_succ _))).trans (takeText_keeps _ c tag)

/-! ### Jobs that join, direct text, a cancelled chain (R125, R129, R131, R134) -/

theorem joinedChain_within {st : Store} (p : Punch) {j : PunchJob} (hc : p.chain.length < 8) (hj : st.Live j.number) :
    (p.cap st → ({ p with chain := p.chain ++ [j] } : Punch).cap st)
      ∧ ∀ n, ({ p with chain := p.chain ++ [j] } : Punch).Names n → p.Names n ∨ st.Live n := by
  refine ⟨fun ⟨_, hq, hread⟩ => ⟨?_, hq, fun hr => ⟨(hread hr).1, by simp⟩⟩, ?_⟩
  · rw [List.length_append, List.length_singleton]
    omega
  · rintro n ⟨i, hi, hn⟩
    rcases List.mem_append.mp hi with hi | hi
    · exact .inl ⟨i, hi, hn⟩
    · rw [List.mem_singleton.mp hi] at hn
      exact .inr (hn ▸ hj)

theorem joinChain_keeps {j : PunchJob} (hc : s.pu.chain.length < 8) (hj : s.store.Live j.number) : Keeps s (joinChain j s) := by
  obtain ⟨hcap, hnames⟩ := joinedChain_within s.pu hc hj
  exact ((Keeps.ofPu s hcap hnames).trans (Keeps.ofStore _ (punchNamed_kept j.number s.store))).trans (punchSettle_keeps _)

theorem followMessage_keeps {n : Nat} (hn : s.store.Live n) : Keeps s (followMessage n s) := by
  unfold followMessage
  split
  next hc =>
    obtain ⟨hcap, hnames⟩ := joinedChain_within s.pu (j := ⟨n, 0, s.pu.defLeader, s.pu.defTrailer, true, 0, 0⟩) hc hn
    exact (Keeps.ofPu s hcap hnames).trans (Keeps.ofStore _ (punchNamed_kept n s.store))
  · exact Keeps.ofStore s (setFlags_kept n _ s.store)

theorem directEntry_keeps {e : PunchEntry} (hc : s.pu.chain = []) (hq : s.pu.queue.length < 32) :
    Keeps s { s with pu := { s.pu with queue := s.pu.queue ++ [e] } } := by
  refine Keeps.withinPu ⟨fun ⟨hchain, _, hread⟩ => ⟨hchain, ?_, fun hr => absurd hc (hread hr).2⟩, fun _ => id⟩
  rw [List.length_append, List.length_singleton]
  omega

theorem punchDirect_keeps (c : StationCode) (h : s.pu.takesDirect = true) : Keeps s (punchDirect c s) := by
  obtain ⟨hc, hq⟩ := Bool.and_eq_true_iff.mp h
  exact (directEntry_keeps s (List.isEmpty_iff.mp hc) (of_decide_eq_true hq)).trans (punchSettle_keeps _)

theorem cancelPunch_keeps : Keeps s (cancelPunch s) := by
  have hclear : Keeps s { s with
      pu := { s.pu with
        queue := [], held := none, chain := [], stage := .none, shift := .unknown
        cycle := s.pu.cycle.map fun c => { c with cancelled := true } }
      store := s.store.abandon .punch } := by
    refine (Keeps.ofStore s (abandon_kept s.store .punch)).trans (Keeps.withinPu ⟨fun _ => ?_, ?_⟩)
    · exact ⟨Nat.zero_le 8, Nat.zero_le 32, fun hr => (Bool.false_ne_true hr).elim⟩
    · rintro n ⟨j, hj, -⟩
      cases hj
  have hgiven := hclear.trans (givenUp_keeps (s.pu.chain.map PunchJob.number) _)
  unfold cancelPunch
  dsimp only
  split
  · exact hgiven
  · split
    · exact hgiven.trans (enterTapeHold_keeps _)
    · exact hgiven.trans {}

end Jobs

end Sys2Proof.Machine
end


section
/-! SUPPORT. The opening, the growth and the close of messages keep the invariants; what a close leaves of the directory
(R148, R150, R172 to R174, R179). -/

-- One theorem after another: the check elaborates the whole text at once, where too many threads would wait for the kernel.
set_option Elab.async false

namespace Sys2Proof.Machine

/-! ### What becomes of the entries where none is opened and none grows -/

/-- `x` is what has become of the entry `e`. -/
structure Entry.Into (e x : Entry) : Prop where
  number : x.number = e.number := by rfl
  dir : x.dir = e.dir := by rfl
  length : x.length = e.length := by rfl
  truncated : e.flags.truncated = true → x.flags.truncated = true := by exact id
  stillOpen : x.state = .open → e.state = .open := by exact id

theorem Entry.Into.trans {e x y : Entry} (h : e.Into x) (k : x.Into y) : e.Into y where
  number := k.number.trans h.number
  dir := k.dir.trans h.dir
  length := k.length.trans h.length
  truncated z := k.truncated (h.truncated z)
  stillOpen z := h.stillOpen (k.stillOpen z)

/-- The entries of `t` have become of those of `st`, none of which was released that is outgoing, or while automatic release is
off. -/
structure Store.Calm (auto : Bool) (st t : Store) : Prop where
  source : ∀ x ∈ t.dir, ∃ e ∈ st.dir, e.Into x
  numbers : (t.dir.map Entry.number).Sublist (st.dir.map Entry.number)
  free : st.free ≤ t.free
  stay : (st.dir.map Entry.number).Nodup → ∀ e ∈ st.dir, e.state ≠ .released → auto = false ∨ e.dir = .out →
    ∃ x ∈ t.dir, e.Into x ∧ x.state ≠ .released

/-- Entries that keep their numbers stand in the order of the numbers they had. -/
theorem map_numbers_sublist {g : Entry → Entry} (h : ∀ e : Entry, (g e).number = e.number) (l : List Entry) :
    ((l.map g).map Entry.number).Sublist (l.map Entry.number) := by
  have hsame : (l.map g).map Entry.number = l.map Entry.number := by
    rw [List.map_map]
    exact List.map_congr_left fun e _ => h e
  exact hsame ▸ List.Sublist.refl _

namespace Store.Calm
variable {auto : Bool} {st t u : Store}

theorem ofEq (hd : t.dir = st.dir) (hf : t.free = st.free) : st.Calm auto t where
  source x hx := ⟨x, hd ▸ hx, {}⟩
  numbers := hd ▸ List.Sublist.refl _
  free := Nat.le_of_eq hf.symm
  stay _ e he hs _ := ⟨e, hd.symm ▸ he, {}, hs⟩

theorem refl (st : Store) : st.Calm auto st := ofEq rfl rfl

theorem trans (h : st.Calm auto t) (k : t.Calm auto u) : st.Calm auto u where
  source x hx := by
    obtain ⟨y, hy, hyx⟩ := k.source x hx
    obtain ⟨z, hz, hzy⟩ := h.source y hy
    exact ⟨z, hz, hzy.trans hyx⟩
  numbers := k.numbers.trans h.numbers
  free := Nat.le_trans h.free k.free
  stay hn e he hs ha := by
    obtain ⟨y, hy, hey, hys⟩ := h.stay hn e he hs ha
    obtain ⟨x, hx, hyx, hxs⟩ := k.stay (h.numbers.nodup hn) y hy hys (ha.imp_right hey.dir.trans)
    exact ⟨x, hx, hey.trans hyx, hxs⟩

theorem ofMap {g : Entry → Entry} (hd : t.dir = st.dir.map g) (hf : t.free = st.free) (hg : ∀ e : Entry, e.Into (g e))
    (hs : ∀ e : Entry, e.state ≠ .released → (g e).state ≠ .released) : st.Calm auto t where
  source x hx := by
    rw [hd] at hx
    obtain ⟨e, he, rfl⟩ := List.mem_map.mp hx
    exact ⟨e, he, hg e⟩
  numbers := by
    rw [hd]
    exact map_numbers_sublist (fun e => (hg e).number) st.dir
  free := Nat.le_of_eq hf.symm
  stay _ e he hes _ := ⟨g e, hd ▸ List.mem_map_of_mem he, hg e, hs e hes⟩

theorem dir_length (h : st.Calm auto t) : t.dir.length ≤ st.dir.length := by
  simpa using h.numbers.length_le

theorem none_open (h : st.Calm auto t) (ho : ∀ e ∈ st.dir, e.state ≠ .open) : ∀ x ∈ t.dir, x.state ≠ .open := by
  intro x hx hxo
  obtain ⟨e, he, hex⟩ := h.source x hx
  exact ho e he (hex.stillOpen hxo)

end Store.Calm

/-- A modification that leaves the entries in place. -/
theorem modify_calm {auto : Bool} {st : Store} {n : Nat} {f : Entry → Entry} (hf : ∀ e : Entry, e.Into (f e))
    (hs : ∀ e : Entry, e.state ≠ .released → (f e).state ≠ .released) : st.Calm auto (st.modify n f) := by
  refine Store.Calm.ofMap (g := entryAt n f) rfl rfl (fun e => ?_) fun e he => ?_
  · unfold entryAt
    split
    · exact hf e
    · exact {}
  · unfold entryAt
    split
    · exact hs e he
    · exact he

theorem release_calm {st : Store} {n : Nat} {e : Entry} (he : st.entry? n = some e) (hd : e.dir = .in) :
    st.Calm true (st.release n) where
  source x hx := by
    rw [release_dir] at hx
    obtain ⟨y, hy, rfl⟩ := List.mem_map.mp ((List.dropWhile_suffix _).subset hx)
    refine ⟨y, hy, ?_⟩
    unfold entryAt
    split
    · exact { stillOpen := fun h => nomatch h }
    · exact {}
  numbers := by
    rw [release_dir]
    exact ((List.dropWhile_suffix _).sublist.map Entry.number).trans (map_numbers_sublist entryAt_freed_number st.dir)
  free := (reclaim_frame (st.modify n Entry.freed).dir.length (st.modify n Entry.freed)).2.2.1
  stay hn y hy hs ha := by
    have hout : y.dir = .out := ha.resolve_left Bool.noConfusion
    obtain ⟨hmem, hnum⟩ := entry?_number he
    have hyn : y.number ≠ n := by
      intro h
      rw [eq_of_nodup_map hn hy hmem (h.trans hnum.symm), hd] at hout
      cases hout
    have hsame : entryAt n Entry.freed y = y := if_neg hyn
    refine ⟨y, ?_, {}, hs⟩
    rw [release_dir]
    exact mem_dropWhile_of_not (hsame ▸ List.mem_map_of_mem hy) (decide_eq_false hs)

theorem autoReleaseTest_calm (n : Nat) (s : State) : s.store.Calm s.call.autoRelease (autoReleaseTest n s).store := by
  cases he : s.store.entry? n with
  | none =>
    rw [show autoReleaseTest n s = s by simp only [autoReleaseTest, he]]
    exact .refl _
  | some e =>
    rw [autoReleaseTest_of_entry he]
    split
    next hr =>
      obtain ⟨hauto, hd, -⟩ := (releasable_iff s e).mp hr
      rw [hauto]
      exact release_calm he hd
    · exact .refl _

theorem givenUp_calm (ns : List Nat) (s : State) : s.store.Calm s.call.autoRelease (givenUp ns s).store := by
  induction ns generalizing s with
  | nil => exact .refl _
  | cons n rest ih =>
    have hcall : (autoReleaseTest n s).call = s.call := by simp
    exact (autoReleaseTest_calm n s).trans (hcall ▸ ih (autoReleaseTest n s))

theorem raise_call (r : Report) (s : State) : (raise r s).call = s.call := rfl

theorem enterTapeHold_store (s : State) : (enterTapeHold s).store = s.store := by simp [enterTapeHold]

theorem endPunchJob_calm (s : State) : s.store.Calm s.call.autoRelease (endPunchJob s).store := by
  unfold endPunchJob
  split
  · exact .refl _
  next j rest _ =>
    have htest := autoReleaseTest_calm j.number (raise (.punchJobDone j.number j.follow j.cursor)
      { s with pu := { s.pu with chain := rest, stage := .none, shift := .unknown } })
    rw [raise_store, raise_call] at htest
    dsimp only
    split
    · rw [enterTapeHold_store]
      exact htest
    · exact htest

theorem finishJob_calm (s : State) : s.store.Calm s.call.autoRelease (finishJob s).store := by
  unfold finishJob
  split
  · split
    · split
      · exact endPunchJob_calm s
      · exact .refl _
    · exact .refl _
  · split
    · exact endPunchJob_calm s
    · exact .refl _
  · exact .refl _

theorem ask_free (m : List Host.Cell) (r : Reader) (n pos : Nat) (st : Store) : (st.ask m r n pos).1.free = st.free := by
  unfold Store.ask
  split
  · rfl
  · split
    · rfl
    · cases r <;> rfl

theorem punchReads_free (n : Nat) (s : State) : (punchReads n s).store.free = s.store.free := by
  induction n generalizing s with
  | zero => rfl
  | succ n ih =>
    unfold punchReads
    split
    · rfl
    · split
      · exact (ih _).trans (ask_free ..)
      · rfl

theorem punchSettle_calm (s : State) : s.store.Calm s.call.autoRelease (punchSettle s).store := by
  have hreads : s.store.Calm s.call.autoRelease (punchReads 32 s).store :=
    .ofEq (punchReads_dir 32 s) (punchReads_free 32 s)
  have hcall : (punchReads 32 s).call = s.call := by simp
  have hjob := hreads.trans (hcall ▸ finishJob_calm (punchReads 32 s))
  unfold punchSettle
  split
  · exact .refl _
  · dsimp only
    split <;> exact hjob

/-! ### The close (R150, R174) -/

section Close

variable {s : State} {d : Dir} {e : Entry} (f : MsgFlags)

theorem untrack_within (n : Nat) (p : Printer) : p.Within (p.untrack n) := by
  unfold Printer.untrack
  split
  · refine ⟨id, fun k hk => ?_⟩
    rcases hk with hk | hk | hk
    · exact .inl hk
    · exact (nomatch hk)
    · exact .inr (.inr hk)
  · exact .refl p

theorem closeMessage_keeps (he : s.store.open? d = some e) : Keeps s (closeMessage e f s) := by
  obtain ⟨hmem, -, ho⟩ := open?_mem he
  exact ((((Keeps.ofStore s (closedWith_kept (f := s.closeFlags e f) hmem ho)).trans
    (Keeps.withinPr (untrack_within e.number s.pr))).trans (punchSettle_keeps _)).trans
    (raise_keeps _ (.messageClosed e.number (s.closeFlags e f)))).trans (autoReleaseTest_keeps e.number _)

theorem closeOpen_keeps (d : Dir) (s : State) : Keeps s (closeOpen d f s) := by
  unfold closeOpen
  split
  · exact .refl s
  next e he => exact closeMessage_keeps f he

theorem closeFlags_truncated (s : State) (e : Entry) (h : e.flags.truncated = true ∨ f.truncated = true) :
    (s.closeFlags e f).truncated = true := by
  simp only [State.closeFlags, MsgFlags.or, MsgFlags.none, Bool.or_false, Bool.or_eq_true]
  exact h

/-- What comes of the directory after the close proper. -/
theorem closeMessage_settled (e : Entry) (s : State) :
    (s.store.closedWith e (s.closeFlags e f)).Calm s.call.autoRelease (closeMessage e f s).store := by
  have hsettle := punchSettle_calm
    { s with store := s.store.closedWith e (s.closeFlags e f), pr := s.pr.untrack e.number }
  have htest := autoReleaseTest_calm e.number (raise (.messageClosed e.number (s.closeFlags e f)) (punchSettle
    { s with store := s.store.closedWith e (s.closeFlags e f), pr := s.pr.untrack e.number }))
  rw [raise_store, raise_call] at htest
  have hauto : (punchSettle { s with
      store := s.store.closedWith e (s.closeFlags e f), pr := s.pr.untrack e.number }).call.autoRelease = s.call.autoRelease := by
    simp
  rw [hauto] at htest
  exact hsettle.trans htest

theorem closedWith_calm {auto : Bool} {st : Store} (hl : st.layoutInv) (he : st.open? d = some e) {g : MsgFlags}
    (hg : e.flags.truncated = true → g.truncated = true) : st.Calm auto (st.closedWith e g) where
  source x hx := by
    rw [closedWith_dir] at hx
    obtain ⟨y, hy, rfl⟩ := List.mem_map.mp hx
    refine ⟨y, hy, ?_⟩
    unfold entryAt
    split
    next hn =>
      obtain ⟨hmem, -, -⟩ := open?_mem he
      obtain ⟨-, ⟨hnodup, -⟩, -⟩ := hl
      rw [eq_of_nodup_map hnodup hy hmem hn]
      exact { truncated := hg, stillOpen := fun h => nomatch h }
    · exact {}
  numbers := by
    rw [closedWith_dir]
    exact map_numbers_sublist entryAt_closed_number st.dir
  free := by
    obtain ⟨q, a, b, h⟩ := closeAsm_shape e.dir (st.modify e.number (Entry.closed g))
    rw [Store.closedWith, h]
    exact Nat.le_refl _
  stay hn y hy hs _ := by
    refine ⟨entryAt e.number (Entry.closed g) y, closedWith_dir e g st ▸ List.mem_map_of_mem hy, ?_, ?_⟩
    · unfold entryAt
      split
      next hyn =>
        obtain ⟨hmem, -, -⟩ := open?_mem he
        rw [eq_of_nodup_map hn hy hmem hyn]
        exact { truncated := hg, stillOpen := fun h => nomatch h }
      · exact {}
    · unfold entryAt
      split
      · exact MsgState.noConfusion
      · exact hs

theorem closeMessage_calm (hl : s.store.layoutInv) (he : s.store.open? d = some e) :
    s.store.Calm s.call.autoRelease (closeMessage e f s).store :=
  (closedWith_calm hl he fun h => closeFlags_truncated f s e (.inl h)).trans (closeMessage_settled f e s)

theorem closeOpen_calm (d : Dir) (hl : s.store.layoutInv) : s.store.Calm s.call.autoRelease (closeOpen d f s).store := by
  unfold closeOpen
  split
  · exact .refl _
  next e he => exact closeMessage_calm f hl he

theorem closeMessage_none_open (hl : s.store.layoutInv) (he : s.store.open? d = some e) :
    ∀ x ∈ (closeMessage e f s).store.dir, x.state ≠ .open := by
  obtain ⟨hmem, -, ho⟩ := open?_mem he
  exact (closeMessage_settled f e s).none_open (closedWith_none_open hl hmem ho)

/-- After the close of a direction's message none of that direction is OPEN. -/
theorem closeOpen_closes (d : Dir) (hl : s.store.layoutInv) :
    ∀ x ∈ (closeOpen d f s).store.dir, x.dir = d → x.state ≠ .open := by
  unfold closeOpen
  split
  next hnone =>
    intro x hx hd ho
    have := List.find?_eq_none.mp hnone x hx
    simp [hd, ho] at this
  next e he => exact fun x hx _ => closeMessage_none_open f hl he x hx

end Close

end Sys2Proof.Machine
end


section
/-! SUPPORT. The opening of messages, the deliveries, the long signals and the entry to CLEARING keep the invariants. -/

-- One theorem after another: the check elaborates the whole text at once, where too many threads would wait for the kernel.
set_option Elab.async false

namespace Sys2Proof.Machine

/-! ### Opening (R148, R172) -/

section Opening

/-- A message is opened in a store with no OPEN one, and with a free entry and a free cell. -/
theorem opened_keeps {s s0 : State} {d : Dir} {rate : Option Rate} {q : Nat} (h : Keeps s s0) (hlen : s0.store.dir.length < 64)
    (hl : s.store.layoutInv → 1 ≤ s0.store.free ∧ ∀ e ∈ s0.store.dir, e.state ≠ .open)
    (hd : d = .out ∨ s0.call.state = .connected) :
    Keeps s { s0 with store := (s0.store.openEntry d rate q).1 } where
  call := h.call
  rx := h.rx
  reports := h.reports
  holding := h.holding
  mem x := ⟨(h.mem x).1, openEntry_fits (h.mem x).2⟩
  cursor x := openEntry_cursor (h.cursor x)
  queue := h.queue
  dir _ := Nat.le_trans (Nat.le_of_eq openEntry_dir_length) hlen
  debt := h.debt
  layout l := openEntry_layout hlen (hl l).1 (hl l).2 (h.layout l)
  text := h.text
  kb := h.kb
  pr := h.pr
  pu := h.pu
  conv := h.conv
  ring := h.ring
  named c l x n hn := openEntry_live (.inl (h.named c l x n hn))
  openIn c l x ho := by
    rcases hd with rfl | hconnected
    · exact h.openIn c l x (openEntry_openIn_out ho)
    · exact hconnected

variable (s : State)

theorem suspendJob_dir (s : State) : (suspendJob s).store.dir = s.store.dir := by
  unfold suspendJob
  split
  · exact abandon_dir ..
  · rfl

theorem noteLiveWork_dir (s : State) : (noteLiveWork s).store.dir = s.store.dir := by
  unfold noteLiveWork
  split
  · rfl
  · exact suspendJob_dir _

theorem trackMessage_keeps {n : Nat} (hn : s.store.Live n) : Keeps s (trackMessage n s) := by
  have htrack : Keeps s { s with
      pr := if s.pr.mode = .catchUp ∧ s.pr.catchUp = none then { s.pr with tracked := some n, catchUp := some n }
        else { s.pr with tracked := some n } } := by
    split
    · refine Keeps.ofPr s id fun _ k hk => ?_
      rcases hk with hk | hk | hk
      · exact .inl (.inl hk)
      · exact .inr (Option.some.inj hk ▸ hn)
      · exact .inr (Option.some.inj hk ▸ hn)
    · refine Keeps.ofPr s id fun _ k hk => ?_
      rcases hk with hk | hk | hk
      · exact .inl (.inl hk)
      · exact .inr (Option.some.inj hk ▸ hn)
      · exact .inl (.inr (.inr hk))
  exact (htrack.trans (Keeps.ofStore _ (trackedMark_kept n s.store))).trans (noteLiveWork_keeps _)

theorem trackMessage_live {n : Nat} (hn : s.store.Live n) : (trackMessage n s).store.Live n := by
  obtain ⟨e, he, hnum, hs⟩ := (trackedMark_kept n s.store).live n hn
  refine ⟨e, ?_, hnum, hs⟩
  unfold trackMessage
  rw [noteLiveWork_dir]
  exact he

theorem openIncoming_keeps (row : Row) (hconnected : s.call.state = .connected) (hnone : s.store.open? .in = none)
    (hcan : s.store.canOpen .in = true) : Keeps s (openIncoming row s) := by
  obtain ⟨hlen, hfree⟩ := (Store.canOpen_in_iff s.store).mp hcan
  have hcall : (closeOpen .out MsgFlags.justTruncated s).call = s.call := by simp
  have hopened := opened_keeps (d := .in) (rate := (closeOpen .out MsgFlags.justTruncated s).call.rate)
    (q := (closeOpen .out MsgFlags.justTruncated s).rx.q) (closeOpen_keeps MsgFlags.justTruncated .out s)
    (Nat.lt_of_le_of_lt (closeOpen_dir_length .out MsgFlags.justTruncated s) hlen)
    (fun l => by
      have hcalm := closeOpen_calm MsgFlags.justTruncated .out l
      refine ⟨?_, fun x hx ho => ?_⟩
      · have := hcalm.free
        omega
      · cases hd : x.dir using Dir.eachWay with
        | outgoing => exact closeOpen_closes MsgFlags.justTruncated .out l x hx hd ho
        | incoming =>
          obtain ⟨e, he, hex⟩ := hcalm.source x hx
          have hno := List.find?_eq_none.mp hnone e he
          simp [← hex.dir, hd, hex.stillOpen ho] at hno)
    (.inr (hcall ▸ hconnected))
  unfold openIncoming
  dsimp only
  generalize hs0 : closeOpen .out MsgFlags.justTruncated s = s0 at hopened ⊢
  have hlive : (s0.store.openEntry .in s0.call.rate s0.rx.q).1.Live (s0.store.openEntry .in s0.call.rate s0.rx.q).2 :=
    openEntry_live (.inr rfl)
  generalize (s0.store.openEntry .in s0.call.rate s0.rx.q).2 = n at hlive ⊢
  have htracked : ∀ s1 : State, s1.store.Live n →
      Keeps s1 (if row.printer then trackMessage n s1 else s1)
        ∧ (if row.printer then trackMessage n s1 else s1).store.Live n := by
    intro s1 h1
    split
    · exact ⟨trackMessage_keeps s1 h1, trackMessage_live s1 h1⟩
    · exact ⟨.refl s1, h1⟩
  obtain ⟨htrack, hlive2⟩ := htracked { s0 with store := (s0.store.openEntry .in s0.call.rate s0.rx.q).1 } hlive
  refine (hopened.trans htrack).trans (Keeps.trans ?_ (raise_keeps _ _))
  revert hlive2
  generalize (if row.printer then trackMessage n _ else _ : State) = s2
  intro hlive2
  split
  · exact (followMessage_keeps _ hlive2).trans (punchSettle_keeps _)
  · exact .refl _

end Opening

/-! ### Growing (R173) -/

section Growing

variable (s : State)

theorem storeInto_keeps {d : Dir} {e : Entry} (c : StationCode) (he : s.store.open? d = some e) :
    Keeps s (storeInto e c s).1 := by
  obtain ⟨-, hd, -⟩ := open?_mem he
  have heDir : s.store.open? e.dir = some e := hd.symm ▸ he
  unfold storeInto
  dsimp only
  split
  · exact Keeps.ofStore s (storeChar_kept heDir)
  · dsimp only
    split
    · exact Keeps.ofStore s (setFlags_kept _ _ s.store)
    · exact .refl s
  · exact closeMessage_keeps _ he

theorem deliverInto_keeps {d : Dir} {e : Entry} (c : StationCode) (he : s.store.open? d = some e) :
    Keeps s (deliverInto e c s).state := by
  have hstore := storeInto_keeps s c he
  unfold deliverInto
  split
  next s1 pos h =>
    rw [h] at hstore
    exact hstore.trans (punchSettle_keeps _)
  next s1 h =>
    rw [h] at hstore
    exact hstore
  next s1 h =>
    rw [h] at hstore
    exact hstore

theorem deliverLineIn_keeps (row : Row) (c : StationCode) (hconnected : s.call.state = .connected) :
    Keeps s (deliverLineIn row c s).state := by
  unfold deliverLineIn
  split
  next e he => exact deliverInto_keeps s c he
  next hnone =>
    split
    next hcan =>
      have hopen := openIncoming_keeps s row hconnected hnone hcan
      dsimp only
      split
      next e he => exact hopen.trans (deliverInto_keeps _ c he)
      · exact hopen
    · exact .refl s

theorem deliverStore_keeps (src : Source) (row : Row) (c : StationCode) (h : src = .lineIn → s.call.state = .connected) :
    Keeps s (deliverStore src row c s).state := by
  unfold deliverStore
  split
  · split
    · exact deliverLineIn_keeps s row c (h rfl)
    · split
      next e he => exact deliverInto_keeps s c he
      · exact .refl s
    · exact .refl s
    · split
      next e he => exact deliverInto_keeps s c he
      · exact .refl s
  · exact .refl s

end Growing

/-! ### The other sinks (R73 to R78) -/

section Sinks

variable (s : State)

theorem deliverPrinter_keeps (row : Row) (c : StationCode) (stored : Option Tag) :
    Keeps s (deliverPrinter row c stored s) := by
  unfold deliverPrinter
  split
  next t ht =>
    obtain ⟨-, htracked⟩ := Option.filter_eq_some_iff.mp ht
    exact deliverTagged_keeps s c (of_decide_eq_true htracked)
  · split
    · exact deliverUntagged_keeps s c
    · exact .refl s

theorem deliverPunch_keeps (src : Source) (row : Row) (c : StationCode) (stored : Option Tag) :
    Keeps s (deliverPunch src row c stored s) := by
  unfold deliverPunch
  split
  · exact .refl s
  · split
    next h => exact punchDirect_keeps s c h.2.2
    · exact .refl s

/-- The code that joins a TEXT report leaves the count, the classes and the kinds of the reports. -/
theorem appendText_map {α : Type} {f : Report → α} (hf : ∀ src a b, f (.text src a) = f (.text src b)) (c : StationCode)
    (rs : List Report) : (appendText c rs).map f = rs.map f := by
  induction rs with
  | nil => rfl
  | cons r rest ih =>
    cases r with
    | text src codes =>
      unfold appendText
      split
      · rw [List.map_cons, ih, List.map_cons]
      · rw [List.map_cons, List.map_cons, hf src _ codes]
    | _ => exact congrArg (List.cons _) ih

theorem appendText_ok (c : StationCode) {rs : List Report} (h : ReportsOk rs) : ReportsOk (appendText c rs) := by
  obtain ⟨hlen, hcount, hkinds⟩ := h
  have hmap := appendText_map (f := fun r => (r.isCounted, r.isStatus, r.kind)) (fun _ _ _ => rfl) c rs
  have hsplit (l : List Report) : countedReports l = (l.map fun r => (r.isCounted, r.isStatus, r.kind)).countP Prod.fst
      ∧ (l.filter Report.isStatus).map Report.kind =
        ((l.map fun r => (r.isCounted, r.isStatus, r.kind)).filter fun x => x.2.1).map fun x => x.2.2 := by
    rw [List.countP_map, List.filter_map, List.map_map]
    exact ⟨rfl, rfl⟩
  refine ⟨?_, ?_, ?_⟩
  · rw [← List.length_map (f := fun r => (r.isCounted, r.isStatus, r.kind)), hmap, List.length_map]
    exact hlen
  · rw [(hsplit _).1, hmap, ← (hsplit _).1]
    exact hcount
  · rw [(hsplit _).2, hmap, ← (hsplit _).2]
    exact hkinds

theorem deliverLink_keeps (src : Source) (row : Row) (c : StationCode) : Keeps s (deliverLink src row c s) := by
  unfold deliverLink
  split
  · exact .refl s
  · split
    · refine Keeps.ofLink s fun h => ?_
      rw [reportsInv_iff] at h ⊢
      exact ⟨appendText_ok c h.1, h.2⟩
    · split
      · exact raise_keeps s _
      · exact {}

theorem takeAt_keeps (src : Source) (row : Row) (c : StationCode) (h : src = .lineIn → s.call.state = .connected) :
    Keeps s (takeAt src row c s).1 :=
  ((((deliverStore_keeps s src row c h).trans (deliverPrinter_keeps _ row c _)).trans
    (deliverPunch_keeps _ src row c _)).trans (deliverLink_keeps _ src row c)).trans (touchStandby_keeps _)

end Sinks

/-! ### Flush, breaks and playbacks (R44 to R50, R156) -/

section Signals

variable (s : State)

theorem takeBack_active (lost : List Bool) (a : Agreement) : (a.takeBack lost).active = a.active := by
  unfold Agreement.takeBack
  split <;> rfl

theorem flush_keeps (l : Level) : Keeps s (flush l s) where
  call h := by
    obtain ⟨hloop, hactive, hwait, hwake, hsignal⟩ := h
    exact ⟨hloop, fun ha => hactive ((takeBack_active _ s.agr).symm.trans ha), hwait, hwake, hsignal⟩

theorem pausePlayback_keeps : Keeps s (pausePlayback s) := by
  unfold pausePlayback
  split
  next hr =>
    exact (Keeps.ofStore s (abandon_kept s.store .playback)).trans
      (Keeps.ofPlay _ fun _ n hn => .inl ⟨.inl hr, hn.2⟩)
  · exact .refl s

theorem sendBreak_keeps : Keeps s (sendBreak s) := by
  have hsignal : Keeps (flush .space s) { flush .space s with
      tx := { (flush .space s).tx with signal := .brk 0 }, conv := { (flush .space s).conv with txPlane := .unknown } } :=
    (Keeps.ofTx (x := { (flush .space s).tx with signal := .brk 0 }) _ nofun).trans {}
  exact (((flush_keeps s .space).trans hsignal).trans (pausePlayback_keeps _)).trans {}

theorem receivedBreak_keeps : Keeps s (receivedBreak s) := by
  unfold receivedBreak
  dsimp only
  generalize (if s.tx.signal = .none then Level.mark else s.tx.txd) = l
  have hplane : Keeps (flush l s) { flush l s with conv := { (flush l s).conv with txPlane := .unknown } } := {}
  refine (((flush_keeps s l).trans hplane).trans (pausePlayback_keeps _)).trans (Keeps.trans ?_ (raise_keeps _ _))
  exact {}

theorem cancelPlayback_keeps : Keeps s (cancelPlayback s) := by
  unfold cancelPlayback
  split
  · have hcancel : Keeps s { s with
        call := { s.call with play := { s.call.play with state := .cancelled, buf := [], skipped := [] } }
        store := s.store.abandon .playback } :=
      (Keeps.ofStore s (abandon_kept s.store .playback)).trans
        (Keeps.ofPlay _ fun _ n hn => hn.1.elim nofun nofun)
    exact (hcancel.trans (raise_keeps _ _)).trans (autoReleaseTest_keeps _ _)
  · exact .refl s

/-! ### The end of a call and the entry to CLEARING (R153, R154) -/

theorem toHunt_inv {r : Receiver} (h : r.inv) : r.toHunt.inv := by
  obtain ⟨hq, hn, ha, hs, hs0, hspace, hloss, hbrk, hclr, hqt, -, -⟩ := h
  exact ⟨hq, hn, ha, hs, hs0, hspace, hloss, hbrk, hclr, hqt, Nat.zero_le 6, nofun⟩

theorem callEnd_keeps (hs : s.callInv → s.call.state = .clearing) : Keeps s (callEnd s) := by
  refine Keeps.trans (Keeps.trans (t := { s with
      tx := { s.tx with signal := .none, txd := .mark }
      rx := s.rx.toHunt
      pr := { s.pr with unavailable := false }
      conv := { s.conv with txPlane := .unknown }
      call := { s.call with
        state := .idle, loopClose := false, callMode := none, ringCount := 0, lossCount := 0, reached := false
        standbyTimer := timerOf s.call.standbyAfter } }) ?_ (offComparison_keeps _)) (raise_keeps _ _)
  refine { call := fun h => ?_, rx := toHunt_inv, ring := fun _ => Nat.zero_le 16, openIn := fun c _ x ho => ?_ }
  · have hstate := hs h
    obtain ⟨-, hactive, hwait, hwake, -⟩ := h
    rw [hstate] at hactive hwait hwake
    exact ⟨rfl, fun ha => (nomatch hactive ha), fun ha => (nomatch hwait ha), fun ha => (nomatch hwake ha),
      fun ha => (Bool.false_ne_true ha).elim⟩
  · exact nomatch (hs c).symm.trans (x ho)

/-- The state that the clearing of a call begins with, before its playback and its message end. -/
def clearingState (cause : Cause) (s : State) : State :=
  { s with
    call := { s.call with
      state := .clearing, cause := cause, verdict := s.clearingVerdict
      ceilingLeft := (s.agr.moveCeiling s.clearingVerdict).ceiling, lossCount := 0, loopTimer := none, idleTimer := none }
    rx := { s.rx with spaceCount := 0, lossCount := 0 }
    agr := { s.agr.moveCeiling s.clearingVerdict with active := false }
    tx := s.tx.cancelDuty }

theorem clearingState_holds (cause : Cause) (hs : s.callInv → s.call.state.closesLoop = true) :
    Holds s (clearingState cause s) where
  call h := by
    have hcloses := hs h
    obtain ⟨hloop, -, hwait, hwake, -⟩ := h
    refine ⟨hloop.trans hcloses, fun ha => (Bool.false_ne_true ha).elim, fun ha => ?_, fun ha => ?_, fun _ => rfl⟩
    · rw [hwait ha] at hcloses
      cases hcloses
    · rw [hwake ha] at hcloses
      cases hcloses
  rx h := by
    obtain ⟨hq, hn, ha, hs, hs0, -, -, hrest⟩ := h
    exact ⟨hq, hn, ha, hs, hs0, Nat.zero_le 255, Nat.zero_lt_succ 3, hrest⟩

theorem enterClearing_keeps (cause : Cause) (hs : s.callInv → s.call.state.closesLoop = true) :
    Keeps s (enterClearing cause s) := by
  have hcancel := cancelPlayback_keeps (clearingState cause s)
  have hbegun : Holds s (clearingBegun cause s) :=
    ((clearingState_holds s cause hs).trans hcancel.toHolds).trans
      (closeOpen_keeps (clearFlags s.clearingVerdict) .in _).toHolds
  have hnone : s.store.layoutInv → ¬(clearingBegun cause s).store.OpenIn := by
    rintro l ⟨e, he, hin, ho⟩
    exact closeOpen_closes (clearFlags s.clearingVerdict) .in (hcancel.layout l) e he hin ho
  have hstate (l : Level) : (flush l (clearingBegun cause s)).call.state = .clearing := by
    show (clearingBegun cause s).call.state = .clearing
    simp [clearingBegun, cancelPlayback_call]
  have hrest : Keeps (clearingBegun cause s) (enterClearing cause s) := by
    by_cases hcause : cause = .lineLost
    · rw [hcause, enterClearing_of_lineLost, ← hcause]
      refine ((flush_keeps _ .mark).trans (Keeps.ofTx
        (x := { (flush .mark (clearingBegun cause s)).tx with signal := .none }) _ nofun)).trans ?_
      exact callEnd_keeps _ fun _ => hstate .mark
    · rw [enterClearing_of_other s hcause]
      refine (flush_keeps _ .space).trans { call := fun h => ?_ }
      obtain ⟨hloop, hactive, hwait, hwake, -⟩ := h
      exact ⟨hloop, hactive, hwait, hwake, fun _ => hstate .space⟩
  exact { toHolds := hbegun.trans hrest.toHolds
          openIn := fun c l _ => hrest.openIn (hbegun.call c) (hbegun.layout l) fun ho => absurd ho (hnone l) }

theorem storeFullAct_keeps (full : Bool) : Keeps s (storeFullAct full s) := by
  unfold storeFullAct
  split
  next h =>
    obtain ⟨-, hc, -⟩ := h
    exact enterClearing_keeps s .storeFull fun _ => by rw [hc]; rfl
  · exact .refl s

theorem routerTake_keeps {src : Source} (c : StationCode) (h : src ≠ .lineIn) : Keeps s (routerTake src c s) :=
  (takeAt_keeps s src _ c fun hs => absurd hs h).trans (storeFullAct_keeps _ _)

end Signals

end Sys2Proof.Machine
end


section
/-! SUPPORT. Rate agreement, the answerback duty, the playback and the transmitter's arbiter keep the invariants. -/

-- One theorem after another: the check elaborates the whole text at once, where too many threads would wait for the kernel.
set_option Elab.async false

namespace Sys2Proof.Machine

/-! ### The answerback duty (R45, R46) -/

section Answerback

variable (s : State)

theorem takeAnswerback_keeps (cs : List StationCode) : Keeps s (takeAnswerback cs s) := by
  induction cs generalizing s with
  | nil => exact .refl s
  | cons c rest ih => exact (routerTake_keeps s (src := .answerback) c Source.noConfusion).trans (ih _)

theorem triggerAnswerback_keeps : Keeps s (triggerAnswerback s) := by
  unfold triggerAnswerback
  split
  · exact .refl s
  · split
    · exact raise_keeps s _
    · dsimp only
      split
      · have hduty : Keeps s { s with tx := { s.tx.wantDuty with duty := .sending } } := {}
        exact (hduty.trans (takeAnswerback_keeps _ _)).trans {}
      · exact {}

end Answerback

/-! ### Connect and CONNECTED (R146, R147) -/

section Connect

variable (s : State)

theorem resetFigures_inv {r : Receiver} (h : r.inv) : r.resetFigures.inv := by
  obtain ⟨-, -, -, -, hs0, hrest⟩ := h
  refine ⟨Nat.zero_le 4096, Nat.zero_le 65535, ⟨(by decide : (-47 : Int) ≤ 0), (by decide : (0 : Int) ≤ 47)⟩, ?_, hs0, hrest⟩
  unfold Receiver.resetFigures
  dsimp only
  split
  · decide
  · exact hs0

theorem connect_inv {r : Receiver} (h : r.inv) : r.connect.inv := by
  obtain ⟨hq, hn, ha, hs, hs0, -, -, hrest⟩ := resetFigures_inv h
  exact ⟨hq, hn, ha, hs, hs0, Nat.zero_le 255, Nat.zero_lt_succ 3, hrest⟩

theorem connect_keeps (hs : s.call.state = .answering ∨ s.call.state = .originating) : Keeps s (connect s) where
  call h := by
    obtain ⟨hloop, -, hwait, hwake, hsignal⟩ := h
    refine ⟨?_, fun _ => rfl, fun ha => ?_, fun ha => ?_, fun ha => ?_⟩
    · rcases hs with hs | hs <;> exact hloop.trans (by rw [hs]; rfl)
    · rcases hs with hs | hs <;> exact nomatch hs.symm.trans (hwait ha)
    · rcases hs with hs | hs <;> exact nomatch hs.symm.trans (hwake ha)
    · rcases hs with hs | hs <;> exact nomatch hs.symm.trans (hsignal ha)
  rx := connect_inv
  named _ _ x n hn := by
    rw [named_blocks] at hn
    refine x n ((named_blocks s n).mpr ?_)
    rcases hn with hn | hn | ⟨hn, -⟩ | hn
    · exact .inl hn
    · exact .inr (.inl hn)
    · exact (hn.elim nofun nofun)
    · exact .inr (.inr (.inr hn))
  openIn _ _ x ho := by
    rcases hs with hs | hs <;> exact nomatch hs.symm.trans (x ho)

theorem callConnected_keeps (rate : Rate) (outcome : AgreeOutcome) (quality : Option Bool)
    (hs : s.callInv → s.call.state = .agreeing) : Keeps s (callConnected rate outcome quality s) := by
  have hconnected : Keeps s { s with
      agr := { s.agr with active := false }
      call := { s.call with
        state := .connected, rate := some rate, outcome := some outcome, partnerQuality := quality, reached := true
        idleTimer := timerOf s.call.idleClear } } :=
    { call := fun h => by
        have hstate := hs h
        obtain ⟨hloop, -, hwait, hwake, hsignal⟩ := h
        rw [hstate] at hloop hwait hwake hsignal
        exact ⟨hloop, fun ha => (Bool.false_ne_true ha).elim, fun ha => (nomatch hwait ha), fun ha => (nomatch hwake ha),
          fun ha => (nomatch hsignal ha)⟩
      openIn := fun _ _ _ _ => rfl }
  have hraised := hconnected.trans (raise_keeps _ (.callConnected rate outcome quality))
  unfold callConnected
  dsimp only
  split
  · exact hraised.trans (triggerAnswerback_keeps _)
  · exact hraised

theorem makeSwitches_keeps (hs : s.callInv → s.call.state = .agreeing) : Keeps s (makeSwitches s) := by
  have hswitch (txRate : Rate) (rxNow txSwitched rxSwitched : Bool) : Keeps s { s with
      tx := { s.tx with rate := txRate }
      rx := if rxNow then { s.rx.resetFigures with rate := s.agr.agreedRate } else s.rx
      agr := { s.agr with txSwitched := txSwitched, rxSwitched := rxSwitched } } := by
    cases rxNow
    · exact {}
    · exact { rx := resetFigures_inv }
  unfold makeSwitches endIfSwitched
  dsimp only
  split
  · refine (hswitch _ _ _ _).trans (callConnected_keeps _ _ _ _ fun h => hs ?_)
    exact h
  · exact hswitch _ _ _ _

theorem fallBack_keeps (outcome : AgreeOutcome) (hs : s.callInv → s.call.state = .agreeing) :
    Keeps s (fallBack outcome s) := by
  have hrate : Keeps s { s with tx := { s.tx with rate := .r50 } } := {}
  unfold fallBack
  dsimp only
  split
  · have hlatch : Keeps s { s with
        tx := { s.tx with rate := .r50 }, latches := { s.latches with agreementFault := true } } := {}
    refine (hlatch.trans (raise_keeps _ .agreementFault)).trans (callConnected_keeps _ _ _ _ fun h => ?_)
    simp only [raise_frame, State.callInv] at h ⊢
    exact hs h
  · exact hrate.trans (callConnected_keeps _ _ _ _ hs)

theorem misfit_keeps (hs : s.callInv → s.call.state = .agreeing) : Keeps s (misfit s).1 := by
  unfold misfit
  split
  · exact {}
  · exact fallBack_keeps s .plain hs

theorem judge_active (m1 m2 : RawCode) (a : Agreement) : (a.judge m1 m2).active = a.active := by
  unfold Agreement.judge
  dsimp only
  split
  · rfl
  · split
    · split <;> rfl
    · split <;> rfl

theorem agreementTake_keeps (r : Option RawCode) (hs : s.callInv → s.call.state = .agreeing) :
    Keeps s (agreementTake r s).1 := by
  unfold agreementTake
  split
  · exact misfit_keeps s hs
  · split
    · exact {}
    · exact misfit_keeps s hs
  · split
    · exact {}
    · exact misfit_keeps s hs
  · exact {}
  next r m1 _ =>
    have hjudge : Keeps s { s with agr := s.agr.judge m1 r } :=
      Keeps.ofAgr s fun ha => (judge_active m1 r s.agr).symm.trans ha
    refine hjudge.trans (makeSwitches_keeps _ fun h => hs ?_)
    obtain ⟨hloop, hactive, hrest⟩ := h
    exact ⟨hloop, fun ha => hactive ((judge_active m1 r s.agr).trans ha), hrest⟩

end Connect

/-! ### The slots (R40, R42) -/

section Slots

variable (s : State)

theorem moveUp_signal (t : Transmitter) : t.moveUp.signal = t.signal := by
  unfold Transmitter.moveUp
  split <;> rfl

theorem settleSlots_keeps : Keeps s (settleSlots s) := by
  have hmove : Keeps s { s with tx := s.tx.moveUp } :=
    Keeps.ofTx s fun h => by rwa [moveUp_signal] at h
  unfold settleSlots
  dsimp only
  split
  next x _ _ =>
    refine hmove.trans (Keeps.trans (t := { s with tx := { s.tx.moveUp with next := some x }.moveUp }) ?_ {})
    exact Keeps.ofTx _ fun h => by rwa [moveUp_signal] at h
  · exact hmove

theorem enterNext_keeps (x : Slot) : Keeps s (enterNext x s) := by
  have hnext : Keeps s { s with tx := { s.tx with next := some x } } := {}
  exact hnext.trans (settleSlots_keeps _)

end Slots

/-! ### The playback (R50, R156) -/

section Playback

variable (s : State)

theorem playbackAsk_keeps : Keeps s (playbackAsk s) := by
  unfold playbackAsk
  dsimp only
  split
  · exact (Keeps.ofStore s (askPlayback_kept s.store s.mem s.call.play.number s.call.play.readPos)).trans {}
  · exact .refl s

theorem advanceSent_keeps (v : Nat) : Keeps s (advanceSent v s) := by
  unfold advanceSent
  dsimp only
  generalize passOver s.call.play.skipped s.call.play.skipped.length v = w
  have hsent : Keeps s { s with
      store := s.store.setSent s.call.play.number w
      call := { s.call with
        play := { s.call.play with skipped := s.call.play.skipped.filter fun x => decide (w ≤ x) } } } :=
    (Keeps.ofStore s (setSent_kept s.call.play.number w s.store)).trans {}
  split
  · have hdone : Keeps s { s with
        store := s.store.setSent s.call.play.number w
        call := { s.call with play := { s.call.play with
          state := .done, skipped := s.call.play.skipped.filter fun x => decide (w ≤ x) } } } :=
      (Keeps.ofStore s (setSent_kept s.call.play.number w s.store)).trans
        (Keeps.ofPlay _ fun _ n hn => hn.1.elim nofun nofun)
    exact (hdone.trans (raise_keeps _ _)).trans (autoReleaseTest_keeps _ _)
  · exact hsent

theorem skipPlayback_keeps (pos : Nat) : Keeps s (skipPlayback pos s) := by
  unfold skipPlayback
  dsimp only
  split
  · exact advanceSent_keeps s _
  · exact {}

theorem countAnswerback_keeps (v : Nat) : Keeps s (countAnswerback v s) := by
  unfold countAnswerback
  dsimp only
  split <;> exact {}

theorem skipAnswerback_keeps (i : Nat) : Keeps s (skipAnswerback i s) := by
  unfold skipAnswerback
  split
  · exact countAnswerback_keeps s _
  · exact {}

theorem sentNotice_keeps (x : Slot) : Keeps s (sentNotice x s) := by
  unfold sentNotice
  split
  · split
    next hactive =>
      have hsent : Keeps s { s with agr := { s.agr with sent := s.agr.sent + 1 } } := {}
      exact hsent.trans (makeSwitches_keeps _ fun h => h.2.1 hactive)
    · exact .refl s
  · split
    · exact .refl s
    · exact countAnswerback_keeps s _
  · split
    · exact advanceSent_keeps s _
    · exact .refl s
  · exact .refl s

end Playback

/-! ### The arbiter (R42, R71, R77) -/

section Arbiter

variable (s : State)

theorem lineOut_keeps (src : SlotSource) (i run : Nat) (c : StationCode) : Keeps s (lineOut src i run c s).1 := by
  unfold lineOut
  split
  · exact raise_keeps s _
  next e _ =>
    dsimp only
    split
    · have hplane : Keeps s { s with conv := { s.conv with txPlane := e.plane } } := {}
      exact hplane.trans (enterNext_keeps _ _)
    · have hplane : Keeps s { s with conv := { s.conv with txPlane := e.plane, held := some ⟨e.code, src, .char, i, run⟩ } } := {}
      exact hplane.trans (enterNext_keeps _ _)

theorem winTake_keeps {src : Source} (slot : SlotSource) (i run : Nat) (c : StationCode) {unsent : State → State}
    (hsrc : src ≠ .lineIn) (hu : ∀ s, Keeps s (unsent s)) : Keeps s (winTake src slot i run c unsent s).1 := by
  have hline := (takeAt_keeps s src (s.row src) c fun h => absurd h hsrc).trans (lineOut_keeps _ slot i run c)
  unfold winTake
  dsimp only
  split
  · exact hline.trans (storeFullAct_keeps _ _)
  · exact (hline.trans (hu _)).trans (storeFullAct_keeps _ _)

theorem give_active (a : Agreement) : a.give.2.active = a.active := by
  unfold Agreement.give
  split <;> rfl

theorem fillOffer_keeps : Keeps s (fillOffer s) := by
  have hgive : Keeps s { s with agr := s.agr.give.2 } := Keeps.ofAgr s fun h => (give_active s.agr).symm.trans h
  exact hgive.trans (enterNext_keeps _ _)

theorem fillAnswerback_keeps (c : StationCode) : Keeps s (fillAnswerback c s).1 := by
  have hgiven : Keeps s { s with tx := { s.tx with duty := .sending, given := s.tx.given + 1 } } := {}
  exact hgiven.trans (winTake_keeps _ _ _ _ _ Source.noConfusion fun s => skipAnswerback_keeps s _)

theorem fillPlayback_keeps (c : StationCode) (rest : List StationCode) : Keeps s (fillPlayback c rest s).1 := by
  have hread : Keeps s { s with call := { s.call with
      play := { s.call.play with buf := rest, readPos := s.call.play.readPos + 1 } } } := {}
  exact (hread.trans (winTake_keeps _ _ _ _ _ Source.noConfusion fun s => skipPlayback_keeps s _)).trans (playbackAsk_keeps _)

theorem dropKey_keeps : Keeps s (dropKey s) :=
  Keeps.ofKb s fun ⟨hlist, hbuffer, hrest⟩ => ⟨hlist, by rw [List.length_tail]; omega, hrest⟩

theorem dropLinkText_keeps : Keeps s (dropLinkText s) :=
  Keeps.ofRouter s fun h => by rw [List.length_tail]; omega

theorem fillLinkText_keeps : Keeps s (fillLinkText s).1 := by
  unfold fillLinkText
  split
  · split
    · exact (dropLinkText_keeps s).trans (winTake_keeps _ _ _ _ _ Source.noConfusion Keeps.refl)
    · exact .refl s
  · exact .refl s

theorem fillHolding_keeps : Keeps s (fillHolding s).1 := by
  unfold fillHolding
  split
  · split
    · exact (dropKey_keeps s).trans (winTake_keeps _ _ _ _ _ Source.noConfusion Keeps.refl)
    · exact fillLinkText_keeps s
  · exact fillLinkText_keeps s

theorem fillWaiting_keeps : Keeps s (fillWaiting s).1 := by
  unfold fillWaiting
  split
  · split
    · exact fillPlayback_keeps s _ _
    · exact fillHolding_keeps s
  · exact fillHolding_keeps s

theorem fillText_keeps : Keeps s (fillText s).1 := by
  unfold fillText
  split
  · split
    · exact fillWaiting_keeps s
    · exact fillAnswerback_keeps s _
  · exact fillWaiting_keeps s

theorem chooseNext_keeps : Keeps s (chooseNext s).1 := by
  unfold chooseNext
  split
  · exact .refl s
  · split
    · exact settleSlots_keeps s
    · split
      · dsimp only
        split
        · exact fillOffer_keeps s
        · exact .refl s
      · exact fillText_keeps s

theorem arbiter_keeps (n : Nat) : Keeps s (refill n s) := by
  induction n generalizing s with
  | zero => exact .refl s
  | succ n ih =>
    unfold refill
    dsimp only
    split
    · exact (chooseNext_keeps s).trans (ih _)
    · exact chooseNext_keeps s

end Arbiter

end Sys2Proof.Machine
end


section
/-! SUPPORT. Rings, the start of a call, standby and wake keep the invariants. -/

-- One theorem after another: the check elaborates the whole text at once, where too many threads would wait for the kernel.
set_option Elab.async false

namespace Sys2Proof.Machine

variable {s : State}

/-! ### The call controller off the loop (R140 to R144, R157 to R159) -/

/-- A change of the call controller where no loop is closed: no rate agreement runs, no clear signal is sent and no IN entry is
OPEN, so that only the controller's own flags can be out of place. -/
theorem Keeps.offLoop {c : CallCtl} (hs : s.callInv → s.call.state.closesLoop = false)
    (hloop : s.call.loopClose = false → c.loopClose = c.state.closesLoop)
    (hwait : s.callInv → c.attendedWait = true → c.state = .ringCheck)
    (hwake : s.callInv → c.waking = true → c.state = .standby)
    (hring : s.call.ringCount ≤ 16 → c.ringCount ≤ 16 := by exact id)
    (hplay : ∀ n, c.play.Names n → s.call.play.Names n := by exact fun _ => id) : Keeps s { s with call := c } := by
  refine Keeps.ofCall s (fun h => ?_) hring hplay fun h hopen ho => ?_
  · have hoff := hs h
    obtain ⟨hclose, hactive, -, -, hsignal⟩ := id h
    refine ⟨hloop (hclose.trans hoff), fun ha => ?_, hwait h, hwake h, fun ha => ?_⟩
    · exact nomatch hoff.symm.trans (congrArg CallState.closesLoop (hactive ha))
    · exact nomatch hoff.symm.trans (congrArg CallState.closesLoop (hsignal ha))
  · exact nomatch (hs h).symm.trans (congrArg CallState.closesLoop (hopen ho))

theorem closesLoop_of_eq {st : CallState} (hs : s.call.state = st) (hst : st.closesLoop = false) :
    s.callInv → s.call.state.closesLoop = false := fun _ => hs ▸ hst

theorem ringCheck_of_waiting (hw : s.call.attendedWait = true) (h : s.callInv) : s.call.state = .ringCheck := by
  obtain ⟨-, -, hwait, -, -⟩ := h
  exact hwait hw

theorem standby_of_waking (hw : s.call.waking = true) (h : s.callInv) : s.call.state = .standby := by
  obtain ⟨-, -, -, hwake, -⟩ := h
  exact hwake hw

/-- Where no wake can run, none does. -/
theorem not_waking (hs : s.call.state ≠ .standby) (h : s.callInv) : s.call.waking ≠ true := fun hw => hs (standby_of_waking hw h)

theorem not_waiting (hs : s.call.state ≠ .ringCheck) (h : s.callInv) : s.call.attendedWait ≠ true :=
  fun hw => hs (ringCheck_of_waiting hw h)

/-! ### Rings (R141 to R144) -/

theorem ringToIdle_keeps (hs : s.callInv → s.call.state = .ringCheck ∨ s.call.state = .starting) : Keeps s (ringToIdle s) := by
  refine Keeps.offLoop (fun h => ?_) id (fun _ => nofun) (fun h hw => ?_) fun _ => Nat.zero_le 16
  · rcases hs h with hs | hs <;> rw [hs] <;> rfl
  · refine absurd hw (not_waking (fun hst => ?_) h)
    rcases hs h with hs | hs <;> exact nomatch hs.symm.trans hst

theorem refuseRing_keeps (reason : RingReason) (hs : s.callInv → s.call.state = .ringCheck) : Keeps s (refuseRing reason s) :=
  (ringToIdle_keeps fun h => .inl (hs h)).trans (raise_keeps _ _)

theorem startRingCheck_keeps (hs : s.call.state = .idle) : Keeps s (startRingCheck s) :=
  Keeps.offLoop (closesLoop_of_eq hs rfl) id (fun _ _ => rfl) (fun h hw => absurd hw (not_waking (hs ▸ nofun) h))
    fun _ => Nat.succ_le_succ (Nat.zero_le 15)

theorem enterStarting_keeps (hs : s.callInv → s.call.state = .ringCheck) : Keeps s (enterStarting s) :=
  (Keeps.offLoop (c := { s.call with state := .starting, attendedWait := false, answerWait := none })
    (fun h => by rw [hs h]; rfl) id (fun _ => nofun) fun h hw => absurd hw (not_waking (hs h ▸ nofun) h)).trans
    (requestStart_keeps _)

theorem startAttendedWait_keeps (hs : s.call.state = .ringCheck) : Keeps s (startAttendedWait s) :=
  (Keeps.offLoop (c := { s.call with attendedWait := true, answerWait := some Config.answerWaitTicks })
    (closesLoop_of_eq hs rfl) (hs ▸ id) (fun _ _ => hs) fun h hw => absurd hw (not_waking (hs ▸ nofun) h)).trans (raise_keeps _ _)

theorem qualifyRing_keeps (hs : s.call.state = .ringCheck) : Keeps s (qualifyRing s) := by
  have hcount : Keeps s { s with call := { s.call with ringCount := Config.ringTicks, lockout := true, quiet := 0 } } :=
    Keeps.ofCall s id fun _ => Nat.le_refl 16
  unfold qualifyRing
  dsimp only
  split
  · exact hcount.trans (refuseRing_keeps _ fun _ => hs)
  · split
    · exact hcount.trans (refuseRing_keeps _ fun _ => hs)
    · split
      · exact hcount.trans (enterStarting_keeps fun _ => hs)
      · exact hcount.trans (startAttendedWait_keeps hs)

theorem clearLockout_keeps (s : State) : Keeps s (clearLockout s) := by
  have hclear : Keeps s { s with call := { s.call with lockout := false, quiet := 0 } } := Keeps.ofCall s
  unfold clearLockout
  dsimp only
  split
  next hw => exact hclear.trans (refuseRing_keeps _ (ringCheck_of_waiting hw))
  · exact hclear

theorem firstRing_keeps (s : State) : Keeps s (firstRing s) := Keeps.ofCall s id fun _ => Nat.succ_le_succ (Nat.zero_le 15)

theorem beginWake_keeps (hs : s.call.state = .standby) : Keeps s (beginWake s) :=
  Keeps.offLoop (closesLoop_of_eq hs rfl) (hs ▸ id) (fun h hw => absurd hw (not_waiting (hs ▸ nofun) h)) fun _ _ => hs

theorem ringTick_keeps (asserted : Bool) (s : State) : Keeps s (ringTick asserted s) := by
  unfold ringTick
  split
  · split
    · exact Keeps.ofCall s
    · split
      · exact Keeps.ofCall s
      · exact clearLockout_keeps s
  · split
    next hs => exact startRingCheck_keeps hs
    next hs =>
      split
      · exact Keeps.ofCall s id fun _ => Nat.le_trans (Nat.min_le_left 15 _) (by decide)
      · exact (firstRing_keeps s).trans (beginWake_keeps hs)
    · exact Keeps.ofCall s id fun _ => Nat.zero_le 16
    next hs =>
      split
      next hlt => exact Keeps.ofCall s id fun _ => Nat.le_of_lt hlt
      · exact qualifyRing_keeps hs
    next hs => exact ringToIdle_keeps fun _ => .inl hs
    · exact .refl s

/-! ### The start and the end of a call in STARTING (R144, R145) -/

theorem originate_keeps (hs : s.call.state = .idle) : Keeps s (originate s) :=
  Keeps.offLoop (closesLoop_of_eq hs rfl) (fun _ => rfl) (fun h hw => absurd hw (not_waiting (hs ▸ nofun) h))
    fun h hw => absurd hw (not_waking (hs ▸ nofun) h)

theorem endStarting_keeps (hs : s.call.state = .starting) : Keeps s (endStarting s) :=
  ((Keeps.ofPr s (p := { s.pr with startPending := false })).trans (ringToIdle_keeps fun _ => .inr hs)).trans (raise_keeps _ _)

/-! ### Standby and wake (R157 to R159) -/

theorem endHold_cap {k : Keyboard} (h : k.cap) : k.endHold.cap := by
  obtain ⟨hlist, hbuffer, -, hrest⟩ := h
  exact ⟨hlist, hbuffer, Nat.zero_le 72, hrest⟩

/-- A keyboard that has forgotten its keys holds nothing but its buffer (R85, R95). -/
theorem forget_cap {k : Keyboard} (h : k.cap) : k.forget.cap := by
  obtain ⟨-, hbuffer, -, -, -⟩ := h
  refine ⟨Nat.zero_le 4, hbuffer, Nat.zero_le 72, fun n hn => ?_, Nat.zero_lt_succ 63⟩
  have hzero : n = 0 := by simpa [Keyboard.forget] using hn
  exact hzero ▸ Nat.zero_le 2

theorem startAfresh_cap {k : Keyboard} (h : k.cap) : k.startAfresh.cap := forget_cap (k := k) h

theorem enterStandby_keeps (hs : s.call.state = .idle) : Keeps s (enterStandby s) := by
  have hstore : Keeps s { s with store := s.store.toSelfRefresh } := Keeps.ofStore s (toSelfRefresh_kept _)
  have hrest : Keeps { s with store := s.store.toSelfRefresh } { s with
      store := s.store.toSelfRefresh
      kb := { s.kb.forget with running := false, fresh := false, noted := s.pins.sense }
      link := { s.link with rx := .stopped } } := { kb := fun h => forget_cap (k := s.kb) h }
  exact (hstore.trans hrest).trans (Keeps.offLoop (closesLoop_of_eq hs rfl) id (fun h hw => absurd hw (not_waiting (hs ▸ nofun) h))
    fun _ => nofun)

theorem standbyExpiry_keeps (s : State) : Keeps s (standbyExpiry s) := by
  unfold standbyExpiry
  split
  next h =>
    refine enterStandby_keeps ?_
    simp only [State.standbyOk, Bool.and_eq_true, decide_eq_true_eq] at h
    grind
  · exact touchStandby_keeps s

theorem wakeTick_keeps (s : State) : Keeps s (wakeTick s) := by
  unfold wakeTick
  split
  · exact {}
  · exact .refl s

/-- What a wake's end does out of the call controller: the store leaves self-refresh, scanning starts afresh, the receiver's
level is mark and the link receiver hunts (R159). -/
def awake (s : State) : State :=
  { s with
    store := { s.store with selfRefresh := false, debt := 0, banks := Vector.replicate 4 .closed }
    kb := s.kb.startAfresh
    rx := { s.rx with level := .mark }
    link := { s.link with rx := .hunt } }

theorem awake_keeps (s : State) : Keeps s (awake s) where
  kb := startAfresh_cap
  debt _ := Nat.zero_le 8

end Sys2Proof.Machine
end


section
/-! SUPPORT. The keyboard and the line receiver keep the invariants. -/

-- One theorem after another: the check elaborates the whole text at once, where too many threads would wait for the kernel.
set_option Elab.async false

namespace Sys2Proof.Machine

variable {s : State}

/-! ### The keyboard's lists (R81 to R91) -/

section Caps

variable {k : Keyboard}

theorem setState_cap (key : Nat) (st : KeyState) (h : k.cap) : (k.setState key st).cap := h

theorem setAgree_cap (key : Nat) {n : Nat} (hn : n ≤ 2) (h : k.cap) : (k.setAgree key n).cap := by
  obtain ⟨hlist, hbuffer, hcount, hagree, hpos⟩ := h
  refine ⟨hlist, hbuffer, hcount, fun m hm => ?_, hpos⟩
  obtain ⟨i, hi, rfl⟩ := List.mem_iff_getElem.mp hm
  simp only [Keyboard.setAgree, Vector.getElem_toList, Vector.getElem_setIfInBounds]
  split
  · exact hn
  · exact hagree _ (List.mem_iff_getElem.mpr ⟨i, by simpa using hi, Vector.getElem_toList _⟩)

theorem joinList_cap (key : Nat) (kind : KeyKind) (code : Option StationCode) (hl : k.list.length < 4) (h : k.cap) :
    (k.joinList key kind code).cap := by
  obtain ⟨-, hrest⟩ := h
  refine ⟨?_, hrest⟩
  rw [Keyboard.joinList, List.length_append]
  exact hl

theorem retarget_cap (key : Nat) (code : StationCode) (h : k.cap) : (k.retarget key code).cap := by
  unfold Keyboard.retarget
  split <;> exact h

theorem beginHold_cap (h : k.cap) : k.beginHold.cap := by
  obtain ⟨hlist, hbuffer, -, hrest⟩ := h
  exact ⟨hlist, hbuffer, Nat.zero_le 72, hrest⟩

theorem leaveList_cap (key : Nat) (h : k.cap) : (k.leaveList key).cap := by
  obtain ⟨hlist, hrest⟩ := h
  have hleft : Keyboard.cap { k with list := k.list.filter fun d => d.key != key } :=
    ⟨Nat.le_trans (List.length_filter_le _ _) hlist, hrest⟩
  unfold Keyboard.leaveList
  dsimp only
  split
  · split
    · exact endHold_cap (k := { k with list := k.list.filter fun d => d.key != key, target := none, timer := none }) hleft
    · exact endHold_cap hleft
  · split
    · exact hleft
    · exact hleft

theorem freeGhosts_cap (n : Nat) (h : k.cap) : (k.freeGhosts n).cap := by
  induction n generalizing k with
  | zero => exact h
  | succ n ih =>
    unfold Keyboard.freeGhosts
    split
    · exact h
    next key _ => exact ih (setAgree_cap key (Nat.zero_le 2) (setState_cap key .up h))

theorem agreeOf_le (key : Nat) (h : k.cap) : k.agreeOf key ≤ 2 := by
  obtain ⟨-, -, -, hagree, -⟩ := h
  unfold Keyboard.agreeOf
  cases hk : k.agree[key]? with
  | none => exact Nat.zero_le 2
  | some n => exact hagree n (Vector.mem_toList_iff.mpr (Vector.mem_of_getElem? hk))

theorem scanTo_cap (key : Nat) (down : Bool) (h : s.kb.cap) : (scanTo key down s).kb.cap := by
  have hle := fun i => agreeOf_le i h
  obtain ⟨hlist, hbuffer, hcount, -, -⟩ := h
  refine ⟨hlist, hbuffer, hcount, fun m hm => ?_, Nat.mod_lt _ (by decide)⟩
  obtain ⟨i, hi, rfl⟩ := List.mem_iff_getElem.mp hm
  have hget : (scanTo key down s).kb.agreeOf i = (scanTo key down s).kb.agree.toList[i] := by
    simp only [Keyboard.agreeOf, Vector.getElem_toList]
    rw [Vector.getElem?_eq_getElem (by simpa using hi), Option.getD_some]
  rw [← hget, scanTo_agreeOf key down s (by simpa using hi)]
  split
  · exact Nat.zero_le 2
  · exact hle i

end Caps

/-! ### Recognition (R84, R87 to R93) -/

theorem scanTo_keeps (key : Nat) (down : Bool) (s : State) : Keeps s (scanTo key down s) :=
  { kb := scanTo_cap key down }

theorem offerKey_keeps (key : Nat) (code : StationCode) (rep : Bool) (s : State) : Keeps s (offerKey key code rep s) := by
  unfold offerKey
  split
  next hlt =>
    refine Keeps.ofKb s fun h => ?_
    obtain ⟨hlist, -, hrest⟩ := h
    exact ⟨hlist, Nat.le_trans (Nat.le_of_eq List.length_append) hlt, hrest⟩
  · exact (ringBell_keeps s).trans (raise_keeps _ _)

theorem breakKey_keeps (s : State) : Keeps s (breakKey s) := by
  unfold breakKey
  split
  · exact sendBreak_keeps s
  · exact .refl s

/-- A key is recognised where the list has room (R82, R87). -/
theorem recognise_keeps (key : Nat) (hl : s.kb.list.length < 4) : Keeps s (recognise key s) := by
  have hjoin (kind : KeyKind) (code : Option StationCode) : Keeps s { s with kb := s.kb.joinList key kind code } :=
    Keeps.ofKb s (joinList_cap key kind code hl)
  unfold recognise
  split
  · exact (Keeps.ofKb s fun h => retarget_cap key _ (joinList_cap key _ _ hl h)).trans (offerKey_keeps ..)
  · exact hjoin _ _
  · refine Keeps.ofKb s fun h => ?_
    have hcap := joinList_cap key .rept none hl h
    split
    · exact hcap
    · exact beginHold_cap hcap
  · exact (hjoin _ _).trans (breakKey_keeps _)
  · exact (hjoin _ _).trans (triggerAnswerback_keeps _)
  · exact (hjoin _ _).trans (raise_keeps _ _)
  · exact hjoin _ _

theorem freeFulls_keeps (n : Nat) (s : State) : Keeps s (freeFulls n s) := by
  induction n generalizing s with
  | zero => exact .refl s
  | succ n ih =>
    unfold freeFulls
    split
    · exact .refl s
    next key rest _ =>
      split
      next hl =>
        have hshorter : Keeps s { s with kb := { s.kb with heldFull := rest } } := Keeps.ofKb s
        dsimp only
        split
        · exact (hshorter.trans (Keeps.ofKb _ (k := { s.kb with heldFull := rest }.setState key .heldGhost))).trans (ih _)
        · exact (hshorter.trans (recognise_keeps key hl)).trans (ih _)
      · exact .refl s

theorem reexamine_keeps (s : State) : Keeps s (reexamine s) :=
  (Keeps.ofKb s (freeGhosts_cap 64)).trans (freeFulls_keeps 64 _)

/-! ### Readings (R81, R82) -/

theorem pressKey_keeps (key : Nat) (s : State) : Keeps s (pressKey key s) := by
  have hagreed : Keeps s (touchStandby { s with kb := s.kb.setAgree key 0 }) :=
    (Keeps.ofKb s (setAgree_cap key (Nat.zero_le 2))).trans (touchStandby_keeps _)
  unfold pressKey
  dsimp only
  split
  · exact hagreed.trans (Keeps.ofKb _)
  · split
    · exact hagreed.trans (Keeps.ofKb _)
    next hl => exact hagreed.trans (recognise_keeps key (Nat.not_le.mp hl))

theorem releaseKey_keeps (key : Nat) (s : State) : Keeps s (releaseKey key s) := by
  have hleft (t : State) : Keeps t { t with kb := { ((t.kb.setState key .up).setAgree key 0).leaveList key with
      heldFull := (((t.kb.setState key .up).setAgree key 0).leaveList key).heldFull.filter fun x => x != key } } :=
    { kb := fun h => leaveList_cap key (setAgree_cap key (Nat.zero_le 2) (setState_cap key .up h)) }
  exact ((touchStandby_keeps s).trans (hleft _)).trans (reexamine_keeps _)

theorem readKey_keeps (key : Nat) (down : Bool) (s : State) : Keeps s (readKey key down s) := by
  have hscan := scanTo_keeps key down s
  unfold readKey
  dsimp only
  split
  · exact hscan.trans (Keeps.ofKb _ (setAgree_cap key (Nat.zero_le 2)))
  · split
    next hlt => exact hscan.trans (Keeps.ofKb _ (setAgree_cap key (Nat.le_of_lt_succ hlt)))
    · split
      · exact hscan.trans (pressKey_keeps key _)
      · exact hscan.trans (releaseKey_keeps key _)

theorem readKeys_keeps (key : Nat) (down : Bool) (n : Nat) (s : State) : Keeps s (readKeys key down n s) := by
  induction n generalizing s with
  | zero => exact .refl s
  | succ n ih => exact (readKey_keeps key down s).trans (ih _)

/-! ### The line receiver's figures (R18, R22 to R29, R32) -/

theorem displacement_bounds (n : Nat) : -16 ≤ (displacement n).2 ∧ (displacement n).2 ≤ 15 := by
  unfold displacement
  split <;> dsimp only <;> omega

theorem measure_inv (date : Nat) {r : Receiver} (h : r.inv) : (r.measure date).inv := by
  unfold Receiver.measure
  dsimp only
  split
  next hm =>
    obtain ⟨-, -, hlt, -⟩ := hm
    obtain ⟨hq, hn, ha, hs, hs0, hspace, hloss, hbrk, hclr, hqt, -, hmeasured⟩ := h
    refine ⟨hq, hn, ha, hs, hs0, hspace, hloss, hbrk, hclr, hqt,
      Nat.le_trans (Nat.le_of_eq List.length_append) hlt, fun m hmem => ?_⟩
    rcases List.mem_append.mp hmem with hmem | hmem
    · exact hmeasured m hmem
    · exact List.mem_singleton.mp hmem ▸ displacement_bounds date
  · exact h

theorem setLevel_inv (l : Level) {r : Receiver} (h : r.inv) : (r.setLevel l).inv := by
  cases l with
  | mark =>
    obtain ⟨hq, hn, ha, hs, hs0, -, hrest⟩ := h
    exact ⟨hq, hn, ha, hs, hs0, Nat.zero_le 255, hrest⟩
  | space => exact h

/-- A receiver with no measured transition. -/
theorem unmeasured_inv {r : Receiver} (h : r.inv) (st : RxState) (sc : Int) (edges : List (Nat × Level)) :
    ({ r with state := st, sc := sc, edges := edges, measured := [] } : Receiver).inv := toHunt_inv h

theorem transition_inv (assembling : Bool) (date : Nat) (l : Level) {r : Receiver} (h : r.inv) :
    (r.transition assembling date l).inv := by
  unfold Receiver.transition
  split
  · split
    · exact unmeasured_inv h _ _ _
    · exact h
  · exact h
  · exact h
  · exact measure_inv date (r := { r with edges := _ }) h
  · exact h
  · exact h

theorem sumDisplacements_bounds {m : List (Nat × Int)} (hlen : m.length ≤ 6) (h : ∀ x ∈ m, -16 ≤ x.2 ∧ x.2 ≤ 15) :
    -96 ≤ sumDisplacements m ∧ sumDisplacements m ≤ 96 := by
  obtain ⟨hlo, hhi⟩ := sumDisplacements_bound h
  exact ⟨by omega, by omega⟩

theorem drift_bounds {r : Receiver} (h : r.inv) : (-47 ≤ r.drift.1 ∧ r.drift.1 ≤ 47) ∧ -6 ≤ r.drift.2 ∧ r.drift.2 ≤ 6 := by
  obtain ⟨-, -, ha, hs, -, -, -, -, -, -, hlen, hmeasured⟩ := h
  obtain ⟨hsum, hsum'⟩ := sumDisplacements_bounds hlen hmeasured
  unfold Receiver.drift
  split
  · rw [adjustDrift_four hs.1 hs.2 (by omega) (by omega)]
    (repeat' split) <;> dsimp only <;> omega
  · exact ⟨ha, hs⟩

theorem updated_inv {r : Receiver} (h : r.inv) : r.updated.inv := by
  obtain ⟨ha', hs'⟩ := drift_bounds h
  obtain ⟨-, -, -, -, hrest⟩ := h
  refine ⟨?_, Nat.min_le_left _ _, ha', hs', hrest⟩
  show (clampInt 0 4096 _).toNat ≤ 4096
  unfold clampInt
  (repeat' split) <;> omega

theorem ended_inv (good : Bool) {r : Receiver} (h : r.inv) : (r.ended good).inv := unmeasured_inv h _ _ _

end Sys2Proof.Machine
end


section
/-! SUPPORT. What the line receiver delivers and the line conditions keep the invariants. -/

-- One theorem after another: the check elaborates the whole text at once, where too many threads would wait for the kernel.
set_option Elab.async false

namespace Sys2Proof.Machine

variable {s : State}

/-! ### Delivery (R6, R14, R15, R23) -/

theorem decode_cap {cv : Converter} (r : RawCode) (h : cv.cap) : (cv.decode r).1.cap := by
  unfold Converter.decode
  split
  · exact h
  · split
    · exact h
    · split
      · exact h
      · dsimp only
        split <;> exact h

theorem triggerAnswerback_call_of_not_idle (hidle : s.call.state ≠ .idle) : (triggerAnswerback s).call = s.call := by
  simp only [triggerAnswerback, if_neg hidle]
  split
  · rfl
  · split
    · simp only [raise_frame]
    · rfl

theorem lineInTake_keeps (c : StationCode) (error : Bool) (hs : s.call.state = .connected) : Keeps s (lineInTake c error s) := by
  have hmatch : Keeps s { s with conv := { s.conv with m := (eomMatch s.conv.eom s.conv.m c).1 } } := Keeps.ofConv s
  unfold lineInTake
  dsimp only
  generalize hs2 : (if c = Config.askId then
    triggerAnswerback { s with conv := { s.conv with m := (eomMatch s.conv.eom s.conv.m c).1 } }
    else { s with conv := { s.conv with m := (eomMatch s.conv.eom s.conv.m c).1 } }) = s2
  have htrigger : Keeps s s2 ∧ s2.call.state = .connected := by
    subst hs2
    split
    · exact ⟨hmatch.trans (triggerAnswerback_keeps _), by
        rw [triggerAnswerback_call_of_not_idle (s := { s with conv := _ }) (hs ▸ nofun)]; exact hs⟩
    · exact ⟨hmatch, hs⟩
  obtain ⟨hkeeps, hconnected⟩ := htrigger
  have htaken := hkeeps.trans (takeAt_keeps s2 .lineIn (s2.row .lineIn) c fun _ => hconnected)
  generalize takeAt .lineIn (s2.row .lineIn) c s2 = r at htaken
  have hcounted : Keeps s (if error then { r.1 with store := r.1.store.countError } else r.1) := by
    split
    · exact htaken.trans (Keeps.ofStore _ (countError_kept _))
    · exact htaken
  have hfull := hcounted.trans (storeFullAct_keeps _ r.2)
  split
  · exact hfull.trans (closeOpen_keeps _ .in _)
  · exact hfull

theorem converterTake_keeps (r : Option RawCode) (s : State) : Keeps s (converterTake r s) := by
  cases r with
  | none =>
    unfold converterTake
    dsimp only
    split
    next hc => exact lineInTake_keeps _ _ hc
    · exact .refl s
  | some code =>
    have hconv : Keeps s { s with conv := (s.conv.decode code).1 } := Keeps.ofConv s (decode_cap code)
    unfold converterTake
    dsimp only
    split
    · exact hconv
    · split
      next hc => exact hconv.trans (lineInTake_keeps _ _ hc)
      · exact hconv

theorem deliverLine_keeps (r : Option RawCode) (s : State) : Keeps s (deliverLine r s) := by
  unfold deliverLine
  split
  next hs =>
    have htake := agreementTake_keeps s r fun _ => hs
    dsimp only
    split
    · exact htake.trans (converterTake_keeps r _)
    · exact htake
  · exact (touchIdleClear_keeps s).trans (converterTake_keeps r _)
  · exact converterTake_keeps r s
  · exact .refl s

/-! ### Line conditions (R32 to R35) -/

theorem CallState.closesLoop_of_counts {st : CallState} (h : st.counts = true) : st.closesLoop = true := by
  rcases (CallState.counts_iff st).mp h with rfl | rfl <;> rfl

theorem receivedBreak_state (s : State) : (receivedBreak s).call.state = s.call.state := by
  simp only [receivedBreak_eq, raise_frame]
  split <;> rfl

theorem callConnected_state (rate : Rate) (outcome : AgreeOutcome) (quality : Option Bool) (s : State) :
    (callConnected rate outcome quality s).call.state = .connected := by
  unfold callConnected
  dsimp only
  split
  · rw [triggerAnswerback_call_of_not_idle] <;> simp only [raise_frame]
    exact CallState.noConfusion
  · simp only [raise_frame]

theorem fallBack_state (outcome : AgreeOutcome) (s : State) : (fallBack outcome s).call.state = .connected :=
  callConnected_state ..

theorem breakThreshold_counts (hs : s.call.state.counts = true) : (breakThreshold s).call.state.counts = true := by
  unfold breakThreshold
  dsimp only
  split
  · rw [fallBack_state]; rfl
  · rw [receivedBreak_state]; exact hs

theorem breakThreshold_keeps (s : State) : Keeps s (breakThreshold s) := by
  have hcount : Keeps s { s with
      rx := { s.rx with spaceCount := max s.rx.spaceCount s.rx.brk, breakReady := false }
      latches := { s.latches with breakSeen := true } } := by
    refine { rx := fun h => ?_ }
    obtain ⟨hq, hn, ha, hs, hs0, hspace, hloss, hbrk, hrest⟩ := h
    exact ⟨hq, hn, ha, hs, hs0, Nat.max_le.mpr ⟨hspace, Nat.le_trans hbrk.2 (by decide)⟩, hloss, hbrk, hrest⟩
  have hbroken := hcount.trans (receivedBreak_keeps _)
  unfold breakThreshold
  dsimp only
  split
  next hs => exact hbroken.trans (fallBack_keeps _ .fault fun _ => (receivedBreak_state _).trans hs.1)
  · exact hbroken

theorem noLoss_inv {r : Receiver} (h : r.inv) : ({ r with lossCount := 0 } : Receiver).inv := by
  obtain ⟨hq, hn, ha, hs, hs0, hspace, -, hrest⟩ := h
  exact ⟨hq, hn, ha, hs, hs0, hspace, Nat.zero_lt_succ 3, hrest⟩

theorem noSpace_inv {r : Receiver} (h : r.inv) : ({ r with spaceCount := 0 } : Receiver).inv := by
  obtain ⟨hq, hn, ha, hs, hs0, -, hrest⟩ := h
  exact ⟨hq, hn, ha, hs, hs0, Nat.zero_le 255, hrest⟩

theorem thresholdTick_keeps (s : State) : Keeps s (thresholdTick s) := { rx := noLoss_inv }

theorem clearThreshold_keeps (hs : s.call.state.counts = true) : Keeps s (clearThreshold s) := by
  unfold clearThreshold
  split
  · exact { rx := noSpace_inv }
  · exact (Keeps.ofRx s (r := { s.rx with clearReady := false })).trans
      (enterClearing_keeps _ .remoteClear fun _ => CallState.closesLoop_of_counts hs)

theorem loopLost_keeps (hs : s.call.state.counts = true) : Keeps s (loopLost s) := by
  have hlost : Keeps s { s with rx := s.rx.toHunt, latches := { s.latches with lineLost := true } } := { rx := toHunt_inv }
  exact hlost.trans (enterClearing_keeps _ .lineLost fun _ => CallState.closesLoop_of_counts hs)

theorem countSpace_inv {r : Receiver} (h : r.inv) : r.countSpace.inv := by
  have hloss := noLoss_inv h
  unfold Receiver.countSpace
  split
  · obtain ⟨hq, hn, ha, hs, hs0, -, hrest⟩ := hloss
    exact ⟨hq, hn, ha, hs, hs0, Nat.min_le_left _ _, hrest⟩
  · exact hloss

theorem breakTick_keeps (s : State) : Keeps s (breakTick s) := by
  unfold breakTick
  split
  · exact breakThreshold_keeps s
  · exact .refl s

theorem breakTick_counts (hs : s.call.state.counts = true) : (breakTick s).call.state.counts = true := by
  unfold breakTick
  split
  · exact breakThreshold_counts hs
  · exact hs

theorem clearTick_keeps (hs : s.call.state.counts = true) : Keeps s (clearTick s) := by
  unfold clearTick
  split
  · exact clearThreshold_keeps hs
  · exact .refl s

theorem lineTick_keeps (hs : s.call.state.counts = true) : Keeps s (lineTick s) := by
  unfold lineTick
  split
  · have hcount : Keeps s { s with rx := s.rx.countSpace } := Keeps.ofRx s countSpace_inv
    exact (hcount.trans (breakTick_keeps _)).trans (clearTick_keeps (breakTick_counts hs))
  · split
    next hlt =>
      refine Keeps.ofRx s fun h => ?_
      obtain ⟨hq, hn, ha, hs, hs0, hspace, -, hrest⟩ := h
      exact ⟨hq, hn, ha, hs, hs0, hspace, hlt, hrest⟩
    · exact loopLost_keeps hs

end Sys2Proof.Machine
end


section
/-! SUPPORT. The events of the line, the call, the keyboard, the printer and the punch keep the invariants. -/

-- One theorem after another: the check elaborates the whole text at once, where too many threads would wait for the kernel.
set_option Elab.async false

namespace Sys2Proof.Machine

/-- Whatever state a command leads to, the invariants are kept on the way to it. -/
def Leads (s : State) (o : Host.Outcome State Fault Refusal) : Prop := ∀ t, o = .next t → Keeps s t

theorem Leads.next {s t : State} (h : Keeps s t) : Leads s (.next t) := fun _ e => by cases e; exact h

theorem Leads.stay (s : State) : Leads s (.next s) := .next (.refl s)

variable (s : State)

/-! ### The call controller (R48, R51, R141 to R159) -/

theorem endBreak_keeps : Keeps s (endBreak s) := Keeps.ofTx s nofun

theorem execBreakSignalEnd_leads : Leads s (execBreakSignalEnd s) := by
  unfold execBreakSignalEnd
  split
  · exact .next (endBreak_keeps s)
  · exact .stay s

theorem execClearSignalComplete_leads : Leads s (execClearSignalComplete s) := by
  unfold execClearSignalComplete
  split
  · split
    next hs => exact .next (callEnd_keeps s fun _ => hs)
    · exact .stay s
  · exact .stay s

theorem execClearingLossCount_leads : Leads s (execClearingLossCount s) := by
  unfold execClearingLossCount
  split
  · split
    next hs => exact .next ((readLoop_keeps s false).trans (callEnd_keeps _ fun _ => hs))
    · exact .stay s
  · exact .stay s

theorem execRingAsserted_leads : Leads s (execRingAsserted s) :=
  .next ((Keeps.ofPins s { s.pins with ring := true }).trans (ringTick_keeps true _))

theorem execRingAbsent_leads : Leads s (execRingAbsent s) :=
  .next ((Keeps.ofPins s { s.pins with ring := false }).trans (ringTick_keeps false _))

theorem execRingQualified_leads : Leads s (execRingQualified s) := by
  unfold execRingQualified
  split
  next h => exact .next (qualifyRing_keeps h.1)
  · exact .stay s

theorem execRingLockoutClear_leads : Leads s (execRingLockoutClear s) := by
  unfold execRingLockoutClear
  split
  · exact .next (clearLockout_keeps s)
  · exact .stay s

theorem execAnswerWaitExpiry_leads : Leads s (execAnswerWaitExpiry s) := by
  unfold execAnswerWaitExpiry
  split
  next hw => exact .next (refuseRing_keeps .notAnswered (ringCheck_of_waiting hw))
  · exact .stay s

theorem awaitsLoop_iff : s.awaitsLoop = true ↔ s.call.state = .answering ∨ s.call.state = .originating := by
  simp [State.awaitsLoop]

theorem closesLoop_of_awaitsLoop (h : s.awaitsLoop = true) : s.call.state.closesLoop = true := by
  rcases (awaitsLoop_iff s).mp h with h | h <;> rw [h] <;> rfl

theorem execLoopCurrentPresent_leads : Leads s (execLoopCurrentPresent s) := by
  unfold execLoopCurrentPresent
  split
  next h => exact .next ((readLoop_keeps s true).trans (connect_keeps _ ((awaitsLoop_iff s).mp h)))
  · exact .stay s

theorem execLoopTimerExpiry_leads : Leads s (execLoopTimerExpiry s) := by
  unfold execLoopTimerExpiry
  split
  next h => exact .next (enterClearing_keeps s .noLoop fun _ => closesLoop_of_awaitsLoop s h)
  · exact .stay s

theorem execIdleClearExpiry_leads : Leads s (execIdleClearExpiry s) := by
  unfold execIdleClearExpiry
  split
  next h => exact .next (enterClearing_keeps s .idleTimeout fun _ => h.1 ▸ rfl)
  · exact .stay s

theorem execStandbyAfterExpiry_leads : Leads s (execStandbyAfterExpiry s) := by
  unfold execStandbyAfterExpiry
  split
  · exact .next (standbyExpiry_keeps s)
  · exact .stay s

theorem standby_of_mayWake {s : State} (h : s.mayWake = true) : s.call.state = .standby :=
  of_decide_eq_true (Bool.and_eq_true_iff.mp h).1

theorem execWakeEvent_leads (cause : WakeCause) : Leads s (execWakeEvent cause s) := by
  unfold execWakeEvent
  split
  · split
    next h => exact .next (((Keeps.ofPins s { s.pins with ring := true }).trans (firstRing_keeps _)).trans
        (beginWake_keeps (standby_of_mayWake h.1)))
    · exact .stay s
  · have hpin := Keeps.ofPins s { s.pins with wake := true }
    dsimp only
    split
    next h => exact .next (hpin.trans (beginWake_keeps (standby_of_mayWake h)))
    · exact .next hpin
  next sense =>
    split
    next h => exact .next ((Keeps.ofPins s { s.pins with sense := sense }).trans (beginWake_keeps (standby_of_mayWake h.1)))
    · exact .stay s

theorem execWakeComplete_leads : Leads s (execWakeComplete s) := by
  unfold execWakeComplete
  split
  next h =>
    have hoff := closesLoop_of_eq (s := awake s) h.1 rfl
    dsimp only
    split
    · exact .next ((awake_keeps s).trans (Keeps.offLoop (s := awake s) hoff id (fun _ _ => rfl) fun _ => nofun))
    · exact .next ((awake_keeps s).trans (Keeps.offLoop (s := awake s) hoff id
        (fun hc hw => absurd hw (not_waiting (s := awake s) (h.1 ▸ nofun) hc)) fun _ => nofun))
  · exact .stay s

/-! ### Agreement and the transmitter (R39 to R42, R60, R67) -/

theorem execAgreementTimer3s_leads : Leads s (execAgreementTimer3s s) := by
  unfold execAgreementTimer3s
  split
  next h => exact .next ((Keeps.ofAgr s (a := { s.agr with timer := _ })).trans (fallBack_keeps _ .plain fun _ => h.1))
  · exact .stay s

theorem execAgreementTimer7s_leads : Leads s (execAgreementTimer7s s) := by
  unfold execAgreementTimer7s
  split
  next h => exact .next ((Keeps.ofAgr s (a := { s.agr with timer := _ })).trans (fallBack_keeps _ .fault fun _ => h.1))
  · exact .stay s

theorem execSentPoint_leads : Leads s (execSentPoint s) := by
  unfold execSentPoint
  split
  next f _ =>
    split
    · exact .stay s
    · exact .next (((Keeps.ofTx s (x := { s.tx with front := _, txd := .mark })).trans (touchIdleClear_keeps _)).trans
        (sentNotice_keeps _ f.slot))
  · exact .stay s

theorem execFrontStopEnd_leads : Leads s (execFrontStopEnd s) := by
  unfold execFrontStopEnd
  split
  · split
    · exact .next ((Keeps.ofTx s (x := { s.tx with front := none })).trans (settleSlots_keeps _))
    · exact .stay s
  · exact .stay s

theorem execArbiterFill_leads : Leads s (execArbiterFill s) := .next (arbiter_keeps s fillLimit)

theorem execHoldingSourceTake_leads (source : HoldingSource) : Leads s (execHoldingSourceTake source s) := by
  unfold execHoldingSourceTake
  split
  · split
    · split
      · exact .next ((dropKey_keeps s).trans (routerTake_keeps _ _ Source.noConfusion))
      · exact .stay s
    · exact .stay s
  · split
    · split
      · exact .next ((dropLinkText_keeps s).trans (routerTake_keeps _ _ Source.noConfusion))
      · exact .stay s
    · exact .stay s

/-! ### The line receiver (R18 to R35) -/

theorem execFilteredTransition_leads (date : Nat) (s1 s2 s3 : Level) : Leads s (execFilteredTransition date s1 s2 s3 s) := by
  unfold execFilteredTransition
  dsimp only
  split
  · exact .next { rx := fun h => transition_inv _ _ _ (setLevel_inv _ h) }
  · exact .stay s

theorem execStartUnitCheck_leads : Leads s (execStartUnitCheck s) := by
  unfold execStartUnitCheck
  split
  · split
    · exact .next (Keeps.ofRx s)
    · exact .next (Keeps.ofRx s toHunt_inv)
  · exact .stay s

theorem execCharacterReceived_leads : Leads s (execCharacterReceived s) := by
  unfold execCharacterReceived
  split
  · dsimp only
    split
    · exact .next ((Keeps.ofRx s (ended_inv _)).trans (deliverLine_keeps _ _))
    · have hended : Keeps s { s with rx := s.rx.updated.ended s.rx.isGood, store := s.store.handQ s.rx.updated.q } :=
        (Keeps.ofRx s fun h => ended_inv _ (updated_inv h)).trans (Keeps.ofStore _ (handQ_kept _ _))
      exact .next (hended.trans (deliverLine_keeps _ _))
  · exact .stay s

theorem execBreakThreshold_leads : Leads s (execBreakThreshold s) := by
  unfold execBreakThreshold
  split
  · exact .next ((thresholdTick_keeps s).trans (breakThreshold_keeps _))
  · exact .stay s

theorem execClearThreshold_leads : Leads s (execClearThreshold s) := by
  unfold execClearThreshold
  split
  next h => exact .next ((thresholdTick_keeps s).trans (clearThreshold_keeps h.1))
  · exact .stay s

theorem execLoopCurrentLost_leads : Leads s (execLoopCurrentLost s) := by
  unfold execLoopCurrentLost
  split
  next h => exact .next ((readLoop_keeps s false).trans (loopLost_keeps h))
  · exact .stay s

/-! ### The keyboard (R81 to R91) -/

theorem execKeyDown_leads (keys : KeyReadings) : Leads s (execKeyDown keys s) := by
  unfold execKeyDown
  split
  · exact .next (readKeys_keeps _ true _ s)
  · exact .stay s

theorem execKeyUp_leads (keys : KeyReadings) : Leads s (execKeyUp keys s) := by
  unfold execKeyUp
  split
  · exact .next (readKeys_keeps _ false _ s)
  · exact .stay s

theorem count_cap {k : Keyboard} {n : Nat} (hn : n ≤ 72) (hold : Hold) (target : Option (Nat × StationCode)) (timer : Option Nat)
    (h : k.cap) : ({ k with count := n, hold := hold, target := target, timer := timer } : Keyboard).cap := by
  obtain ⟨hlist, hbuffer, -, hrest⟩ := h
  exact ⟨hlist, hbuffer, hn, hrest⟩

theorem execRepeatTimerExpiry_leads : Leads s (execRepeatTimerExpiry s) := by
  unfold execRepeatTimerExpiry
  split
  next key code _ _ _ =>
    split
    · have hoffered := offerKey_keeps key code true s
      dsimp only
      split
      next hlt => exact .next (hoffered.trans (Keeps.ofKb _ (count_cap (Nat.le_of_lt hlt) _ _ _)))
      · exact .next (hoffered.trans (Keeps.ofKb _ (count_cap (Nat.le_refl 72) _ _ _)))
    · exact .stay s
  · exact .stay s

theorem execFreshStartScan_leads (down : BitVec 64) : Leads s (execFreshStartScan down s) := by
  unfold execFreshStartScan
  split
  · refine .next { kb := fun h => ?_ }
    obtain ⟨hlist, hbuffer, hcount, hagree, -⟩ := h
    exact ⟨hlist, hbuffer, hcount, hagree, Nat.zero_lt_succ 63⟩
  · exact .stay s

end Sys2Proof.Machine
end


section
/-! SUPPORT. The events of the printer and the punch, and the supervision tick, keep the invariants. -/

-- One theorem after another: the check elaborates the whole text at once, where too many threads would wait for the kernel.
set_option Elab.async false

namespace Sys2Proof.Machine

variable (s : State)

/-! ### The printer (R97 to R118) -/

theorem execMotorStart_leads : Leads s (execMotorStart s) := by
  unfold execMotorStart
  split
  · exact .next (Keeps.ofPr s)
  · exact .stay s

theorem execMotorReady_leads : Leads s (execMotorReady s) := by
  unfold execMotorReady
  split
  · have hready : Keeps s { s with pr := { s.pr with state := .ready }, pins := { s.pins with motorReady := true } } :=
      (Keeps.ofPr s (p := { s.pr with state := .ready })).trans (Keeps.ofPins _ _)
    have hanswered := hready.trans (answerStart_keeps _)
    dsimp only
    split
    · exact .next (hanswered.trans (readyComparison_keeps _))
    · exact .next (hanswered.trans (Keeps.ofPr _))
  · exact .stay s

theorem execMotorStartTimeout_leads : Leads s (execMotorStartTimeout s) := by
  unfold execMotorStartTimeout
  split
  · split
    · exact .next (((Keeps.ofPr s (p := { s.pr with state := .off, motorOn := false, unavailable := true })).trans
        (enterCatchUp_tracked_keeps _ fun _ => id)).trans (answerStart_keeps _))
    · exact .next (jam_keeps s .motor)
  · exact .stay s

theorem execMotorReadyDrop_leads : Leads s (execMotorReadyDrop s) := by
  have hpin := Keeps.ofPins s { s.pins with motorReady := false }
  have hfailed : Keeps s { s with pr := { s.pr with motorFailed := true }, pins := { s.pins with motorReady := false } } :=
    hpin.trans (Keeps.ofPr _)
  unfold execMotorReadyDrop
  dsimp only
  split
  · exact .next (hpin.trans (jam_keeps _ .motor))
  · exact .next hfailed
  · exact .next hfailed
  · exact .next hfailed
  · exact .next hpin

theorem execMotorOffTimerExpiry_leads : Leads s (execMotorOffTimerExpiry s) := by
  unfold execMotorOffTimerExpiry
  split
  · exact .next (motorOff_keeps s)
  · exact .stay s

theorem execPrinterTake_leads : Leads s (execPrinterTake s) := by
  unfold execPrinterTake
  split
  · exact .next (readyTake_keeps s)
  · exact .next (returningTake_keeps s)
  · exact .stay s

theorem execRightwardStep_leads : Leads s (execRightwardStep s) := by
  unfold execRightwardStep
  split
  · dsimp only
    split
    · exact .next (Keeps.ofPr s)
    · exact .next (Keeps.ofPr s)
  · exact .stay s

theorem execEncoderPulse_leads : Leads s (execEncoderPulse s) := by
  unfold execEncoderPulse
  split
  next _ c st l n _ =>
    have hpulse : Keeps s { s with
        pr := { s.pr with column := s.pr.column + 1, cycle := some ⟨c, st, false, l, n⟩ }
        pins := { s.pins with home := false } } :=
      (Keeps.ofPr s (p := { s.pr with column := s.pr.column + 1, cycle := some ⟨c, st, false, l, n⟩ })).trans (Keeps.ofPins _ _)
    dsimp only
    split
    · exact .next (hpulse.trans (ringBell_keeps _))
    · exact .next hpulse
  · exact .next (Keeps.ofPr s)
  · exact .next (Keeps.ofPins s _)

theorem execStepTimeout_leads : Leads s (execStepTimeout s) := by
  unfold execStepTimeout
  split
  · exact .next (jam_keeps s _)
  · exact .stay s

theorem execPrintCycleEnd_leads : Leads s (execPrintCycleEnd s) := by
  unfold execPrintCycleEnd
  split
  next c _ _ _ => exact .next (((Keeps.ofPr s (p := { s.pr with cycle := none, hammer := false })).trans
      (completeChar_keeps _ c)).trans (afterOperation_keeps _))
  · exact .stay s

theorem execReturnComplete_leads : Leads s (execReturnComplete s) := by
  unfold execReturnComplete
  split
  next r _ =>
    have hended : Keeps s { s with
        pr := { s.pr with ret := none, column := 1, lineEnd := false, columnKnown := true }
        pins := { s.pins with home := true } } :=
      (Keeps.ofPr s (p := { s.pr with ret := none, column := 1, lineEnd := false, columnKnown := true })).trans
        (Keeps.ofPins _ _)
    have hcompleted := hended.trans (completeChars_keeps _ (r.char.toList ++ r.feeds))
    dsimp only
    split
    · exact .next (hcompleted.trans (Keeps.ofPr _))
    · exact .next (hcompleted.trans (afterOperation_keeps _))
  · exact .stay s

theorem execReturnTimeout_leads : Leads s (execReturnTimeout s) := by
  unfold execReturnTimeout
  split
  · exact .next (jam_keeps s _)
  · exact .stay s

theorem execLineFeedComplete_leads : Leads s (execLineFeedComplete s) := by
  unfold execLineFeedComplete
  split
  · exact .next (Keeps.ofPr s)
  next f _ _ =>
    exact .next (((Keeps.ofPr s (p := { s.pr with feed := none })).trans (completeChars_keeps _ f.char.toList)).trans
      (afterOperation_keeps _))
  · exact .stay s

theorem execBellPulseEnd_leads : Leads s (execBellPulseEnd s) := .next (Keeps.ofPr s)

theorem execPaperOut_leads : Leads s (execPaperOut s) := by
  unfold execPaperOut
  split
  · have hout : Keeps s { s with pr := { s.pr with paper := false }, pins := { s.pins with paperOk := false } } :=
      (Keeps.ofPr s (p := { s.pr with paper := false })).trans (Keeps.ofPins _ _)
    have hentered := hout.trans (enterPaperOut_keeps _)
    dsimp only
    split
    · exact .next hentered
    · exact .next hentered
    · exact .next hentered
    · exact .next hout
  · exact .stay s

theorem execPaperBack_leads : Leads s (execPaperBack s) := by
  unfold execPaperBack
  split
  · have hback : Keeps s { s with pr := { s.pr with paper := true }, pins := { s.pins with paperOk := true } } :=
      (Keeps.ofPr s (p := { s.pr with paper := true })).trans (Keeps.ofPins _ _)
    dsimp only
    split
    · have hoff : Keeps s { s with
          pr := { s.pr with paper := true, state := .off }, pins := { s.pins with paperOk := true } } :=
        hback.trans (Keeps.ofPr _)
      exact .next ((hoff.trans (raise_keeps _ .paperBack)).trans (offComparison_keeps _))
    · exact .next (hback.trans (raise_keeps _ .paperBack))
    · exact .next hback
  · exact .stay s

theorem execLostMarkJoin_leads : Leads s (execLostMarkJoin s) :=
  .next ((Keeps.withinPr (lostJoin_within s.pr)).trans (noteLiveWork_keeps _))

/-! ### The punch (R120 to R132) -/

theorem execPunchTakeEntry_leads : Leads s (execPunchTakeEntry s) := by
  unfold execPunchTakeEntry
  split
  · exact .stay s
  · split
    next h _ => exact .next (Keeps.withinPu (punchCodes_within _ h.tag h.codes))
    · exact .next ((takeHead_keeps s).trans (punchSettle_keeps _))

/-- What follows the end of a cycle: the tape-low hold that was waited for, or the punch's next work (R121, R132). -/
theorem cycleEnded_leads {s t : State} (h : Keeps s t) : Leads s
    (if t.pu.holdPending ∧ t.pu.stage = .none ∧ t.pu.held = none then .next (enterTapeHold t) else .next (punchSettle t)) := by
  split
  · exact .next (h.trans (enterTapeHold_keeps _))
  · exact .next (h.trans (punchSettle_keeps _))

theorem execPunchCycleEnd_leads : Leads s (execPunchCycleEnd s) := by
  unfold execPunchCycleEnd
  split
  · exact .stay s
  next c _ =>
    split
    · exact .stay s
    · have hended : Keeps s { s with pu := { s.pu with cycle := none, state := .ready } } := Keeps.ofPu s
      dsimp only
      cases hc : c.completes with
      | none => exact cycleEnded_leads hended
      | some tag => exact cycleEnded_leads (hended.trans (punchComplete_keeps _ c.cancelled tag))

theorem execPunchJobStart_leads : Leads s (execPunchJobStart s) := by
  unfold execPunchJobStart
  split
  · exact .stay s
  next j rest _ =>
    split
    · have hlead : ((if j.leader = 0 then [] else [PunchEntry.blank j.leader]) ++ [PunchEntry.ltrs]).length ≤ 2 := by
        split
        · decide
        · exact Nat.le_refl 2
      have hopening : Keeps s { s with pu := { s.pu with
          queue := (if j.leader = 0 then [] else [PunchEntry.blank j.leader]) ++ [.ltrs], stage := .body } } :=
        Keeps.withinPu ⟨fun ⟨hchain, _, hread⟩ => ⟨hchain, Nat.le_trans hlead (by decide),
          fun hr => ⟨Nat.le_trans hlead (by decide), (hread hr).2⟩⟩, fun _ => id⟩
      exact .next (hopening.trans (punchSettle_keeps _))
    · exact .stay s

theorem execTapeLowAsserted_leads : Leads s (execTapeLowAsserted s) := by
  unfold execTapeLowAsserted
  split
  · exact .stay s
  · have hlow : Keeps s { s with pu := { s.pu with tapeLow := true }, pins := { s.pins with tapeLow := true } } :=
      (Keeps.ofPu s (p := { s.pu with tapeLow := true })).trans (Keeps.ofPins _ _)
    dsimp only
    split
    · exact .next hlow
    · split
      · exact .next (hlow.trans (Keeps.ofPu _))
      · exact .next (hlow.trans (enterTapeHold_keeps _))

theorem execTapeLowClear_leads : Leads s (execTapeLowClear s) := by
  unfold execTapeLowClear
  split
  · exact .next ((Keeps.ofPu s (p := { s.pu with tapeLow := false })).trans (Keeps.ofPins _ _))
  · exact .stay s

/-! ### The supervision tick (00 section 3) -/

variable {s}

theorem agreementTick_keeps (hs : s.call.state = .agreeing) : Keeps s (agreementTick s) := by
  have htimer : Keeps s { s with agr := { s.agr with timer := s.agr.timer + 1 } } := Keeps.ofAgr s
  unfold agreementTick
  dsimp only
  split
  · exact htimer.trans (fallBack_keeps _ .plain fun _ => hs)
  · split
    · exact htimer.trans (fallBack_keeps _ .fault fun _ => hs)
    · exact htimer

theorem idleClearTick_keeps (hs : s.call.state = .connected) : Keeps s (idleClearTick s) := by
  unfold idleClearTick
  dsimp only
  split
  · exact enterClearing_keeps s .idleTimeout fun _ => hs ▸ rfl
  · exact Keeps.ofCall s

theorem answerWaitTick_keeps (hw : s.call.attendedWait = true) : Keeps s (answerWaitTick s) := by
  unfold answerWaitTick
  dsimp only
  split
  · exact refuseRing_keeps .notAnswered (ringCheck_of_waiting hw)
  · exact Keeps.ofCall s

theorem loopTick_keeps (hs : s.call.state = .answering ∨ s.call.state = .originating) : Keeps s (loopTick s) := by
  unfold loopTick
  split
  · exact connect_keeps s hs
  · dsimp only
    split
    · exact enterClearing_keeps s .noLoop fun _ => by rcases hs with hs | hs <;> rw [hs] <;> rfl
    · exact Keeps.ofCall s

theorem standbyTick_keeps (s : State) : Keeps s (standbyTick s) := by
  unfold standbyTick
  dsimp only
  split
  · exact standbyExpiry_keeps s
  · exact Keeps.ofCall s

theorem clearingTick_keeps (hs : s.call.state = .clearing) : Keeps s (clearingTick s) := by
  unfold clearingTick
  split
  · exact Keeps.ofCall s
  · split
    · exact Keeps.ofCall s
    · exact callEnd_keeps s fun _ => hs

/-- A clear signal is sent only in CLEARING, so its last tick ends the call there (R51, R154). -/
theorem signalTick_keeps (s : State) : Keeps s (signalTick s) := by
  unfold signalTick
  split
  · exact .refl s
  · split
    · exact Keeps.ofTx s nofun
    · exact endBreak_keeps s
  next n hn =>
    have hclear : s.tx.signal.isClear = true := by rw [hn]; rfl
    split
    · exact Keeps.ofTx s fun _ => hclear
    · refine callEnd_keeps s fun h => ?_
      obtain ⟨-, -, -, -, hsignal⟩ := h
      exact hsignal hclear

theorem whileIn_keeps {st : CallState} {f : State → State} (h : s.call.state = st → Keeps s (f s)) : Keeps s (whileIn st f s) := by
  unfold whileIn
  split
  next hs => exact h hs
  · exact .refl s

theorem callTick_keeps (s : State) : Keeps s (callTick s) := by
  unfold callTick
  split
  next hs => exact (lineTick_keeps (by rw [hs]; rfl)).trans (whileIn_keeps agreementTick_keeps)
  next hs => exact (lineTick_keeps (by rw [hs]; rfl)).trans (whileIn_keeps idleClearTick_keeps)
  · split
    next hw => exact answerWaitTick_keeps hw
    · exact .refl s
  next hs => exact loopTick_keeps (.inl hs)
  next hs => exact loopTick_keeps (.inr hs)
  · exact standbyTick_keeps s
  next hs => exact clearingTick_keeps hs
  · exact .refl s
  · exact .refl s

theorem advance_signal (t : Transmitter) : t.advance.signal = t.signal := by
  unfold Transmitter.advance
  split <;> rfl

theorem passCycles_keeps (s : State) : Keeps s (passCycles s) := by
  have hline : Keeps s { s with tx := s.tx.advance } := Keeps.ofTx s fun h => advance_signal s.tx ▸ h
  have hprinter : Keeps { s with tx := s.tx.advance } { s with tx := s.tx.advance, pr := s.pr.advance } :=
    Keeps.withinPr (advance_within s.pr)
  have hpunch : Keeps { s with tx := s.tx.advance, pr := s.pr.advance }
      { s with tx := s.tx.advance, pr := s.pr.advance, pu := s.pu.advance } := Keeps.ofPu _
  unfold passCycles
  split
  · exact .refl s
  · exact (((hline.trans hprinter).trans hpunch).trans (homeTick_keeps _)).trans (motorOffTick_keeps _)

theorem tick_keeps (s : State) : Keeps s (tick s) := by
  have hread : Keeps (wakeTick (passCycles s))
      { wakeTick (passCycles s) with rx := { s.rx with loopCurrent := s.pins.loopSense } } :=
    Keeps.ofRx _ fun h => by
      simp only [wakeTick_frame, passCycles_frame] at h
      exact h
  have hsignal := (((passCycles_keeps s).trans (wakeTick_keeps _)).trans hread).trans (signalTick_keeps _)
  exact (hsignal.trans (whileIn_keeps fun _ => callTick_keeps _)).trans (ringTick_keeps s.pins.ring _)

end Sys2Proof.Machine
end


section
/-! SUPPORT. The command link and the requests that set something keep the invariants. -/

-- One theorem after another: the check elaborates the whole text at once, where too many threads would wait for the kernel.
set_option Elab.async false

namespace Sys2Proof.Machine

variable {s : State}

/-! ### Frames received and sent (R182 to R184) -/

/-- What the link may do to its queues: keep the bounds of R186 and an idle transmitter's empty reply queue, and hold two frames
at most. -/
def Link.Sound (l m : Link) : Prop :=
  (l.reportsInv → m.reportsInv) ∧ (l.holding.length ≤ 2 → m.holding.length ≤ 2)

theorem Keeps.ofLinkSound {l : Link} (h : s.link.Sound l) : Keeps s { s with link := l } := Keeps.ofLink s h.1 h.2

theorem rejected_sound {l m : Link} (why : RejectReason) (k : Byte) (n : Nat) (hr : m.reports = l.reports)
    (hh : m.holding = l.holding) : l.Sound (m.reject why k n).kick := by
  refine ⟨fun h => kick_inv ?_, fun h => ?_⟩
  · rw [reject_reports, hr]
    exact ((reportsInv_iff _).mp h).1
  · rwa [kick_holding, reject_holding, hh]

theorem markOverrun_sound (kind : Byte) (l : Link) (rx : LinkRx) : l.Sound ({ l with rx := rx }.markOverrun kind) := by
  unfold Link.markOverrun
  split <;> exact ⟨id, id⟩

theorem judge_sound (len : Byte) (inner : List Byte) (check : Byte) (l : Link) : l.Sound (l.judge len inner check) := by
  unfold Link.judge
  dsimp only
  split
  · exact markOverrun_sound _ l .hunt
  next hroom =>
    split
    · exact rejected_sound _ _ _ rfl rfl
    · split
      · exact ⟨id, fun _ => Nat.le_trans (Nat.le_of_eq List.length_append) (Nat.not_le.mp hroom)⟩
      · exact rejected_sound _ _ _ rfl rfl

theorem receive_sound (b : Byte) (l : Link) : l.Sound (l.receive b) := by
  unfold Link.receive
  split
  · exact ⟨id, id⟩
  · split
    · exact ⟨id, id⟩
    · exact ⟨id, id⟩
  · split
    · exact rejected_sound _ _ _ rfl rfl
    · exact ⟨id, id⟩
  · split
    · exact ⟨id, id⟩
    · exact judge_sound ..

theorem execLinkByteReceived_leads (b : Byte) (s : State) : Leads s (execLinkByteReceived b s) :=
  .next (.ofLinkSound (receive_sound b s.link))

theorem execFrameReceived_leads (check : Byte) (s : State) : Leads s (execFrameReceived check s) := by
  unfold execFrameReceived
  split
  · split
    · exact .next (.ofLinkSound (judge_sound ..))
    · exact .stay s
  · exact .stay s

theorem execFrameAbandoned_leads (s : State) : Leads s (execFrameAbandoned s) := by
  unfold execFrameAbandoned
  split
  · exact .next (Keeps.ofLink s)
  · exact .stay s

/-- The transmitter has sent its frame and chooses again (R184). -/
theorem sent_keeps (s : State) : Keeps s { s with link := { s.link with sending := none }.kick } :=
  Keeps.ofLink s (fun h => kick_inv ((reportsInv_iff _).mp h).1) fun h => (kick_holding _).symm ▸ h

/-- At the entry to STANDBY no reply waits, so the transmitter may stay idle (R157). -/
theorem sentQuiet_keeps (hq : s.link.replies = []) : Keeps s { s with link := { s.link with sending := none } } :=
  Keeps.ofLink s fun h => (reportsInv_iff _).mpr ⟨((reportsInv_iff _).mp h).1, fun _ => hq⟩

theorem standbyOk_idle (h : s.standbyOk = true) : s.call.state = .idle ∧ s.link.replies = [] := by
  simp only [State.standbyOk, Link.quiet, Bool.and_eq_true, decide_eq_true_eq, List.isEmpty_iff] at h
  grind

theorem afterStandbyReply_keeps (s : State) :
    Keeps s (afterStandbyReply { s with link := { s.link with sending := none } }) := by
  have hpending : Keeps s { s with
      call := { s.call with standbyPending := s.link.replies.any OutFrame.isStandbyOk } } := Keeps.ofCall s
  unfold afterStandbyReply
  dsimp only
  split
  next h =>
    obtain ⟨hidle, hquiet⟩ := standbyOk_idle h
    exact (hpending.trans (sentQuiet_keeps hquiet)).trans (enterStandby_keeps hidle)
  · exact (hpending.trans (sent_keeps _)).trans (touchStandby_keeps _)

theorem execLinkFrameSent_leads (s : State) : Leads s (execLinkFrameSent s) := by
  unfold execLinkFrameSent
  split
  · exact .stay s
  · dsimp only
    split
    · exact .next (afterStandbyReply_keeps s)
    · exact .next (sent_keeps s)

/-! ### Values brought into their ranges (R36) -/

theorem clampNat_within {lo hi : Nat} (h : lo ≤ hi) (n : Nat) : lo ≤ clampNat lo hi n ∧ clampNat lo hi n ≤ hi := by
  unfold clampNat
  (repeat' split) <;> omega

theorem clampInt_within {lo hi : Int} (h : lo ≤ hi) (n : Int) : lo ≤ clampInt lo hi n ∧ clampInt lo hi n ≤ hi := by
  unfold clampInt
  (repeat' split) <;> omega

/-! ### The settings (R3, R11, R13, R36, R65, R86, R118, R136, R139) -/

theorem actSetStation_keeps (body : List Byte) (s : State) : Keeps s (actSetStation body s).1 := by
  unfold actSetStation applyStation
  split
  next m ar rm _ _ _ =>
    have hset : Keeps s { s with
        call := { s.call with
          mode := m, idleClear := clampTimer (field2 body 1), standbyAfter := clampTimer (field2 body 3), autoRelease := ar }
        link := { s.link with mode := rm } } :=
      (Keeps.ofCall s (c := { s.call with
        mode := m, idleClear := clampTimer (field2 body 1), standbyAfter := clampTimer (field2 body 3)
        autoRelease := ar })).trans (Keeps.ofLink _)
    dsimp only
    split
    · exact hset.trans (givenUp_keeps _ _)
    · exact hset
  · exact .refl s
  · exact .refl s
  · exact .refl s

theorem setLine_inv {brk clr : Nat} {ap : Bool} {sense : Sense} {orient : Bool} {s0 : Int} {qt : Nat} {r : Receiver}
    (hbrk : 4 ≤ brk ∧ brk ≤ 32) (hclr : 48 ≤ clr ∧ clr ≤ 255) (hs0 : -6 ≤ s0 ∧ s0 ≤ 6) (hqt : 256 ≤ qt ∧ qt ≤ 4096)
    (h : r.inv) : (r.setLine brk clr ap sense orient s0 qt).inv := by
  obtain ⟨hq, hn, ha, hs, -, hspace, hloss, -, -, -, hrest⟩ := h
  refine ⟨hq, hn, ha, ?_, hs0, hspace, hloss, hbrk, hclr, hqt, hrest⟩
  unfold Receiver.setLine
  cases orient
  · exact hs0
  · exact hs

theorem actSetLine_keeps (body : List Byte) (s : State) : Keeps s (actSetLine body s).1 := by
  unfold actSetLine
  split
  · exact { rx := setLine_inv (clampNat_within (by decide) _) (clampNat_within (by decide) _)
              (clampInt_within (by decide) _) (clampNat_within (by decide) _) }
  · exact .refl s

theorem setTable_cap {cv : Converter} (p : Plane) (t : PlaneTable) (h : cv.cap) : (cv.setTable p t).cap := by
  cases p <;> exact h

theorem loadTable_keeps (p : Plane) (l f : RawCode) (es : Vector (Option StationCode) 32) (s : State) :
    Keeps s (loadTable p l f es s).1 := by
  unfold loadTable
  dsimp only
  split
  · exact .refl s
  · split
    · exact .refl s
    · split
      · exact .refl s
      · exact { conv := setTable_cap (cv := s.conv) p _ }

theorem actLoadCodeTable_keeps (body : List Byte) (s : State) : Keeps s (actLoadCodeTable body s).1 := by
  unfold actLoadCodeTable checked
  split
  · exact .refl s
  · split
    · exact loadTable_keeps _ _ _ _ s
    · exact .refl s

theorem loadKeys_cap (first : Nat) (es : List KeymapEntry) {k : Keyboard} (h : k.cap) : (k.loadKeys first es).cap := by
  induction es generalizing first k with
  | nil => exact h
  | cons e rest ih => exact ih (first + 1) (k := { k with keymap := k.keymap.setIfInBounds first e }) h

theorem actLoadKeymap_keeps (body : List Byte) (s : State) : Keeps s (actLoadKeymap body s).1 := by
  unfold actLoadKeymap
  dsimp only
  split
  · exact .refl s
  · split
    · exact .refl s
    · split
      · exact .refl s
      · exact Keeps.ofKb s (loadKeys_cap _ _)

theorem actSetAnswerback_keeps {body : List Byte} (hfits : body.length ≤ 20) (s : State) :
    Keeps s (actSetAnswerback body s).1 := by
  unfold actSetAnswerback
  split
  · exact .refl s
  next codes hcodes =>
    split
    · exact Keeps.ofConv s fun ⟨_, heom⟩ => ⟨Nat.le_trans (Nat.le_of_eq (stationCodes?_length hcodes)) hfits, heom⟩
    · exact .refl s

theorem actSetEom_keeps {body : List Byte} (hfits : body.length ≤ 8) (s : State) : Keeps s (actSetEom body s).1 := by
  unfold actSetEom
  split
  · exact .refl s
  next codes hcodes => exact Keeps.ofConv s fun ⟨hanswer, _⟩ =>
    ⟨hanswer, Nat.le_trans (Nat.le_of_eq (stationCodes?_length hcodes)) hfits⟩

theorem actSetRoutes_keeps (body : List Byte) (s : State) : Keeps s (actSetRoutes body s).1 := by
  unfold actSetRoutes
  split
  next a b c d e _ _ _ _ _ =>
    split
    · exact .refl s
    · split
      · exact .refl s
      · refine Keeps.ofRouter s fun h => ?_
        unfold Router.setRoutes
        split <;> exact h
  · exact .refl s

theorem actSetPrinter_keeps (body : List Byte) (s : State) : Keeps s (actSetPrinter body s).1 := by
  unfold actSetPrinter
  split
  · exact Keeps.ofPr s
  · exact .refl s
  · exact .refl s

theorem actSetPunch_keeps (body : List Byte) (s : State) : Keeps s (actSetPunch body s).1 := Keeps.ofPu s

end Sys2Proof.Machine
end


section
/-! SUPPORT. The requests to the call controller, the transmitter, the router, the store, the printer and the punch keep the
invariants. -/

-- One theorem after another: the check elaborates the whole text at once, where too many threads would wait for the kernel.
set_option Elab.async false

namespace Sys2Proof.Machine

variable (s : State)

/-! ### Calls, the transmitter and the router (R47, R48, R69, R143 to R145, R152, R157) -/

theorem actAnswer_keeps : Keeps s (actAnswer s).1 := by
  unfold actAnswer
  split
  next hw =>
    split
    · exact enterStarting_keeps (ringCheck_of_waiting hw)
    · exact refuseRing_keeps .storeFull (ringCheck_of_waiting hw)
  · exact .refl s

theorem actCall_keeps : Keeps s (actCall s).1 := by
  unfold actCall
  split
  next h => exact originate_keeps h.1
  · exact .refl s

theorem actClear_keeps : Keeps s (actClear s).1 := by
  have hclear (hs : s.call.state.closesLoop = true) := enterClearing_keeps s .clearRequest fun _ => hs
  unfold actClear
  split
  next hs =>
    split
    · exact refuseRing_keeps .declined fun _ => hs
    · exact .refl s
  next hs => exact endStarting_keeps hs
  next hs => exact hclear (hs ▸ rfl)
  next hs => exact hclear (hs ▸ rfl)
  next hs => exact hclear (hs ▸ rfl)
  next hs => exact hclear (hs ▸ rfl)
  · exact .refl s
  · exact .refl s
  · exact .refl s

theorem actSendBreak_keeps : Keeps s (actSendBreak s).1 := by
  unfold actSendBreak
  split
  · split
    · exact sendBreak_keeps s
    · exact .refl s
  · exact .refl s

theorem actSendAnswerback_keeps : Keeps s (actSendAnswerback s).1 := by
  unfold actSendAnswerback
  split
  · split
    · exact triggerAnswerback_keeps s
    · exact .refl s
  · exact .refl s

theorem actStandby_keeps : Keeps s (actStandby s).1 := by
  unfold actStandby
  split
  · exact Keeps.ofCall s
  · exact touchStandby_keeps s

theorem actLinkText_keeps (body : List Byte) : Keeps s (actLinkText body s).1 := by
  unfold actLinkText
  split
  · exact .refl s
  next codes _ =>
    have hjoined : Keeps s { s with router := { s.router with
        linkText := s.router.linkText ++ codes.take (Config.linkTextCapacity - s.router.linkText.length) } } := by
      refine Keeps.ofRouter s fun h => ?_
      have htake := List.length_take_le (Config.linkTextCapacity - s.router.linkText.length) codes
      simp only [Config.linkTextCapacity, List.length_append] at htake ⊢
      omega
    dsimp only
    split
    · exact hjoined
    · split
      · exact .refl s
      · exact hjoined

/-! ### Playback (R155, R156) -/

/-- A playback of a message that stands begins or goes on (R155, R156). -/
theorem runningPlay_keeps {p : Play} (h : s.namedInv → s.store.Live p.number) :
    Keeps s { s with call := { s.call with play := p } } :=
  Keeps.ofPlay s fun hn _ hp => .inr (hp.2 ▸ h hn)

theorem startPlayback_keeps {n : Nat} (offset : Nat) (hn : s.store.Live n) : Keeps s (startPlayback n offset s) := by
  have hsent := setSent_kept n offset s.store
  have hstarted := (Keeps.ofStore s hsent).trans (runningPlay_keeps { s with store := s.store.setSent n offset }
    (p := ⟨.running, n, offset, [], [], s.call.play.run + 1⟩) fun _ => hsent.live n hn)
  unfold startPlayback
  dsimp only
  split
  · exact hstarted.trans (advanceSent_keeps _ offset)
  · exact hstarted.trans (playbackAsk_keeps _)

theorem actPlayback_keeps (body : List Byte) : Keeps s (actPlayback body s).1 := by
  unfold actPlayback
  dsimp only
  split
  · exact .refl s
  · split
    · exact .refl s
    · split
      · exact .refl s
      · split
        · exact .refl s
        next e he =>
          split
          · exact .refl s
          · exact startPlayback_keeps s _ (live_of_live? he)

theorem actPlaybackResume_keeps : Keeps s (actPlaybackResume s).1 := by
  unfold actPlaybackResume
  split
  next h =>
    have hgoing : Keeps s { s with call := { s.call with
        play := { s.call.play with state := .running, readPos := s.sentCursor, buf := [], skipped := [] } } } :=
      Keeps.ofPlay s fun _ _ hp => .inl ⟨.inr h.1, hp.2⟩
    exact hgoing.trans (playbackAsk_keeps _)
  · exact .refl s

theorem actPlaybackCancel_keeps : Keeps s (actPlaybackCancel s).1 := by
  unfold actPlaybackCancel
  split
  · have hcancelled : Keeps s { s with
        call := { s.call with play := { s.call.play with state := .cancelled, buf := [], skipped := [] } } } :=
      Keeps.ofPlay s fun _ n hp => (hp.1.elim nofun nofun)
    exact (hcancelled.trans (Keeps.ofStore _ (abandon_kept s.store .playback))).trans (autoReleaseTest_keeps _ _)
  · exact .refl s

/-! ### The message store (R164, R175, R177, R178, R188) -/

theorem outsideInit_keeps {act : State → State × Answer} (h : Keeps s (act s).1) : Keeps s (outsideInit act s).1 := by
  unfold outsideInit
  split
  · exact .refl s
  · exact h

theorem storeOpen_keeps : Keeps s (storeOpen s).1 := by
  unfold storeOpen
  split
  · exact .refl s
  next hnone =>
    split
    next hcan =>
      obtain ⟨hlen, hfree⟩ := (Store.canOpen_out_iff s.store).mp hcan
      refine opened_keeps (.refl s) hlen (fun _ => ⟨hfree, fun e he ho => hnone ?_⟩) (.inl rfl)
      cases hd : e.dir using Dir.eachWay with
      | outgoing => exact .inl (List.find?_isSome.mpr ⟨e, he, by simp [hd, ho]⟩)
      | incoming => exact .inr (List.find?_isSome.mpr ⟨e, he, by simp [hd, ho]⟩)
    · exact .refl s

theorem appendCodes_keeps (cs : List StationCode) (n : Nat) : Keeps s (appendCodes cs n s).1 := by
  induction cs generalizing n s with
  | nil => exact .refl s
  | cons c rest ih =>
    unfold appendCodes
    split
    · exact .refl s
    next e he =>
      split
      · exact .refl s
      · have hstored := storeInto_keeps s c he
        split
        next hr => rw [hr] at hstored; exact hstored.trans (ih _ _)
        next hr => rw [hr] at hstored; exact hstored
        next hr => rw [hr] at hstored; exact hstored

theorem storeAppend_keeps (body : List Byte) : Keeps s (storeAppend body s).1 := by
  unfold storeAppend
  split
  · exact .refl s
  · split
    · exact .refl s
    · exact appendCodes_keeps s _ 0

theorem storeClose_keeps : Keeps s (storeClose s).1 := by
  unfold storeClose
  split
  · exact .refl s
  next e he => exact closeMessage_keeps _ he

theorem readTest_live {body : List Byte} {s : State} {h : HostRead} (hr : readTest body s = .inr h) : s.store.Live h.number := by
  unfold readTest at hr
  dsimp only at hr
  split at hr
  · cases hr
  · split at hr
    · cases hr
    · split at hr
      · cases hr
      · split at hr
        · cases hr
        next e he =>
          cases hr
          exact live_of_live? he

theorem acceptRead_keeps (body : List Byte) : Keeps s (acceptRead body s) := by
  unfold acceptRead
  split
  · split
    · exact .refl s
    next s0 hs0 =>
      have htouch := (takes?_keeps hs0).trans (touchStandby_keeps s0)
      dsimp only
      split
      · split
        · exact htouch.trans (reply_keeps _ _ _)
        next hr => exact htouch.trans (hostContinue_keeps fun _ => readTest_live hr)
      · exact (htouch.trans (useFree_keeps _)).trans (reply_keeps _ _ _)
  · exact .refl s

theorem actRelease_keeps (body : List Byte) : Keeps s (actRelease body s).1 := by
  unfold actRelease
  dsimp only
  split
  · exact .refl s
  · split
    · exact .refl s
    · split
      · exact .refl s
      next e he =>
        split
        · exact .refl s
        next hopen =>
          split
          · exact .refl s
          next hnamed =>
            obtain ⟨hentry, -⟩ := (live?_some_iff s.store _ e).mp he
            refine release_keeps (fun hl x hx hxn => ?_) (Bool.eq_false_iff.mpr hnamed)
            rwa [entry?_only hl hentry hx hxn]

theorem listDirectory_keeps (body : List Byte) : Keeps s (listDirectory body s).1 := by
  unfold listDirectory
  dsimp only
  split <;> exact .refl s

/-! ### The printer and the punch (R111, R116, R125, R133 to R135) -/

theorem actPrintMessage_keeps (body : List Byte) : Keeps s (actPrintMessage body s).1 := by
  unfold actPrintMessage
  dsimp only
  split
  · exact .refl s
  · split
    · exact .refl s
    next e he =>
      split
      · exact .refl s
      · split
        · exact .refl s
        next hfull =>
          refine Keeps.ofPr s (fun ⟨hqueue, _, _⟩ => ⟨hqueue, ?_, Nat.succ_pos 639⟩) fun _ n hn => ?_
          · exact Nat.le_trans (Nat.le_of_eq List.length_append) (Nat.not_le.mp hfull)
          · rcases hn with ⟨j, hj, hjn⟩ | hn
            · rcases List.mem_append.mp hj with hj | hj
              · exact .inl (.inl ⟨j, hj, hjn⟩)
              · rw [List.mem_singleton.mp hj] at hjn
                exact .inr (hjn ▸ live_of_live? he)
            · exact .inl (.inr hn)

theorem restartMessage_live {s : State} (h : ∀ n, s.pr.tracked = some n → s.store.Live n) {n : Nat}
    (hm : s.restartMessage = some n) : s.store.Live n := by
  unfold State.restartMessage at hm
  split at hm
  next k hk =>
    cases hm
    obtain ⟨e, he⟩ := Option.isSome_iff_exists.mp (List.find?_some (p := fun n => (s.store.live? n).isSome) hk)
    exact live_of_live? he
  · exact h n (Option.filter_eq_some_iff.mp hm).1

theorem lostJoin_tracked (p : Printer) : p.lostJoin.tracked = p.tracked := by
  unfold Printer.lostJoin
  split <;> rfl

theorem jamRestart_keeps : Keeps s (restartPrinter s) := by
  have hempty : s.pr.Within { s.pr with queue := [], jamTags := [] } := ⟨fun ⟨_, hrest⟩ => ⟨Nat.zero_le 64, hrest⟩, fun _ => id⟩
  have hjoined : Keeps s { s with pr := { s.pr with queue := [], jamTags := [] }.lostJoin } :=
    Keeps.withinPr (hempty.trans (lostJoin_within _))
  have hcatch : Keeps s (if s.restartMessage.isSome then
      enterCatchUp s.restartMessage { s with pr := { s.pr with queue := [], jamTags := [] }.lostJoin }
      else { s with pr := { s.pr with queue := [], jamTags := [] }.lostJoin }) := by
    split
    · refine hjoined.trans (enterCatchUp_keeps _ fun hn n hm => restartMessage_live (s := s) (fun k hk => ?_) hm)
      exact hn k (tracked_named (s := { s with pr := _ }) ((lostJoin_tracked _).trans hk))
    · exact hjoined
  unfold restartPrinter
  dsimp only
  split
  · exact (hcatch.trans (Keeps.ofPr _)).trans (offComparison_keeps _)
  · exact hcatch.trans (enterPaperOut_keeps _)

theorem actPrinterRestart_keeps : Keeps s (actPrinterRestart s).1 := by
  unfold actPrinterRestart
  split
  · exact jamRestart_keeps s
  · exact .refl s

theorem actPunchMessage_keeps (body : List Byte) : Keeps s (actPunchMessage body s).1 := by
  unfold actPunchMessage
  dsimp only
  split
  · exact .refl s
  · split
    · exact .refl s
    · exact .refl s
    · split
      · exact .refl s
      next e he =>
        split
        · exact .refl s
        · split
          · exact .refl s
          next hfull => exact joinChain_keeps s (Nat.not_le.mp hfull) (live_of_live? he)

theorem acceptControl_keeps (action : Nat) (body : List Byte) {act : State → State × Answer} (h : ∀ s, Keeps s (act s).1) :
    Keeps s (acceptControl action body act s) := by
  unfold acceptControl
  split
  · exact .refl s
  · refine accept_keeps s fun _ s => ?_
    split
    · exact .refl s
    · exact h s

theorem actContinue_keeps : Keeps s (actContinue s).1 := by
  unfold actContinue
  split
  · exact (Keeps.ofPu s (p := { s.pu with state := .ready, shift := .unknown })).trans (punchSettle_keeps _)
  · exact .refl s

theorem actFeed_keeps (n : Nat) : Keeps s (actFeed n s).1 := by
  unfold actFeed
  split
  · exact .refl s
  next hrests =>
    split
    · exact .refl s
    · split
      · exact .refl s
      next hfull =>
        have hchain : s.pu.chain = [] := Classical.byContradiction fun hc => hrests (.inl hc)
        exact (directEntry_keeps s hchain (Nat.not_le.mp hfull)).trans (punchSettle_keeps _)

/-! ### STATUS and FETCH-REPORT (R187, R189) -/

theorem actStatus_keeps : Keeps s (actStatus s).1 := Keeps.ofLatches s _

theorem actFetchReport_keeps : Keeps s (actFetchReport s).1 := by
  unfold actFetchReport
  split
  · exact .refl s
  next r _ =>
    refine Keeps.ofLink s fun h => ?_
    obtain ⟨hreports, hidle⟩ := (reportsInv_iff _).mp h
    exact (reportsInv_iff _).mpr ⟨hreports.sublist (dropFirst_sublist _ _), hidle⟩

end Sys2Proof.Machine
end


section
/-! SUPPORT. The DRAM's accesses, power-on and the soft reset keep the invariants. -/

-- One theorem after another: the check elaborates the whole text at once, where too many threads would wait for the kernel.
set_option Elab.async false

namespace Sys2Proof.Machine

variable {s : State}

/-! ### Grants and the ends of accesses (R162 to R166, R176, R177) -/

theorem execDramGrant_leads (s : State) : Leads s (execDramGrant s) := by
  unfold execDramGrant
  split
  · split
    · exact .stay s
    next w hw =>
      split
      · refine .next (Keeps.ofStore s { fits := fun h => ?_ })
        obtain ⟨hqueue, -, hasm⟩ := id h
        exact ⟨hqueue, fun a ha => Option.some.inj ha ▸ firstWaiting?_fits hw h _, hasm⟩
      · exact fun _ => nofun
  · exact .stay s

theorem servedNames {p : Punch} (cs : List StationCode) {n : Nat} (h : (p.served cs).Names n) : p.Names n := by
  cases hc : p.chain with
  | nil => rwa [Punch.served_nil cs hc] at h
  | cons j rest =>
    rw [Punch.served_cons cs hc] at h
    obtain ⟨i, hi, hn⟩ := h
    rcases List.mem_cons.mp hi with rfl | hi
    · exact ⟨j, hc ▸ List.mem_cons_self, hn⟩
    · exact ⟨i, hc ▸ List.mem_cons_of_mem j hi, hn⟩

/-- While the punch waits for a read its queue has room for the eight characters of a cell (R122). -/
theorem servePunch_keeps {q : Read} (h : s.store.punchRead = some q) (cs : List StationCode) (hcs : cs.length ≤ 8) :
    Keeps s { s with store := s.store.setRead .punch none, pu := s.pu.served cs } where
  pu := fun ⟨hchain, hqueue, hread⟩ => by
    obtain ⟨hroom, -⟩ := hread (h ▸ rfl)
    exact (served_within (st := s.store.setRead .punch none) s.pu rfl (by omega)).1 ⟨hchain, hqueue, nofun⟩
  named _ _ x n hn :=
    x n ((named_blocks s n).mpr (((named_blocks _ n).mp hn).imp_right (Or.imp_left (servedNames cs))))

theorem serveReader_keeps (r : Reader) (s : State) : Keeps s (serveReader r s) := by
  unfold serveReader
  split
  · split
    · exact .refl s
    next q _ =>
      exact (Keeps.ofStore s (setRead_kept s.store .playback)).trans (Keeps.ofCall _)
  · split
    · exact .refl s
    next q _ =>
      exact (Keeps.ofStore s (setRead_kept s.store .printer)).trans (Keeps.ofPr _)
  · split
    · exact .refl s
    next q hq => exact (servePunch_keeps hq _ (servedChars_le s _ _)).trans (punchSettle_keeps _)
  · split
    · exact .refl s
    next h hh =>
      split
      · exact .refl s
      · exact hostContinue_keeps fun hn => hn _ ((named_blocks s _).mpr (.inr (.inr (.inr ⟨h, hh, rfl⟩))))

theorem writeDone_keeps {x : CellWrite} (hx : s.store.fitsInv → x.fits) (hd : x.target < Config.cells) : Keeps s { s with
    store := { s.store with
      access := none, banks := s.store.banks.set (cellBank x.target) (.open (cellRow x.target)), queue := s.store.queue.tail }
    mem := Memory.writeBytes s.mem (x.target * 8) x.bytes } where
  mem := fun ⟨hwf, hfits⟩ => by
    have hlen : x.bytes.length ≤ 8 := hx hfits
    obtain ⟨hqueue, -, hasm⟩ := hfits
    refine ⟨Memory.writeBytes_wf hwf ?_, fun w hw => hqueue w (List.mem_of_mem_tail hw), nofun, hasm⟩
    simp only [Config.cells, Memory.size] at hd ⊢
    omega
  queue h := Nat.le_trans (Nat.le_of_eq List.length_tail) (Nat.le_trans (Nat.sub_le _ 1) h)

theorem completeAccess_keeps {a : Access} (ha : s.store.access = some a) (hd : a.work.inDevice = true) :
    Keeps s (completeAccess a.work s) := by
  obtain ⟨w, n⟩ := a
  cases w with
  | refresh =>
    exact Keeps.ofStore s { fits := fun ⟨hqueue, _, hasm⟩ => ⟨hqueue, nofun, hasm⟩,
                            debt := fun h => Nat.le_trans (Nat.sub_le _ 1) h }
  | write x => exact writeDone_keeps (fun ⟨_, haccess, _⟩ => haccess _ ha) (of_decide_eq_true hd)
  | read r c live =>
    have hdone : Keeps s { s with store := { s.store with
        access := none, banks := s.store.banks.set (cellBank c) (.open (cellRow c)) } } :=
      Keeps.ofStore s { fits := fun ⟨hqueue, _, hasm⟩ => ⟨hqueue, nofun, hasm⟩ }
    show Keeps s (if live then serveReader r _ else _)
    split
    · exact hdone.trans (serveReader_keeps r _)
    · exact hdone

theorem execDramAccessComplete_leads (s : State) : Leads s (execDramAccessComplete s) := by
  unfold execDramAccessComplete
  split
  · exact .stay s
  next a ha =>
    split
    next hd => exact .next (completeAccess_keeps ha hd)
    · exact fun _ => nofun

theorem execRefreshTimer_leads (s : State) : Leads s (execRefreshTimer s) := by
  unfold execRefreshTimer
  split
  · exact .stay s
  · exact .next (Keeps.ofStore s { debt := fun _ => Nat.min_le_left _ _ })

theorem execMemoryInitComplete_leads (s : State) : Leads s (execMemoryInitComplete s) := by
  unfold execMemoryInitComplete
  split
  · exact .next (Keeps.ofStore s { debt := fun _ => Nat.zero_le 8 })
  · exact .stay s

/-! ### Power-on (R160) -/

theorem memInv_iff (s : State) : s.memInv ↔ Memory.wf s.mem = true ∧ s.store.fitsInv := by
  refine and_congr_right fun _ => and_congr_right fun _ => and_congr_right fun _ => ⟨fun h d => ?_, fun h => ⟨h .in, h .out⟩⟩
  cases d
  · exact h.1
  · exact h.2

theorem powerOn_keeps (s : State) : Keeps s (powerOn s) := by
  obtain ⟨htext, hlist, hbuffer, hprQueue, hjobs, hchain, hring, hdebt, hqueue, hdir, hholding, hanswer, heom, hpuQueue, hread, hoff,
    hcount, hagree, hpos⟩ := reset_capInv
  exact
    { call := fun _ => reset_callInv
      rx := fun _ => reset_rx_inv
      reports := fun _ => reset_reportsInv
      holding := fun _ => hholding
      mem := fun _ => ((memInv_iff _).mp reset_memInv)
      cursor := fun _ => reset_cursorInv
      queue := fun _ => hqueue
      dir := fun _ => hdir
      debt := fun _ => hdebt
      layout := fun _ => reset_layoutInv
      text := fun _ => htext
      kb := fun _ => ⟨hlist, hbuffer, hcount, hagree, hpos⟩
      pr := fun _ => ⟨hprQueue, hjobs, hoff⟩
      pu := fun _ => ⟨hchain, hpuQueue, hread⟩
      conv := fun _ => ⟨hanswer, heom⟩
      ring := fun _ => hring
      named := fun _ _ _ n hn => by
        rw [show (powerOn s).named n = false from reset_named n] at hn
        cases hn
      openIn := fun _ _ _ ⟨_, he, _⟩ => absurd he List.not_mem_nil }

/-! ### The soft reset (R117, R181, R190) -/

/-- The blocks after a soft reset (R190, step 3). -/
def blocksReset (s : State) : State :=
  { s with
    conv := s.conv.softReset, rx := s.rx.softReset, latches := Latches.reset, tx := s.tx.softReset
    agr := s.agr.softReset, router := { s.router with linkText := [] }, kb := s.kb.softReset, pr := s.pr.softReset
    pu := s.pu.softReset, call := s.call.softReset, store := s.store.abandonAll }

theorem kbSoftReset_cap {k : Keyboard} (h : k.cap) : k.softReset.cap := by
  obtain ⟨hlist, -, hrest⟩ := startAfresh_cap h
  exact ⟨hlist, Nat.zero_le 32, hrest⟩

theorem blocksReset_holds (s : State) : Holds s (blocksReset s) :=
  have hstore := abandonAll_kept s.store
  { call := fun _ => ⟨rfl, nofun, nofun, nofun, nofun⟩
    rx := fun h => toHunt_inv (connect_inv h)
    mem := fun x => ⟨x.1, hstore.fits x.2⟩
    cursor := hstore.cursor
    queue := hstore.queue
    dir := hstore.dir
    debt := hstore.debt
    layout := hstore.layout
    text := fun _ => Nat.zero_le 64
    kb := kbSoftReset_cap
    pr := fun _ => ⟨Nat.zero_le 64, Nat.zero_le 4, Nat.succ_pos 639⟩
    pu := fun _ => ⟨Nat.zero_le 8, Nat.zero_le 32, nofun⟩
    ring := fun _ => Nat.zero_le 16
    named := fun _ _ x n hn => by
      rw [named_blocks] at hn
      refine hstore.live n (x n ((named_blocks s n).mpr ?_))
      rcases hn with (⟨j, hj, -⟩ | hn | hn) | ⟨j, hj, -⟩ | ⟨hn, -⟩ | hn
      · cases hj
      · cases hn
      · cases hn
      · cases hj
      · exact hn.elim nofun nofun
      · exact .inr (.inr (.inr (hstore.host n hn))) }

/-- The directory as a soft reset finds it once its flags are set and every message closed (R117, R190). -/
def messagesClosed (s : State) : State :=
  closeOpen .out MsgFlags.justTruncated (closeOpen .in MsgFlags.justTruncated
    { s with store := s.store.flagUnprinted s.pr.resetNames, link := { s.link with mode := .pull } })

theorem softReset_eq (s : State) : softReset s =
    { givenUp (messagesClosed s).names (blocksReset (messagesClosed s)) with
      link := { (givenUp (messagesClosed s).names (blocksReset (messagesClosed s))).link with
        reports := [], mode := s.link.mode }
      latches := Latches.reset } := rfl

theorem flagged_keeps (s : State) : Keeps s
    { s with store := s.store.flagUnprinted s.pr.resetNames, link := { s.link with mode := .pull } } :=
  (Keeps.ofStore s (flagUnprinted_kept s.store s.pr.resetNames)).trans (Keeps.ofLink _)

theorem messagesClosed_keeps (s : State) : Keeps s (messagesClosed s) :=
  ((flagged_keeps s).trans (closeOpen_keeps _ .in _)).trans (closeOpen_keeps _ .out _)

theorem messagesClosed_none_open (hl : s.store.layoutInv) : ∀ x ∈ (messagesClosed s).store.dir, x.state ≠ .open := by
  intro x hx ho
  have hin := closeOpen_keeps MsgFlags.justTruncated .in
    { s with store := s.store.flagUnprinted s.pr.resetNames, link := { s.link with mode := .pull } }
  have hl1 := (flagged_keeps s).layout hl
  cases hd : x.dir using Dir.eachWay with
  | outgoing => exact closeOpen_closes _ .out (hin.layout hl1) x hx hd ho
  | incoming =>
    obtain ⟨e, he, hex⟩ := (closeOpen_calm MsgFlags.justTruncated .out (hin.layout hl1)).source x hx
    exact closeOpen_closes _ .in hl1 e he (hex.dir.symm.trans hd) (hex.stillOpen ho)

theorem softReset_keeps (s : State) : Keeps s (softReset s) := by
  rw [softReset_eq]
  have hblocks : Keeps s (blocksReset (messagesClosed s)) :=
    { toHolds := (messagesClosed_keeps s).toHolds.trans (blocksReset_holds _)
      openIn := fun _ hl _ ho => by
        obtain ⟨e, he, -, hopen⟩ := (abandonAll_kept (messagesClosed s).store).openIn ho
        exact absurd hopen (messagesClosed_none_open hl e he) }
  have hreset := hblocks.trans (givenUp_keeps (messagesClosed s).names _)
  have hempty (t : State) : Keeps t { t with link := { t.link with reports := [], mode := s.link.mode } } :=
    Keeps.ofLink t fun h => (reportsInv_iff _).mpr ⟨⟨Nat.zero_le 24, Nat.zero_le 12, List.nodup_nil⟩, ((reportsInv_iff _).mp h).2⟩
  exact (hreset.trans (hempty _)).trans (Keeps.ofLatches _ _)

theorem abortRead_keeps (s : State) : Keeps s (abortRead s) := by
  have hgone : s.store.Kept { s.store.abandon .host with hostRead := none } :=
    (abandon_kept s.store .host).trans { host := fun n ⟨_, h, _⟩ => (nomatch h) }
  exact ((Keeps.ofStore s hgone).trans (reply_keeps _ _ _)).trans (givenUp_keeps _ _)

theorem resetBehindRead?_keeps {s0 : State} (h : s.resetBehindRead? = some s0) : Keeps s s0 := by
  unfold State.resetBehindRead? at h
  split at h
  · split at h
    · cases h
      exact Keeps.ofLink s id fun _ => Nat.le_refl 2
    · cases h
  · split at h
    · cases h
      exact .refl s
    · cases h
  · cases h

theorem actResetStation_keeps (s : State) : Keeps s (actResetStation s).1 := softReset_keeps s

theorem acceptReset_keeps (body : List Byte) (s : State) : Keeps s (acceptReset body s) := by
  unfold acceptReset
  split
  · exact accept_keeps s fun _ => actResetStation_keeps
  · split
    · split
      · exact .refl s
      next s0 hs0 =>
        exact (((resetBehindRead?_keeps hs0).trans (abortRead_keeps s0)).trans (softReset_keeps _)).trans (reply_keeps _ _ _)
    · exact .refl s

end Sys2Proof.Machine
end


section
/-! SUPPORT. Every command and every supervision tick keeps the invariants; the statements O55 to O60. -/

-- One theorem after another: the check elaborates the whole text at once, where too many threads would wait for the kernel.
set_option Elab.async false

namespace Sys2Proof.Machine

theorem accept_leads {kind : Byte} {fits : Bool} {body : List Byte} {act : State → State × Answer} (s : State)
    (h : fits = true → ∀ s, Keeps s (act s).1) : Leads s (.next (accept kind fits body act s)) :=
  .next (accept_keeps s h)

theorem exec_leads (i : Instr) (s : State) : Leads s (exec i s) := by
  cases i with
  | powerOn => exact .next (powerOn_keeps s)
  | setStation body => exact accept_leads s fun _ => actSetStation_keeps body
  | setLine body => exact accept_leads s fun _ => actSetLine_keeps body
  | loadCodeTable body => exact accept_leads s fun _ => actLoadCodeTable_keeps body
  | loadKeymap body => exact accept_leads s fun _ => actLoadKeymap_keeps body
  | setAnswerback body => exact accept_leads s fun hfits => actSetAnswerback_keeps (of_decide_eq_true hfits)
  | setEom body => exact accept_leads s fun hfits => actSetEom_keeps (of_decide_eq_true hfits)
  | setRoutes body => exact accept_leads s fun _ => actSetRoutes_keeps body
  | setPrinter body => exact accept_leads s fun _ => actSetPrinter_keeps body
  | setPunch body => exact accept_leads s fun _ => actSetPunch_keeps body
  | answer body => exact accept_leads s fun _ => actAnswer_keeps
  | call body => exact accept_leads s fun _ => actCall_keeps
  | clear body => exact accept_leads s fun _ => actClear_keeps
  | sendBreak body => exact accept_leads s fun _ => actSendBreak_keeps
  | sendAnswerback body => exact accept_leads s fun _ => actSendAnswerback_keeps
  | standby body => exact accept_leads s fun _ => actStandby_keeps
  | linkText body => exact accept_leads s fun _ s => actLinkText_keeps s body
  | playback body => exact accept_leads s fun _ s => actPlayback_keeps s body
  | playbackResume body => exact accept_leads s fun _ => actPlaybackResume_keeps
  | playbackCancel body => exact accept_leads s fun _ => actPlaybackCancel_keeps
  | storeOpen body => exact accept_leads s fun _ s => outsideInit_keeps s (storeOpen_keeps s)
  | storeAppend body => exact accept_leads s fun _ s => outsideInit_keeps s (storeAppend_keeps s body)
  | storeClose body => exact accept_leads s fun _ s => outsideInit_keeps s (storeClose_keeps s)
  | readMessage body => exact .next (acceptRead_keeps s body)
  | release body => exact accept_leads s fun _ s => actRelease_keeps s body
  | listDirectory body => exact accept_leads s fun _ s => outsideInit_keeps s (listDirectory_keeps s body)
  | printMessage body => exact accept_leads s fun _ s => actPrintMessage_keeps s body
  | printerRestart body => exact accept_leads s fun _ => actPrinterRestart_keeps
  | punchMessage body => exact accept_leads s fun _ s => actPunchMessage_keeps s body
  | punchControlContinue body => exact .next (acceptControl_keeps s 0 body actContinue_keeps)
  | punchControlCancel body => exact .next (acceptControl_keeps s 1 body cancelPunch_keeps)
  | punchControlFeed body => exact .next (acceptControl_keeps s 2 body fun s => actFeed_keeps s _)
  | status body => exact accept_leads s fun _ => actStatus_keeps
  | fetchReport body => exact accept_leads s fun _ => actFetchReport_keeps
  | resetStation body => exact .next (acceptReset_keeps body s)
  | frameReceived check => exact execFrameReceived_leads check s
  | frameAbandoned => exact execFrameAbandoned_leads s
  | linkFrameSent => exact execLinkFrameSent_leads s
  | characterReceived => exact execCharacterReceived_leads s
  | breakThreshold => exact execBreakThreshold_leads s
  | clearThreshold => exact execClearThreshold_leads s
  | loopCurrentLost => exact execLoopCurrentLost_leads s
  | ringAsserted => exact execRingAsserted_leads s
  | ringAbsent => exact execRingAbsent_leads s
  | ringQualified => exact execRingQualified_leads s
  | ringLockoutClear => exact execRingLockoutClear_leads s
  | answerWaitExpiry => exact execAnswerWaitExpiry_leads s
  | loopCurrentPresent => exact execLoopCurrentPresent_leads s
  | loopTimerExpiry => exact execLoopTimerExpiry_leads s
  | agreementTimer3s => exact execAgreementTimer3s_leads s
  | agreementTimer7s => exact execAgreementTimer7s_leads s
  | idleClearExpiry => exact execIdleClearExpiry_leads s
  | standbyAfterExpiry => exact execStandbyAfterExpiry_leads s
  | breakSignalEnd => exact execBreakSignalEnd_leads s
  | clearSignalComplete => exact execClearSignalComplete_leads s
  | clearingLossCount => exact execClearingLossCount_leads s
  | sentPoint => exact execSentPoint_leads s
  | frontStopEnd => exact execFrontStopEnd_leads s
  | arbiterFill => exact execArbiterFill_leads s
  | holdingSourceTake source => exact execHoldingSourceTake_leads s source
  | lostMarkJoin => exact execLostMarkJoin_leads s
  | keyDown keys => exact execKeyDown_leads s keys
  | keyUp keys => exact execKeyUp_leads s keys
  | repeatTimerExpiry => exact execRepeatTimerExpiry_leads s
  | freshStartScan down => exact execFreshStartScan_leads s down
  | wakeEvent cause => exact execWakeEvent_leads s cause
  | wakeComplete => exact execWakeComplete_leads s
  | motorStart => exact execMotorStart_leads s
  | motorReady => exact execMotorReady_leads s
  | motorStartTimeout => exact execMotorStartTimeout_leads s
  | motorReadyDrop => exact execMotorReadyDrop_leads s
  | motorOffTimerExpiry => exact execMotorOffTimerExpiry_leads s
  | printerTake => exact execPrinterTake_leads s
  | printCycleEnd => exact execPrintCycleEnd_leads s
  | encoderPulse => exact execEncoderPulse_leads s
  | stepTimeout => exact execStepTimeout_leads s
  | returnComplete => exact execReturnComplete_leads s
  | returnTimeout => exact execReturnTimeout_leads s
  | lineFeedComplete => exact execLineFeedComplete_leads s
  | bellPulseEnd => exact execBellPulseEnd_leads s
  | paperOut => exact execPaperOut_leads s
  | paperBack => exact execPaperBack_leads s
  | punchTakeEntry => exact execPunchTakeEntry_leads s
  | punchCycleEnd => exact execPunchCycleEnd_leads s
  | punchJobStart => exact execPunchJobStart_leads s
  | tapeLowAsserted => exact execTapeLowAsserted_leads s
  | tapeLowClear => exact execTapeLowClear_leads s
  | refreshTimer => exact execRefreshTimer_leads s
  | memoryInitComplete => exact execMemoryInitComplete_leads s
  | dramGrant => exact execDramGrant_leads s
  | dramAccessComplete => exact execDramAccessComplete_leads s
  | writeQueueClaim => exact .next (Keeps.ofStore s (claim_kept s.store))
  | writeThrough => exact .next (Keeps.ofStore s (copyThrough_kept s.store))
  | filteredTransition date s1 s2 s3 => exact execFilteredTransition_leads s date s1 s2 s3
  | startUnitCheck => exact execStartUnitCheck_leads s
  | linkByteReceived byte => exact execLinkByteReceived_leads byte s
  | rightwardStep => exact execRightwardStep_leads s

theorem step_keeps {s t : State} (h : step s = .next t) : Keeps s t := by
  unfold step at h
  split at h
  · exact Leads.next (tick_keeps s) t h
  next c rest _ => exact Keeps.trans (t := { s with pending := rest }) {} (exec_leads c _ t h)

/-! ### The statements -/

/-- Settles O55: what every step keeps of the call controller. -/
theorem stepKeepsCallInvariant : Obligations.StepKeepsCallInvariant := fun _ _ hinv h => (step_keeps h).call hinv

/-- Settles O56: what every step keeps of the receiver and of the report queue. -/
theorem stepKeepsReceiverAndReports : Obligations.StepKeepsReceiverAndReports :=
  ⟨fun _ _ hinv h => (step_keeps h).rx hinv, fun _ _ hinv h => (step_keeps h).reports hinv⟩

/-- Settles O57: what every step keeps of the DRAM with what waits to be written to it, and of the cursors. -/
theorem stepKeepsMemoryAndCursors : Obligations.StepKeepsMemoryAndCursors :=
  ⟨fun s t hinv h => (memInv_iff t).mpr ((step_keeps h).mem ((memInv_iff s).mp hinv)),
    fun _ _ hinv h => (step_keeps h).cursor hinv⟩

/-- The capacities, block by block. -/
theorem capInv_iff (s : State) : s.capInv ↔ s.router.linkText.length ≤ 64 ∧ s.kb.cap ∧ s.pr.cap ∧ s.pu.cap s.store
    ∧ s.call.ringCount ≤ 16 ∧ s.store.debt ≤ 8 ∧ s.store.queue.length ≤ 4 ∧ s.store.dir.length ≤ 64
    ∧ s.link.holding.length ≤ 2 ∧ s.conv.cap := by
  unfold State.capInv Keyboard.cap Printer.cap Punch.cap Converter.cap
  grind

/-- Settles O58: what every step keeps of each block's queues, lists and counts. -/
theorem stepKeepsCapacities : Obligations.StepKeepsCapacities := by
  intro s t hinv h
  obtain ⟨htext, hkb, hpr, hpu, hring, hdebt, hqueue, hdir, hholding, hconv⟩ := (capInv_iff s).mp hinv
  have k := step_keeps h
  exact (capInv_iff t).mpr ⟨k.text htext, k.kb hkb, k.pr hpr, k.pu hpu, k.ring hring, k.debt hdebt, k.queue hqueue, k.dir hdir,
    k.holding hholding, k.conv hconv⟩

/-- With none but the newest entry OPEN, one entry is OPEN at most (R172). -/
theorem open_at_most_one {st : Store} (h : st.layoutInv) (d : Dir) :
    (st.dir.filter fun e => e.dir == d && e.state == .open).length ≤ 1 := by
  obtain ⟨-, -, -, -, hopen⟩ := h
  rcases List.eq_nil_or_concat st.dir with hnil | ⟨init, e, hdir⟩
  · rw [hnil]
    exact Nat.zero_le 1
  · rw [hdir, List.concat_eq_append] at hopen ⊢
    rw [List.dropLast_concat] at hopen
    have hnone : init.filter (fun x => x.dir == d && x.state == .open) = [] :=
      List.filter_eq_nil_iff.mpr fun x hx => by simp [hopen x hx]
    rw [List.filter_append, hnone, List.nil_append]
    exact List.length_filter_le _ [e]

/-- Settles O59: what every step keeps of the ring and the directory, in a call that is in order. -/
theorem stepKeepsStoreInOrder : Obligations.StepKeepsStoreInOrder := by
  refine ⟨fun s t hcall hinv h => ?_, fun st => open_at_most_one⟩
  obtain ⟨hlayout, hopen⟩ := (storeInv_iff s).mp hinv
  have k := step_keeps h
  exact (storeInv_iff t).mpr ⟨k.layout hlayout, k.openIn hcall hlayout hopen⟩

/-- Settles O60: what every step keeps of the names of R178, in a store that is in order. -/
theorem stepKeepsNamedMessages : Obligations.StepKeepsNamedMessages :=
  fun s _ hcall hinv hnamed h => (step_keeps h).named hcall ((storeInv_iff s).mp hinv).1 hnamed

end Sys2Proof.Machine
end


section
/-! SUPPORT. What a soft reset leaves of the store, of the link and of the message that was OPEN; the statement O5. -/

-- One theorem after another: the check elaborates the whole text at once, where too many threads would wait for the kernel.
set_option Elab.async false

namespace Sys2Proof.Machine

/-! ### What closes and releases leave of the store and the link -/

/-- The parts of the store that no close and no release changes. -/
def Store.fixture (st : Store) : Bool × Nat × Nat × Vector Bank 4 × Nat :=
  (st.memInit, st.tail, st.nextNumber, st.banks, st.debt)

/-- What a close leaves: the fixed parts of the store, the paper, and of the link all but the report queue, as long as no reply
waits for an idle transmitter and no report may begin to be sent. -/
structure Settles (s t : State) : Prop where
  fixture : t.store.fixture = s.store.fixture := by rfl
  paper : t.pr.paper = s.pr.paper := by rfl
  rx : t.link.rx = s.link.rx := by rfl
  holding : t.link.holding = s.link.holding := by rfl
  mode : t.link.mode = s.link.mode := by rfl
  replies : s.link.mode = .pull → (s.link.sending = none → s.link.replies = []) →
    t.link.replies = s.link.replies ∧ t.link.sending = s.link.sending := by exact fun _ _ => ⟨rfl, rfl⟩

namespace Settles

variable {s t u : State}

theorem refl (s : State) : Settles s s where

theorem trans (h : Settles s t) (k : Settles t u) : Settles s u where
  fixture := k.fixture.trans h.fixture
  paper := k.paper.trans h.paper
  rx := k.rx.trans h.rx
  holding := k.holding.trans h.holding
  mode := k.mode.trans h.mode
  replies hm hq := by
    obtain ⟨hreplies, hsending⟩ := h.replies hm hq
    obtain ⟨hreplies', hsending'⟩ := k.replies (h.mode.trans hm) (by rwa [hreplies, hsending])
    exact ⟨hreplies'.trans hreplies, hsending'.trans hsending⟩

end Settles

/-- In PULL a report only joins the queue (R184, R187). -/
theorem raise_settles (r : Report) (s : State) : Settles s (raise r s) := by
  obtain ⟨hrx, hholding, -, hmode⟩ := raise_link r s
  refine { paper := by simp, rx := hrx, holding := hholding, mode := hmode, replies := fun hm hq => ?_ }
  show Link.replies (Link.kick _) = _ ∧ Link.sending (Link.kick _) = _
  rcases kick_cases { s.link with reports := (joinReports r s.link.reports).1 } with h | ⟨hs, f, rest, hr, -⟩ | ⟨-, -, hp, -⟩
  · rw [h]
    exact ⟨rfl, rfl⟩
  · exact nomatch (hq hs).symm.trans hr
  · exact nomatch hm.symm.trans hp

theorem autoReleaseTest_shape (n : Nat) (s : State) :
    ∃ hd fr dir q, (autoReleaseTest n s).store = { s.store with head := hd, free := fr, dir := dir, queue := q } := by
  unfold autoReleaseTest
  split
  · exact ⟨_, _, _, _, rfl⟩
  · split
    · exact release_shape n s.store
    · exact ⟨_, _, _, _, rfl⟩

theorem givenUp_shape (ns : List Nat) (s : State) :
    ∃ hd fr dir q, (givenUp ns s).store = { s.store with head := hd, free := fr, dir := dir, queue := q } := by
  induction ns generalizing s with
  | nil => exact ⟨_, _, _, _, rfl⟩
  | cons n rest ih =>
    obtain ⟨hd, fr, dir, q, h⟩ := ih (autoReleaseTest n s)
    obtain ⟨_, _, _, _, htest⟩ := autoReleaseTest_shape n s
    exact ⟨hd, fr, dir, q, by rw [givenUp, h, htest]⟩

theorem autoReleaseTest_settles (n : Nat) (s : State) : Settles s (autoReleaseTest n s) := by
  obtain ⟨hd, fr, dir, q, h⟩ := autoReleaseTest_shape n s
  have hlink : (autoReleaseTest n s).link = s.link := by simp
  exact { fixture := by rw [h]; rfl, paper := by simp, rx := by rw [hlink], holding := by rw [hlink], mode := by rw [hlink],
          replies := fun _ _ => by rw [hlink]; exact ⟨rfl, rfl⟩ }

theorem ask_fixture (m : List Host.Cell) (r : Reader) (n pos : Nat) (st : Store) :
    (st.ask m r n pos).1.fixture = st.fixture := by
  unfold Store.ask
  split
  · rfl
  · split
    · rfl
    · cases r <;> rfl

theorem punchReads_settles (n : Nat) (s : State) : Settles s (punchReads n s) := by
  induction n generalizing s with
  | zero => exact .refl s
  | succ n ih =>
    unfold punchReads
    split
    · exact .refl s
    next j _ _ =>
      split
      · refine Settles.trans ?_ (ih _)
        exact { fixture := ask_fixture s.mem .punch j.number j.readPos s.store }
      · exact .refl s

theorem enterTapeHold_settles (s : State) : Settles s (enterTapeHold s) :=
  (raise_settles .tapeLow s).trans {}

theorem endPunchJob_settles (s : State) : Settles s (endPunchJob s) := by
  unfold endPunchJob
  split
  · exact .refl s
  next j rest _ =>
    have hended : Settles s { s with pu := { s.pu with chain := rest, stage := .none, shift := .unknown } } := {}
    have htested := (hended.trans (raise_settles (.punchJobDone j.number j.follow j.cursor) _)).trans
      (autoReleaseTest_settles j.number _)
    dsimp only
    split
    · exact htested.trans (enterTapeHold_settles _)
    · exact htested

theorem finishJob_settles (s : State) : Settles s (finishJob s) := by
  unfold finishJob
  split
  · split
    · split
      · exact endPunchJob_settles s
      · exact {}
    · exact .refl s
  · split
    · exact endPunchJob_settles s
    · exact .refl s
  · exact .refl s

theorem punchSettle_settles (s : State) : Settles s (punchSettle s) := by
  have hjob := (punchReads_settles 32 s).trans (finishJob_settles _)
  unfold punchSettle
  split
  · exact .refl s
  · dsimp only
    split
    · exact hjob
    · exact hjob.trans {}

theorem closedWith_fixture (e : Entry) (f : MsgFlags) (st : Store) : (st.closedWith e f).fixture = st.fixture := by
  obtain ⟨q, a, b, h⟩ := closeAsm_shape e.dir (st.modify e.number (Entry.closed f))
  rw [Store.closedWith, h]
  rfl

theorem untrack_paper (n : Nat) (p : Printer) : (p.untrack n).paper = p.paper := by
  unfold Printer.untrack
  split <;> rfl

theorem closeMessage_settles (e : Entry) (f : MsgFlags) (s : State) : Settles s (closeMessage e f s) := by
  have hclosed : Settles s { s with store := s.store.closedWith e (s.closeFlags e f), pr := s.pr.untrack e.number } :=
    { fixture := closedWith_fixture e _ s.store, paper := untrack_paper e.number s.pr }
  exact ((hclosed.trans (punchSettle_settles _)).trans (raise_settles _ _)).trans (autoReleaseTest_settles e.number _)

theorem closeOpen_settles (d : Dir) (f : MsgFlags) (s : State) : Settles s (closeOpen d f s) := by
  unfold closeOpen
  split
  · exact .refl s
  next e _ => exact closeMessage_settles e f s

/-! ### What becomes of the OPEN message (R117, R150, R172, R179) -/

/-- The flags that a soft reset sets first change no entry but in its flags (R117). -/
theorem flagUnprinted_map (ns : List Nat) (st : Store) : ∃ g : Entry → Entry, (st.flagUnprinted ns).dir = st.dir.map g
    ∧ (st.flagUnprinted ns).free = st.free ∧ (st.flagUnprinted ns).fixture = st.fixture
    ∧ ∀ e : Entry, e.Same (g e) ∧ (e.flags.truncated = true → (g e).flags.truncated = true) := by
  induction ns generalizing st with
  | nil => exact ⟨id, (List.map_id _).symm, rfl, rfl, fun e => ⟨{}, id⟩⟩
  | cons n rest ih =>
    by_cases hu : st.unprinted n = true
    · obtain ⟨g, hdir, hfree, hfix, hg⟩ := ih (st.setFlags n MsgFlags.justPrintIncomplete)
      have hflagged (e : Entry) : e.Same (entryAt n
          (fun x => { x with flags := x.flags.or MsgFlags.justPrintIncomplete, headerDue := true }) e)
          ∧ (e.flags.truncated = true → (entryAt n
          (fun x => { x with flags := x.flags.or MsgFlags.justPrintIncomplete, headerDue := true }) e).flags.truncated = true) := by
        unfold entryAt
        split
        · exact ⟨{}, fun h => Bool.or_eq_true_iff.mpr (.inl h)⟩
        · exact ⟨{}, id⟩
      refine ⟨g ∘ entryAt n fun x => { x with flags := x.flags.or MsgFlags.justPrintIncomplete, headerDue := true },
        ?_, ?_, ?_, fun e => ⟨?_, fun h => (hg _).2 ((hflagged e).2 h)⟩⟩
      · rw [Store.flagUnprinted, if_pos hu, hdir, ← List.map_map]
        rfl
      · rw [Store.flagUnprinted, if_pos hu, hfree]
        rfl
      · rw [Store.flagUnprinted, if_pos hu, hfix]
        rfl
      · obtain ⟨hn, hd, hs, hh, hl⟩ := (hg (entryAt n _ e)).1
        obtain ⟨hn', hd', hs', hh', hl'⟩ := (hflagged e).1
        exact ⟨hn.trans hn', hd.trans hd', hs.trans hs', hh.trans hh', hl.trans hl'⟩
    · rw [Store.flagUnprinted, if_neg hu]
      exact ih st

/-- A message is TRUNCATED at its length wherever it still stands, and it stands unless a release was automatic (R179). -/
def Store.Truncates (auto : Bool) (e : Entry) (st : Store) : Prop :=
  (st.dir.map Entry.number).Nodup ∧ (∀ x ∈ st.dir, x.number = e.number → x.flags.truncated = true ∧ x.length = e.length)
    ∧ (auto = false ∨ e.dir = .out → ∃ x ∈ st.dir, x.number = e.number ∧ x.dir = e.dir ∧ x.state ≠ .released)

theorem Store.Truncates.calm {auto : Bool} {e : Entry} {st t : Store} (h : st.Truncates auto e) (hc : st.Calm auto t) :
    t.Truncates auto e := by
  obtain ⟨hnodup, htruncated, hstands⟩ := h
  refine ⟨hc.numbers.nodup hnodup, fun x hx hn => ?_, fun ha => ?_⟩
  · obtain ⟨y, hy, hyx⟩ := hc.source x hx
    obtain ⟨hflag, hlen⟩ := htruncated y hy (hyx.number.symm.trans hn)
    exact ⟨hyx.truncated hflag, hyx.length.trans hlen⟩
  · obtain ⟨y, hy, hn, hd, hs⟩ := hstands ha
    obtain ⟨x, hx, hyx, hxs⟩ := hc.stay hnodup y hy hs (ha.imp_right hd.trans)
    exact ⟨x, hx, hyx.number.trans hn, hyx.dir.trans hd, hxs⟩

/-- The close of the OPEN message truncates it where its cause does. -/
theorem closeMessage_truncates {s : State} {d : Dir} {e : Entry} (hl : s.store.layoutInv) (he : s.store.open? d = some e) :
    (closeMessage e MsgFlags.justTruncated s).store.Truncates s.call.autoRelease e := by
  refine Store.Truncates.calm ?_ (closeMessage_settled MsgFlags.justTruncated e s)
  obtain ⟨hmem, -, ho⟩ := open?_mem he
  obtain ⟨-, ⟨hnodup, -⟩, -⟩ := hl
  have hnumbers : ((s.store.closedWith e (s.closeFlags e MsgFlags.justTruncated)).dir.map Entry.number).Nodup := by
    rw [closedWith_dir, List.map_map, List.map_congr_left fun y _ =>
      show (Entry.number ∘ entryAt e.number (Entry.closed _)) y = y.number from entryAt_closed_number y]
    exact hnodup
  refine ⟨hnumbers, fun x hx hn => ?_, fun _ => ?_⟩
  · rw [closedWith_dir] at hx
    obtain ⟨y, hy, rfl⟩ := List.mem_map.mp hx
    rw [entryAt_closed_number] at hn
    rw [eq_of_nodup_map hnodup hy hmem hn, entryAt, if_pos rfl]
    exact ⟨closeFlags_truncated _ s e (.inr rfl), rfl⟩
  · refine ⟨entryAt e.number (Entry.closed _) e, closedWith_dir e _ s.store ▸ List.mem_map_of_mem hmem, ?_⟩
    rw [entryAt, if_pos rfl]
    exact ⟨rfl, rfl, MsgState.noConfusion⟩

theorem open?_of_open {st : Store} (hl : st.layoutInv) {e : Entry} (he : e ∈ st.dir) (ho : e.state = .open) :
    st.open? e.dir = some e := by
  have hsome : (st.open? e.dir).isSome := List.find?_isSome.mpr ⟨e, he, by simp [ho]⟩
  obtain ⟨x, hx⟩ := Option.isSome_iff_exists.mp hsome
  obtain ⟨hmem, -, hxo⟩ := open?_mem hx
  rw [hx, layoutInv_only hl he ho hmem hxo]

/-- Closing both directions truncates the OPEN message, whichever direction it has. -/
theorem closeBoth_truncates {s : State} (hl : s.store.layoutInv) {e : Entry} (he : e ∈ s.store.dir) (ho : e.state = .open) :
    (closeOpen .out MsgFlags.justTruncated (closeOpen .in MsgFlags.justTruncated s)).store.Truncates s.call.autoRelease e := by
  have hopen := open?_of_open hl he ho
  cases hd : e.dir using Dir.eachWay with
  | incoming =>
    rw [hd] at hopen
    have hcall : (closeOpen .in MsgFlags.justTruncated s).call = s.call := by simp
    have hcalm := closeOpen_calm MsgFlags.justTruncated .out ((closeOpen_keeps MsgFlags.justTruncated .in s).layout hl)
    rw [hcall] at hcalm
    refine Store.Truncates.calm ?_ hcalm
    rw [closeOpen_some _ hopen]
    exact closeMessage_truncates hl hopen
  | outgoing =>
    rw [hd] at hopen
    rw [closeOpen_none _ (open?_eq_none_of_other hl hopen (d1 := .in) Dir.noConfusion), closeOpen_some _ hopen]
    exact closeMessage_truncates hl hopen

theorem messagesClosed_call (s : State) : (messagesClosed s).call = s.call := by simp [messagesClosed]

theorem abandon_leaves (r : Reader) (st : Store) :
    (st.abandon r).dir = st.dir ∧ (st.abandon r).free = st.free ∧ (st.abandon r).fixture = st.fixture := by
  cases r <;> exact ⟨rfl, rfl, rfl⟩

theorem abandonAll_leaves (st : Store) :
    st.abandonAll.dir = st.dir ∧ st.abandonAll.free = st.free ∧ st.abandonAll.fixture = st.fixture := by
  unfold Store.abandonAll
  simp only [abandon_leaves, and_self]

theorem blocksReset_calm (auto : Bool) (s : State) : s.store.Calm auto (blocksReset s).store := by
  obtain ⟨hdir, hfree, -⟩ := abandonAll_leaves s.store
  exact .ofEq hdir hfree

theorem softReset_calm (s : State) : (messagesClosed s).store.Calm s.call.autoRelease (softReset s).store := by
  have hgiven := givenUp_calm (messagesClosed s).names (blocksReset (messagesClosed s))
  have hcall : (blocksReset (messagesClosed s)).call.autoRelease = (messagesClosed s).call.autoRelease := rfl
  rw [hcall, messagesClosed_call] at hgiven
  rw [softReset_eq]
  exact (blocksReset_calm _ _).trans hgiven

theorem softReset_truncates {s : State} (hl : s.store.layoutInv) {e : Entry} (he : e ∈ s.store.dir) (ho : e.state = .open) :
    (softReset s).store.Truncates s.call.autoRelease e := by
  refine Store.Truncates.calm ?_ (softReset_calm s)
  obtain ⟨g, hdir, -, -, hg⟩ := flagUnprinted_map s.pr.resetNames s.store
  obtain ⟨hnumber, hd, hstate, -, hlength⟩ := (hg e).1
  have hflagged := closeBoth_truncates ((flagged_keeps s).layout hl) (e := g e) (hdir ▸ List.mem_map_of_mem he) (hstate.trans ho)
  unfold Store.Truncates at hflagged ⊢
  rw [hnumber, hd, hlength] at hflagged
  exact hflagged

/-! ### The request (R184, R190) -/

theorem exec_resetStation_of_asked {s s0 : State} (h : s.asked 0x52#8 [] s0) :
    exec (.resetStation []) s = .next (reply 0x52#8 (ok []) (softReset (touchStandby s0))) := by
  have hfree : s.store.hostRead.isNone = true := (Bool.and_eq_true_iff.mp h.1).2
  exact congrArg Host.Outcome.next ((if_pos hfree).trans (accept_asked_fits actResetStation h rfl))

theorem exec_resetStation_behindRead {s : State} {h : HostRead} {f : Frame} (hread : s.store.hostRead = some h)
    (hheld : s.link.holding = [f, ⟨0x52#8, []⟩]) (hreply : s.link.replies.any OutFrame.isReply = false)
    (hrx : s.link.rx ≠ .stopped) : exec (.resetStation []) s = .next (reply 0x52#8 (ok []) (softReset (autoReleaseTest h.number
      (reply 0x33#8 (plainAnswer .busy) { s with store := { s.store.abandon .host with hostRead := none } })))) := by
  have hbehind : s.resetBehindRead? = some s := by
    simp only [State.resetBehindRead?, hheld, if_true]
  have habort : abortRead s = autoReleaseTest h.number
      (reply 0x33#8 (plainAnswer .busy) { s with store := { s.store.abandon .host with hostRead := none } }) := by
    simp only [abortRead, hread, Option.map_some, nameOf, givenUp]
  refine congrArg Host.Outcome.next ?_
  rw [← habort]
  simp only [acceptReset, hread, hreply, hbehind, noBody, Option.isNone_some, List.isEmpty_nil, Bool.not_false, Bool.and_self,
    decide_eq_true hrx, if_true, Bool.false_eq_true, if_false]

/-! ### What a soft reset clears and keeps, block by block (R190) -/

theorem blocksReset_store (s : State) : (blocksReset s).store = s.store.abandonAll := rfl

theorem softReset_store_shape (s : State) : ∃ hd fr dir q, (softReset s).store =
    { (messagesClosed s).store.abandonAll with head := hd, free := fr, dir := dir, queue := q } :=
  givenUp_shape (messagesClosed s).names (blocksReset (messagesClosed s))

theorem messagesClosed_settles (s : State) : Settles { s with link := { s.link with mode := .pull } } (messagesClosed s) := by
  obtain ⟨g, -, -, hfix, -⟩ := flagUnprinted_map s.pr.resetNames s.store
  have hflagged : Settles { s with link := { s.link with mode := .pull } }
      { s with store := s.store.flagUnprinted s.pr.resetNames, link := { s.link with mode := .pull } } := { fixture := hfix }
  exact (hflagged.trans (closeOpen_settles .in _ _)).trans (closeOpen_settles .out _ _)

theorem softReset_fixture (s : State) : (softReset s).store.fixture = s.store.fixture := by
  obtain ⟨hd, fr, dir, q, h⟩ := softReset_store_shape s
  obtain ⟨-, -, habandoned⟩ := abandonAll_leaves (messagesClosed s).store
  rw [h]
  exact habandoned.trans (messagesClosed_settles s).fixture

theorem softReset_reads (s : State) : (softReset s).store.playRead = none ∧ (softReset s).store.printRead = none
    ∧ (softReset s).store.punchRead = none := by
  obtain ⟨hd, fr, dir, q, h⟩ := softReset_store_shape s
  rw [h]
  exact ⟨rfl, rfl, rfl⟩

theorem softReset_call (s : State) : (softReset s).call = s.call.softReset := by simp [softReset]

theorem softReset_rx (s : State) : (softReset s).rx = s.rx.softReset := by simp [softReset]

theorem softReset_tx (s : State) : (softReset s).tx = s.tx.softReset := by simp [softReset]

theorem softReset_agr (s : State) : (softReset s).agr = s.agr.softReset := by simp [softReset]

theorem softReset_kb (s : State) : (softReset s).kb = s.kb.softReset := by simp [softReset]

theorem softReset_pr (s : State) : (softReset s).pr = (messagesClosed s).pr.softReset := by
  rw [softReset_eq]
  simp [blocksReset]

theorem softReset_pu (s : State) : (softReset s).pu = (messagesClosed s).pu.softReset := by
  rw [softReset_eq]
  simp [blocksReset]

theorem softReset_link (s : State) :
    (softReset s).link = { (messagesClosed s).link with reports := [], mode := s.link.mode } := by
  rw [softReset_eq]
  simp [blocksReset]

/-- Settles O5: the request at once or behind a READ-MESSAGE, the OPEN message through its close, and the rest block by block. -/
theorem resetStationIsSoftReset : Obligations.ResetStationIsSoftReset := by
  refine ⟨fun _ _ => exec_resetStation_of_asked, fun _ _ _ => exec_resetStation_behindRead, fun s hl => ⟨?closed, ?message⟩, ?blocks⟩
  case closed => exact (softReset_calm s).none_open (messagesClosed_none_open hl)
  case message =>
    intro e he ho
    obtain ⟨-, htruncated, hstands⟩ := softReset_truncates hl he ho
    refine ⟨htruncated, fun ha => ?_⟩
    obtain ⟨x, hx, hn, -, hs⟩ := hstands ha
    obtain ⟨hflag, hlen⟩ := htruncated x hx hn
    refine ⟨x, hx, hn, ?_, hflag, hlen⟩
    have hno := (softReset_calm s).none_open (messagesClosed_none_open hl) x hx
    cases hst : x.state
    · exact absurd hst hno
    · rfl
    · exact absurd hst hs
  case blocks =>
    intro s
    have hfixture := softReset_fixture s
    simp only [Store.fixture, Prod.mk.injEq] at hfixture
    obtain ⟨hinit, htail, hnext, hbanks, hdebt⟩ := hfixture
    obtain ⟨hplay, hprint, hpunch⟩ := softReset_reads s
    have hsettles := messagesClosed_settles s
    have hstate : (messagesClosed s).pr.softReset.state = if s.pr.paper then .off else .paperOut :=
      congrArg (fun p : Bool => if p then PrState.off else .paperOut) hsettles.paper
    obtain ⟨hmem, hpins, -, -⟩ := softReset_frame s
    rw [softReset_call, softReset_conv, softReset_rx, softReset_tx, softReset_agr, softReset_router, softReset_kb, softReset_pr,
      softReset_pu, softReset_link]
    exact ⟨hinit, htail, rfl, rfl, rfl, rfl, rfl, rfl, rfl, rfl, rfl, rfl, rfl, rfl, rfl, rfl, rfl, rfl, rfl, rfl, rfl, rfl, rfl,
      rfl, rfl, rfl, rfl, rfl, rfl, rfl, rfl, rfl, rfl, rfl, rfl, rfl, rfl, rfl, rfl, hstate, rfl, rfl, rfl, rfl, rfl, hnext,
      hbanks, hdebt, hplay, hprint, hpunch, rfl, rfl, fun hq => (hsettles.replies rfl hq).1, hsettles.rx, hsettles.holding, rfl,
      hmem, hpins⟩

end Sys2Proof.Machine
end
